-- ==== Sys2Proof/Word.lean ====
section
/-! DEFINITION. The word types of the SB7420: payloads and table rows are bytes, channels are seven bits. -/

namespace Sys2Proof

/-- One payload byte or table byte (R173). -/
abbrev Byte := BitVec 8

/-- The seven-bit channel of a standard identifier (R3). -/
abbrev Channel := BitVec 7

/-- The free-running 16-bit millisecond counter and the time stamps read from it (00_scope, "Units and ranges"). -/
abbrev Millis := BitVec 16

end Sys2Proof
end

