-- ==== Sys2Proof/Syntax.lean ====
section
/-! DEFINITION. The commands of the SB7420: one constructor for each row of spec/opcode_table.json, in the table's
order, with the names (ports, axes, quantities, frames) that their operands use. -/

namespace Sys2Proof

/-- The two CAN ports (00_scope, "Place in the network"). -/
inductive Port where
  | operator
  | machine
  deriving DecidableEq, Repr

/-- The three governed axes, channels 0, 1 and 2 (R121). -/
inductive Axis where
  | rotary
  | crowd
  | hoist
  deriving DecidableEq, Repr

/-- The six measured quantities, in quantity order (R32, R33). -/
inductive Quantity where
  | payout
  | head
  | angle
  | torque
  | force
  | rope
  deriving DecidableEq, Repr

/-- A whole frame as a port receives, queues and sends it (R2): identifier, format, data or remote kind, payload length
and payload bytes.  A remote frame has a length and no bytes. -/
structure Frame where
  extended : Bool
  remote   : Bool
  id       : Nat
  len      : Nat
  data     : List Byte
  deriving DecidableEq, Repr

/-- The commands and events the part takes: one constructor for each row of the table of operations and events.

A received frame's row carries what distinguishes frames of that row: the axis or channel and the raw payload.  A
management row stands for a frame on the management channel in force (R5). -/
inductive Instr where
  /-- POWER_ON_RESET; `rateHigh` is the level on RATE at the end of the reset (R1). -/
  | powerOnReset (rateHigh : Bool)
  /-- RESET_LOW. -/
  | resetLow
  /-- RESET_HIGH; `rateHigh` is the level on RATE when RESET returns high (R1). -/
  | resetHigh (rateHigh : Bool)
  /-- TRANSMIT_START at one port. -/
  | transmitStart (p : Port)
  /-- TRANSMIT_COMPLETE at one port; `rateHigh` is the level on RATE, read only where the frame is the reply to RESTART
  (R1, R20). -/
  | transmitComplete (p : Port) (rateHigh : Bool)
  /-- LOST_ARBITRATION at one port; the winning frame, if it ended without error, or none if its reception did not
  complete (then RECEIVE_ERROR tells of the error). -/
  | lostArbitration (p : Port) (winner : Option Frame)
  /-- TRANSMISSION_ERROR at one port; `ackUnseen` says that the error was an acknowledgement error and that no dominant bit
  was seen during the port's passive error flag (R14). -/
  | transmissionError (p : Port) (ackUnseen : Bool)
  /-- RECEIVE_ERROR at one port. -/
  | receiveError (p : Port)
  /-- BUS_OFF_RECOVERY at one port: `runs` further occurrences of 11 recessive bits have been counted (R17). -/
  | busOffRecovery (p : Port) (runs : Nat)
  /-- FORWARD: a frame received at `p`. -/
  | forward (p : Port) (f : Frame)
  /-- FOREIGN_FRAME: a frame received at `p`. -/
  | foreignFrame (p : Port) (f : Frame)
  /-- STOP_FRAME received at `p`, on a channel, with a payload of 0 to 8 bytes. -/
  | stopFrame (p : Port) (ch : Channel) (payload : List Byte)
  /-- OPERATOR_COMMAND received at the operator port on an axis channel. -/
  | operatorCommand (a : Axis) (payload : List Byte)
  /-- SENSOR_SAMPLE received at the machine port.  `early` says that the frame was received, and so classified, before the
  latest rig profile commit completed, and is taken after it (R33, R41). -/
  | sensorSample (ch : Channel) (payload : List Byte) (early : Bool)
  /-- DRIVER_ECHO received at the machine port on an axis channel. -/
  | driverEcho (a : Axis) (payload : List Byte)
  /-- UNKNOWN_KIND: a management frame of the given payload. -/
  | unknownKind (payload : List Byte)
  /-- SELECT of a table, a row and its row check. -/
  | select (table row check : Byte)
  /-- SEGMENT; `body` is the payload after the kind byte: the segment index and the row bytes. -/
  | segment (body : List Byte)
  /-- COMMIT. -/
  | commit
  /-- COMMIT_COMPLETION. -/
  | commitCompletion
  /-- READ of a table, a row and a view. -/
  | read (table row view : Byte)
  /-- The CONTROL of code 1. -/
  | release
  /-- The CONTROL of code 2. -/
  | hold
  /-- The CONTROL of code 3. -/
  | stopClear
  /-- The CONTROL of code 4. -/
  | clearFaults
  /-- The CONTROL of code 5. -/
  | clearLoadErrors
  /-- The CONTROL of code 6. -/
  | discardPending
  /-- The CONTROL of code 7. -/
  | clearCounters
  /-- The CONTROL of code 8. -/
  | restart
  /-- STOP_QUIET_TIMER_EXPIRY. -/
  | stopQuietTimerExpiry
  /-- SENSOR_FRESHNESS_EXPIRY of one quantity. -/
  | sensorFreshnessExpiry (q : Quantity)
  /-- OPERATOR_FRESHNESS_EXPIRY of one axis. -/
  | operatorFreshnessExpiry (a : Axis)
  /-- RAMP_TIMER_EXPIRY of one axis. -/
  | rampTimerExpiry (a : Axis)
  /-- ECHO_TIMER_EXPIRY of one axis. -/
  | echoTimerExpiry (a : Axis)
  /-- REFRESH_TIMER_EXPIRY of one axis. -/
  | refreshTimerExpiry (a : Axis)
  /-- STALL_TIMER_EXPIRY. -/
  | stallTimerExpiry
  /-- RECOVERY_TIMER_EXPIRY. -/
  | recoveryTimerExpiry
  /-- SEQUENCE_TIMER_EXPIRY. -/
  | sequenceTimerExpiry
  /-- STATUS_TIMER_EXPIRY. -/
  | statusTimerExpiry
  deriving DecidableEq, Repr

end Sys2Proof
end

