-- ==== Sys2Proof/Decode.lean ====
section
/-! DEFINITION. The command that a word spells.  The rows of spec/opcode_table.json are events and operations of a block and
give no bits (every row's "fields" is empty), so no word spells a command. -/

namespace Sys2Proof

/-- No row of the table gives bits: no word of any length is a command. -/
def decodeTableWord (_nbits _w : Nat) : Option Instr := none

end Sys2Proof
end

