-- ==== Sys2Proof/Config.lean ====
section
/-! DEFINITION. The free values of the model: what the spec leaves open and never fixes.  They have no body, so no proof
can know them, and a theorem about the model holds whatever they are. -/

namespace Sys2Proof

/-- The order of two hand-offs that reach their blocks "with no order between them" (R43, R97; log 10): the `n`-th such
choice takes the first of the two orders or the second. -/
opaque Config.freeOrder : Nat → Bool

/-- Which of several timers that have run out in the same millisecond is taken first when no command is waiting (log 2):
the `n`-th such choice. -/
opaque Config.freePick : Nat → Nat

end Sys2Proof
end

