-- ==== Sys2Proof/Machine/Bytes.lean ====
section
/-! DEFINITION. Byte order, sign extension and check bytes: multi-byte fields are little-endian, signed fields in two's
complement (R173), and a check byte brings the sum of all bytes to 0 modulo 256 (R4). -/

namespace Sys2Proof.Machine

open Sys2Proof

/-- A byte of a frame or row, 0 beyond its end. -/
def u8At (r : List Byte) (o : Nat) : Nat := (r.getD o 0).toNat

/-- The unsigned 16-bit field at byte `o`, low byte first. -/
def u16At (r : List Byte) (o : Nat) : Nat := u8At r o + 256 * u8At r (o + 1)

/-- The unsigned 24-bit field at byte `o`. -/
def u24At (r : List Byte) (o : Nat) : Nat := u16At r o + 65536 * u8At r (o + 2)

/-- The unsigned 32-bit field at byte `o`. -/
def u32At (r : List Byte) (o : Nat) : Nat := u16At r o + 65536 * u16At r (o + 2)

/-- The two's complement reading of an `n`-bit number. -/
def signExtend (bits n : Nat) : Int := if n < 2 ^ (bits - 1) then (n : Int) else (n : Int) - 2 ^ bits

/-- The signed 16-bit field at byte `o`. -/
def s16At (r : List Byte) (o : Nat) : Int := signExtend 16 (u16At r o)

/-- The signed 24-bit field at byte `o` (s24 of R173). -/
def s24At (r : List Byte) (o : Nat) : Int := signExtend 24 (u24At r o)

/-- The signed 32-bit field at byte `o`. -/
def s32At (r : List Byte) (o : Nat) : Int := signExtend 32 (u32At r o)

/-- The `k` bytes, low byte first, of an integer modulo 256 to the `k`. -/
def leBytes : Nat → Int → List Byte
  | 0, _ => []
  | k + 1, i => BitVec.ofInt 8 i :: leBytes k (i / 256)

/-- One byte. -/
def byte1 (i : Int) : List Byte := leBytes 1 i

/-- Two bytes, low byte first. -/
def byte2 (i : Int) : List Byte := leBytes 2 i

/-- The sum of bytes modulo 256. -/
def byteSum (bs : List Byte) : Byte := bs.foldr (· + ·) 0

/-- The check byte that brings the sum of `bs` and itself to 0 (R4). -/
def checkByte (bs : List Byte) : Byte := - byteSum bs

/-- The check of a payload, its check byte included, passes (R4). -/
def checkPasses (bs : List Byte) : Bool := byteSum bs == 0

/-- A row of bytes filled up with zeros to `n` bytes, or cut to them: bytes not listed are sent as 0 (R173). -/
def padTo (n : Nat) (bs : List Byte) : List Byte := bs.take n ++ List.replicate (n - bs.length) 0

/-- A value clamped into a range: below it the lower bound, above it the upper bound (00_scope, "Arithmetic"). -/
def clamp (lo hi v : Int) : Int := if v < lo then lo else if hi < v then hi else v

end Sys2Proof.Machine
end

