-- ==== Sys2Proof/Machine/State.lean ====
section
/-! DEFINITION. The state of the SB7420: every register, record, queue, timer, slot, counter and table the spec names, as
plain data, the queue of waiting commands, and the state right after power-on reset.  INVENTORY.md lists each field with
the rule that names it and its reset value. -/

namespace Sys2Proof.Machine

open Sys2Proof

/-! ## Names of states, modes and causes -/

/-- The bit rate of both ports (R1). -/
inductive BitRate where
  | kbit250
  | kbit500
  deriving DecidableEq, Repr

/-- The fault-confinement state of a port (R15, R16). -/
inductive PortStatus where
  | errorActive
  | errorPassive
  | busOff
  deriving DecidableEq, Repr

/-- The governor state (R20). -/
inductive GovernorState where
  | hold
  | govern
  | stopped
  deriving DecidableEq, Repr

/-- The freshness state of a sample record (R34). -/
inductive RecordState where
  | absent
  | fresh
  | stale
  deriving DecidableEq, Repr

/-- The lock state of a joint (R72). -/
inductive LockState where
  | free
  | locked
  | unknown
  deriving DecidableEq, Repr

/-- The geometry status (R59). -/
inductive GeometryStatus where
  | none
  | tracking
  | held
  deriving DecidableEq, Repr

/-- The state of an axis (R121). -/
inductive AxisState where
  | neutral
  | active
  | rampdown
  | auto
  | fault
  deriving DecidableEq, Repr

/-- The limit cause of an evaluation (R111, R112). -/
inductive LimitCause where
  | none
  | auto
  | slip
  | degraded
  | slack
  | strokeEnd
  | bandCap
  | rig
  | joint
  | band
  | backoff
  | slew
  deriving DecidableEq, Repr

/-- The mode of a governed command (R121). -/
inductive Mode where
  | neutral
  | active
  | auto
  deriving DecidableEq, Repr

/-- The state a valve driver reports in its echo (R143). -/
inductive DriverState where
  | active
  | neutral
  | fault
  deriving DecidableEq, Repr

/-- The delivery state of an axis (R139). -/
inductive DeliveryState where
  | idle
  | queued
  | await
  deriving DecidableEq, Repr

/-- The state of the Auto Sequencer (R153). -/
inductive SequencerState where
  | idle
  | locking
  | releasing
  deriving DecidableEq, Repr

/-- The exit causes of an axis, in bit order (R121, R173). -/
inductive ExitCause where
  | stale
  | stop
  | hold
  | busOff
  | driverLost
  | driverFault
  | lockSlip
  deriving DecidableEq, Repr

/-- The abort causes of a sequence, in bit order (R153, R173). -/
inductive AbortCause where
  | operator
  | opposite
  | stop
  | hold
  | stale
  | alignmentLost
  | timeout
  | fault
  | busOff
  deriving DecidableEq, Repr

/-- The kinds of fault that the fault records take, in code order (R177). -/
inductive FaultKind where
  | driverLost
  | driverFault
  | busOff
  | lockSlip
  | geometryMismatch
  deriving DecidableEq, Repr

/-! ## Families of like records -/

/-- One item for each port. -/
structure PerPort (α : Type) where
  operator : α
  machine  : α
  deriving DecidableEq, Repr

/-- The item of port `p`. -/
def PerPort.get {α : Type} (v : PerPort α) : Port → α
  | .operator => v.operator
  | .machine => v.machine

/-- `v` with the item of port `p` replaced. -/
def PerPort.set {α : Type} (v : PerPort α) (p : Port) (x : α) : PerPort α :=
  match p with
  | .operator => { v with operator := x }
  | .machine => { v with machine := x }

/-- One item for each axis. -/
structure PerAxis (α : Type) where
  rotary : α
  crowd  : α
  hoist  : α
  deriving DecidableEq, Repr

/-- The item of axis `a`. -/
def PerAxis.get {α : Type} (v : PerAxis α) : Axis → α
  | .rotary => v.rotary
  | .crowd => v.crowd
  | .hoist => v.hoist

/-- `v` with the item of axis `a` replaced. -/
def PerAxis.set {α : Type} (v : PerAxis α) (a : Axis) (x : α) : PerAxis α :=
  match a with
  | .rotary => { v with rotary := x }
  | .crowd => { v with crowd := x }
  | .hoist => { v with hoist := x }

/-- One item for each measured quantity. -/
structure PerQuantity (α : Type) where
  payout : α
  head   : α
  angle  : α
  torque : α
  force  : α
  rope   : α
  deriving DecidableEq, Repr

/-- The item of quantity `q`. -/
def PerQuantity.get {α : Type} (v : PerQuantity α) : Quantity → α
  | .payout => v.payout
  | .head => v.head
  | .angle => v.angle
  | .torque => v.torque
  | .force => v.force
  | .rope => v.rope

/-- `v` with the item of quantity `q` replaced. -/
def PerQuantity.set {α : Type} (v : PerQuantity α) (q : Quantity) (x : α) : PerQuantity α :=
  match q with
  | .payout => { v with payout := x }
  | .head => { v with head := x }
  | .angle => { v with angle := x }
  | .torque => { v with torque := x }
  | .force => { v with force := x }
  | .rope => { v with rope := x }

/-- A timer of the part: idle (`none`), or running with a number of milliseconds left. -/
abbrev Timer := Option Nat

/-! ## Ports -/

/-- Whose candidate the transmission in progress took its content from (R12, R13).  `replaced` marks a status page whose set
has been replaced since (R176): its completion removes nothing. -/
inductive TxSource where
  | stop
  | governed (a : Axis) (sequence : Nat)
  | forwarded
  | report
  | reply
  | status
  | replaced
  deriving DecidableEq, Repr

/-- A transmission in progress: the content taken at its start, and where it came from (R13). -/
structure Transmission where
  frame  : Frame
  source : TxSource
  deriving DecidableEq, Repr

/-- The five counters of a port (R18). -/
structure PortCounters where
  forwarded : Nat
  drops     : Nat
  foreign   : Nat
  format    : Nat
  busOff    : Nat
  deriving DecidableEq, Repr

/-- One port: error counts, bus-off recovery count, STOP relay slot, the forwarding queue that leads to this port with its
drop-reported mark, and the transmission in progress (R9 to R19). -/
structure PortRecord where
  txErrors    : Nat
  rxErrors    : Nat
  recovery    : Nat
  stopSlot    : Option Frame
  queue       : List Frame
  dropMark    : Bool
  sending     : Option Transmission
  deriving DecidableEq, Repr

/-! ## Sensor Intake -/

/-- The six counters of a quantity (R47). -/
structure QuantityCounters where
  accepted      : Nat
  checkFailures : Nat
  duplicates    : Nat
  gaps          : Nat
  rangeErrors   : Nat
  degraded      : Nat
  deriving DecidableEq, Repr

/-- The sample record of a quantity and its freshness timer (R34). -/
structure SensorRecord where
  state     : RecordState
  value     : Option Int
  secondary : Option Int
  lastAlive : Option Nat
  stamp     : Option Millis
  timer     : Timer
  deriving DecidableEq, Repr

/-! ## Kelly Tracker -/

/-- A joint record (R72). -/
structure Joint where
  offset    : Int
  lock      : LockState
  lockedRow : Option Nat
  nearest   : Nat
  aligned   : Bool
  deriving DecidableEq, Repr

/-! ## Axis Governors and Delivery Unit -/

/-- The six counters of an Axis Governor (R137). -/
structure AxisCounters where
  accepted      : Nat
  checkFailures : Nat
  duplicates    : Nat
  gaps          : Nat
  clamped       : Nat
  notCentred    : Nat
  deriving DecidableEq, Repr

/-- The axis record (R121).  `exits` is the exit-cause set, one bit per cause. -/
structure AxisRecord where
  state     : AxisState
  demand    : Option Int
  lastAlive : Option Nat
  governed  : Int
  cause     : LimitCause
  lastEval  : Option Millis
  exits     : BitVec 7
  freshness : Timer
  ramp      : Timer
  deriving DecidableEq, Repr

/-- The six counters of an axis's delivery (R152). -/
structure DeliveryCounters where
  superseded    : Nat
  retries       : Nat
  misses        : Nat
  lateEchoes    : Nat
  driverNeutral : Nat
  checkFailures : Nat
  deriving DecidableEq, Repr

/-- The delivery record (R139): `value` and `mode` are the latest frame. -/
structure DeliveryRecord where
  state         : DeliveryState
  sequence      : Nat
  value         : Int
  mode          : Mode
  retry         : Nat
  missStreak    : Nat
  lastDelivered : Int
  lastEcho      : Option (DriverState × Int)
  echo          : Timer
  refresh       : Timer
  deriving DecidableEq, Repr

/-! ## Tables, Load Unit and Report Unit -/

/-- The 16 bytes of a table row (R173). -/
abbrev Row := List Byte

/-- A table of the Table Store: its validity mark, and its rows, each present or not (R169, R172). -/
structure Table where
  valid : Bool
  rows  : List (Option Row)
  deriving DecidableEq, Repr

/-- The Table Store: tables 1 to 4 (R163). -/
structure Tables where
  rig    : Table
  bar    : Table
  pocket : Table
  bore   : Table
  deriving DecidableEq, Repr

/-- The select state SELECTED (R165): the table, row and row check named, the next segment expected, and the bytes kept. -/
structure Selection where
  table : Nat
  row   : Nat
  check : Byte
  next  : Nat
  bytes : List Byte
  deriving DecidableEq, Repr

/-- An entry of the load buffer (R166). -/
structure BufferEntry where
  table : Nat
  row   : Nat
  bytes : Row
  deriving DecidableEq, Repr

/-- A commit in flight (R167): the number of rows taken, and the milliseconds left of the 25 within which it completes. -/
structure Flight where
  taken : Nat
  left  : Nat
  deriving DecidableEq, Repr

/-- A filled fault record (R177). -/
structure FaultRecord where
  kind      : FaultKind
  subject   : Nat
  depth     : Option Int
  extension : Int
  stamp     : Millis
  lost      : Nat
  deriving DecidableEq, Repr

/-- The four counters of the part (R179). -/
structure PartCounters where
  skippedSegments : Nat
  managementDrops : Nat
  reportsLost     : Nat
  stalls          : Nat
  deriving DecidableEq, Repr

/-- All 86 counters (R179), by owner. -/
structure Counters where
  port     : PerPort PortCounters
  axis     : PerAxis AxisCounters
  delivery : PerAxis DeliveryCounters
  quantity : PerQuantity QuantityCounters
  part     : PartCounters
  deriving DecidableEq, Repr

/-! ## The state -/

/-- The whole state of the part.

Held once and computed where it is read: the port state (R15, from the error counts), the geometry status (R59), the
stall detector's state (R114, TIMING exactly while the stall timer runs), the aligned set (R56) and the remaining stroke
(R65); see Machine/Flags.lean. -/
structure State where
  /-- The commands that wait, first in, first out. -/
  pending       : List Instr
  /-- RESET is held low (R1). -/
  resetLow      : Bool
  /-- The bit rate of both ports (R1). -/
  bitRate       : BitRate
  /-- The free-running millisecond counter. -/
  millis        : Millis
  /-- The two ports (R9 to R19). -/
  ports         : PerPort PortRecord
  /-- The management channel in force (R3, R163). -/
  channel       : Channel
  /-- The governor state (R20). -/
  governor      : GovernorState
  /-- The stop quiet timer (R28). -/
  quiet         : Timer
  /-- The sample records (R34). -/
  sensors       : PerQuantity SensorRecord
  /-- MODEL's own: the sensor map before the latest rig profile commit (log 12). -/
  earlierMap    : Option (List Nat)
  /-- The joint records, joint 1 first (R72). -/
  joints        : List Joint
  /-- The extension in force, mm (R65). -/
  extension     : Int
  /-- The MISMATCH mark (R60). -/
  mismatch      : Bool
  /-- The tool depth held, mm (R57). -/
  depthHeld     : Option Int
  /-- Key travel A, 0.1 degree (R73). -/
  keyTravel     : Int
  /-- The angle reference (R73). -/
  angleRef      : Option Int
  /-- The band in force: a band index of the active plan, or the default band (R94). -/
  band          : Option Nat
  /-- The backoff factor b, per mille (R114). -/
  backoff       : Int
  /-- The stall timer (R114). -/
  stallTimer    : Timer
  /-- The recovery timer (R114). -/
  recoveryTimer : Timer
  /-- The axis records (R121). -/
  axes          : PerAxis AxisRecord
  /-- The delivery records (R139). -/
  deliveries    : PerAxis DeliveryRecord
  /-- The Auto Sequencer's state (R153). -/
  sequencer     : SequencerState
  /-- The sequence timer (R153). -/
  sequenceTimer : Timer
  /-- The abort-cause set, one bit per cause (R153). -/
  aborts        : BitVec 9
  /-- The Table Store (R163). -/
  tables        : Tables
  /-- The select state (R165). -/
  selection     : Option Selection
  /-- The load error flags OVERRUN, FORMAT, CHECK in bits 0, 1, 2 (R165). -/
  loadFlags     : BitVec 3
  /-- The load buffer, head first (R166). -/
  buffer        : List BufferEntry
  /-- The commit in flight (R167). -/
  flight        : Option Flight
  /-- The reply slot, first frame first (R164). -/
  replies       : List Frame
  /-- A RESTART has been answered and its warm reset waits for the reply (R20). -/
  restarting    : Bool
  /-- The report queue, head first (R175). -/
  reports       : List Frame
  /-- The status slot, next page first (R176). -/
  statusSlot    : List Frame
  /-- The status timer (R176). -/
  statusTimer   : Timer
  /-- The machine-side fault record (R177). -/
  machineFault  : Option FaultRecord
  /-- The bar fault record (R177). -/
  barFault      : Option FaultRecord
  /-- The counters (R179). -/
  counters      : Counters
  /-- MODEL's own: how many free choices have been made (log 10, log 29). -/
  choices       : Nat
  deriving DecidableEq, Repr

/-- The reasons a step could stop with a fault: none.  The spec gives every command and event of the part an effect, and
none of them stops it, so no meaning raises a fault. -/
inductive Fault where
  deriving DecidableEq, Repr

/-- The reasons a command could be refused. -/
inductive Refusal where
  /-- Raised by `exec` alone, for a command that has no meaning yet; safe.  No arm of `exec` raises it now. -/
  | notModelled (mnemonic : String)
  deriving DecidableEq, Repr

/-! ## The state after power-on reset -/

/-- Every counter at 0 (R179). -/
def Counters.zero : Counters :=
  let port : PortCounters := ⟨0, 0, 0, 0, 0⟩
  let axis : AxisCounters := ⟨0, 0, 0, 0, 0, 0⟩
  let delivery : DeliveryCounters := ⟨0, 0, 0, 0, 0, 0⟩
  let quantity : QuantityCounters := ⟨0, 0, 0, 0, 0, 0⟩
  { port := ⟨port, port⟩, axis := ⟨axis, axis, axis⟩, delivery := ⟨delivery, delivery, delivery⟩,
    quantity := ⟨quantity, quantity, quantity, quantity, quantity, quantity⟩, part := ⟨0, 0, 0, 0⟩ }

/-- A port after either reset (R19). -/
def PortRecord.initial : PortRecord :=
  { txErrors := 0, rxErrors := 0, recovery := 0, stopSlot := none, queue := [], dropMark := false, sending := none }

/-- A sample record after either reset (R48). -/
def SensorRecord.initial : SensorRecord :=
  { state := .absent, value := none, secondary := none, lastAlive := none, stamp := none, timer := none }

/-- An axis record after either reset (R138). -/
def AxisRecord.initial : AxisRecord :=
  { state := .neutral, demand := none, lastAlive := none, governed := 0, cause := .none, lastEval := none, exits := 0,
    freshness := none, ramp := none }

/-- A delivery record after power-on reset (R152). -/
def DeliveryRecord.initial : DeliveryRecord :=
  { state := .idle, sequence := 0, value := 0, mode := .neutral, retry := 0, missStreak := 0, lastDelivered := 0,
    lastEcho := none, echo := none, refresh := none }

/-- A table with `n` rows, none present and never committed (R172). -/
def Table.empty (n : Nat) : Table := { valid := false, rows := List.replicate n none }

/-- The Table Store after power-on reset: 10, 5, 8 and 25 rows, all empty (R172). -/
def Tables.empty : Tables :=
  { rig := Table.empty 10, bar := Table.empty 5, pocket := Table.empty 8, bore := Table.empty 25 }

/-- The report that the end of a power-on reset places (R21, R174): GOVERNOR_STATE, subject HOLD, detail RESET, time stamp 0,
at the built-in level 1, class 0x7, on management channel 127. -/
def resetReport : Frame :=
  { extended := false, remote := false, id := 0x3FF, len := 6, data := [1, 0, 5, 0, 0, 0] }

/-- The part right after power-on reset, with RATE low (log 4) and no command waiting. -/
def State.reset : State :=
  { pending := []
    resetLow := false
    bitRate := .kbit250
    millis := 0
    ports := ⟨PortRecord.initial, PortRecord.initial⟩
    channel := 127
    governor := .hold
    quiet := none
    sensors := ⟨SensorRecord.initial, SensorRecord.initial, SensorRecord.initial, SensorRecord.initial,
      SensorRecord.initial, SensorRecord.initial⟩
    earlierMap := none
    joints := []
    extension := 0
    mismatch := false
    depthHeld := none
    keyTravel := 0
    angleRef := none
    band := none
    backoff := 1000
    stallTimer := none
    recoveryTimer := none
    axes := ⟨AxisRecord.initial, AxisRecord.initial, AxisRecord.initial⟩
    deliveries := ⟨DeliveryRecord.initial, DeliveryRecord.initial, DeliveryRecord.initial⟩
    sequencer := .idle
    sequenceTimer := none
    aborts := 0
    tables := Tables.empty
    selection := none
    loadFlags := 0
    buffer := []
    flight := none
    replies := []
    restarting := false
    reports := [resetReport]
    statusSlot := []
    statusTimer := none
    machineFault := none
    barFault := none
    counters := Counters.zero
    choices := 0 }

end Sys2Proof.Machine
end

