-- ==== Sys2Proof/Machine/Codes.lean ====
section
/-! DEFINITION. The codes of R173 and R174: the numbers that stand for states, modes, causes, kinds and status codes in
frames and rows. -/

namespace Sys2Proof

/-- The port as a report's subject: operator 0, machine 1 (R174). -/
def Port.code : Port → Nat
  | .operator => 0
  | .machine => 1

/-- The other port. -/
def Port.other : Port → Port
  | .operator => .machine
  | .machine => .operator

/-- The axis channel (R121). -/
def Axis.code : Axis → Nat
  | .rotary => 0
  | .crowd => 1
  | .hoist => 2

/-- The quantity in quantity order. -/
def Quantity.code : Quantity → Nat
  | .payout => 0
  | .head => 1
  | .angle => 2
  | .torque => 3
  | .force => 4
  | .rope => 5

end Sys2Proof

namespace Sys2Proof.Machine

open Sys2Proof

/-- The three axes in channel order. -/
def allAxes : List Axis := [.rotary, .crowd, .hoist]

/-- The six quantities in quantity order. -/
def allQuantities : List Quantity := [.payout, .head, .angle, .torque, .force, .rope]

/-- HOLD 0, GOVERN 1, STOPPED 2. -/
def GovernorState.code : GovernorState → Nat
  | .hold => 0
  | .govern => 1
  | .stopped => 2

/-- NEUTRAL 0, ACTIVE 1, RAMPDOWN 2, AUTO 3, FAULT 4. -/
def AxisState.code : AxisState → Nat
  | .neutral => 0
  | .active => 1
  | .rampdown => 2
  | .auto => 3
  | .fault => 4

/-- Limit causes NONE 0 to SLEW 11. -/
def LimitCause.code : LimitCause → Nat
  | .none => 0
  | .auto => 1
  | .slip => 2
  | .degraded => 3
  | .slack => 4
  | .strokeEnd => 5
  | .bandCap => 6
  | .rig => 7
  | .joint => 8
  | .band => 9
  | .backoff => 10
  | .slew => 11

/-- Frame mode NEUTRAL 0, ACTIVE 1, AUTO 2. -/
def Mode.code : Mode → Nat
  | .neutral => 0
  | .active => 1
  | .auto => 2

/-- Driver state ACTIVE 0, NEUTRAL 1, FAULT 2. -/
def DriverState.code : DriverState → Nat
  | .active => 0
  | .neutral => 1
  | .fault => 2

/-- Record state ABSENT 0, FRESH 1, STALE 2. -/
def RecordState.code : RecordState → Nat
  | .absent => 0
  | .fresh => 1
  | .stale => 2

/-- Lock state FREE 0, LOCKED 1, UNKNOWN 2. -/
def LockState.code : LockState → Nat
  | .free => 0
  | .locked => 1
  | .unknown => 2

/-- Geometry status NONE 0, TRACKING 1, HELD 2. -/
def GeometryStatus.code : GeometryStatus → Nat
  | .none => 0
  | .tracking => 1
  | .held => 2

/-- Delivery state IDLE 0, QUEUED 1, AWAIT 2. -/
def DeliveryState.code : DeliveryState → Nat
  | .idle => 0
  | .queued => 1
  | .await => 2

/-- Sequencer state IDLE 0, LOCKING 1, RELEASING 2. -/
def SequencerState.code : SequencerState → Nat
  | .idle => 0
  | .locking => 1
  | .releasing => 2

/-- Port state ERROR_ACTIVE 0, ERROR_PASSIVE 1, BUS_OFF 2. -/
def PortStatus.code : PortStatus → Nat
  | .errorActive => 0
  | .errorPassive => 1
  | .busOff => 2

/-- The bit of an exit cause, STALE 0 to LOCK_SLIP 6. -/
def ExitCause.bit : ExitCause → Nat
  | .stale => 0
  | .stop => 1
  | .hold => 2
  | .busOff => 3
  | .driverLost => 4
  | .driverFault => 5
  | .lockSlip => 6

/-- The bit of an abort cause, OPERATOR 0 to BUS_OFF 8. -/
def AbortCause.bit : AbortCause → Nat
  | .operator => 0
  | .opposite => 1
  | .stop => 2
  | .hold => 3
  | .stale => 4
  | .alignmentLost => 5
  | .timeout => 6
  | .fault => 7
  | .busOff => 8

/-- Fault kinds in the order of R177. -/
def FaultKind.code : FaultKind → Nat
  | .driverLost => 0
  | .driverFault => 1
  | .busOff => 2
  | .lockSlip => 3
  | .geometryMismatch => 4

/-- The event kinds, in code order 1 to 20 (R173). -/
inductive EventKind where
  | governorState
  | stopSeen
  | axisState
  | axisFault
  | sensorStale
  | sensorFresh
  | jointLocked
  | jointsReleased
  | lockSlip
  | geometryMismatch
  | geometryRestored
  | bandEntered
  | stall
  | backoffRecovered
  | autoDone
  | autoAborted
  | autoRefused
  | forwardDrop
  | busState
  | foreignCommand
  deriving DecidableEq, Repr

/-- The code of an event kind, 1 to 20. -/
def EventKind.code : EventKind → Nat
  | .governorState => 1
  | .stopSeen => 2
  | .axisState => 3
  | .axisFault => 4
  | .sensorStale => 5
  | .sensorFresh => 6
  | .jointLocked => 7
  | .jointsReleased => 8
  | .lockSlip => 9
  | .geometryMismatch => 10
  | .geometryRestored => 11
  | .bandEntered => 12
  | .stall => 13
  | .backoffRecovered => 14
  | .autoDone => 15
  | .autoAborted => 16
  | .autoRefused => 17
  | .forwardDrop => 18
  | .busState => 19
  | .foreignCommand => 20

/-- The built-in report level of an event kind (R174). -/
def EventKind.builtInLevel : EventKind → Nat
  | .stopSeen | .axisFault | .lockSlip | .busState => 3
  | .governorState | .axisState | .sensorStale | .sensorFresh | .jointLocked | .jointsReleased | .geometryMismatch
  | .geometryRestored | .bandEntered | .stall | .backoffRecovered | .autoDone | .autoAborted | .autoRefused
  | .forwardDrop | .foreignCommand => 1

/-- The details of GOVERNOR_STATE, in the order of R174. -/
inductive GovernorDetail where
  | release
  | hold
  | stopClear
  | stopOperator
  | stopMachine
  | reset
  deriving DecidableEq, Repr

/-- RELEASE 0, HOLD 1, STOP_CLEAR 2, STOP at operator port 3, STOP at machine port 4, RESET 5. -/
def GovernorDetail.code : GovernorDetail → Nat
  | .release => 0
  | .hold => 1
  | .stopClear => 2
  | .stopOperator => 3
  | .stopMachine => 4
  | .reset => 5

/-- The details of SENSOR_STALE, in the order of R174. -/
inductive StaleCause where
  | expiry
  | sensorFault
  | remapped
  deriving DecidableEq, Repr

/-- EXPIRY 0, SENSOR_FAULT 1, REMAPPED 2. -/
def StaleCause.code : StaleCause → Nat
  | .expiry => 0
  | .sensorFault => 1
  | .remapped => 2

/-- The refusal causes of AUTO_REFUSED, in the order of R174. -/
inductive RequestRefusal where
  | state
  | geometry
  | angle
  | notAligned
  | demand
  | nothingLocked
  | conflict
  deriving DecidableEq, Repr

/-- STATE 0, GEOMETRY 1, ANGLE 2, NOT_ALIGNED 3, DEMAND 4, NOTHING_LOCKED 5, CONFLICT 6. -/
def RequestRefusal.code : RequestRefusal → Nat
  | .state => 0
  | .geometry => 1
  | .angle => 2
  | .notAligned => 3
  | .demand => 4
  | .nothingLocked => 5
  | .conflict => 6

/-- The status codes of a status reply. -/
inductive StatusCode where
  | ok
  | adjusted
  | busy
  | badRow
  | loadingHalted
  | loadError
  | refused
  deriving DecidableEq, Repr

/-- OK 0 to REFUSED 6. -/
def StatusCode.code : StatusCode → Nat
  | .ok => 0
  | .adjusted => 1
  | .busy => 2
  | .badRow => 3
  | .loadingHalted => 4
  | .loadError => 5
  | .refused => 6

/-- The refusal causes of a status reply; `none` where the reply refuses nothing. -/
inductive ReplyCause where
  | none
  | structure_
  | missingRows
  | barExtended
  | inService
  | notValid
  | state
  | conflict
  deriving DecidableEq, Repr

/-- STRUCTURE 1 to CONFLICT 7; no cause is coded 255, as "none" is in a one-byte field (R173, log 14). -/
def ReplyCause.code : ReplyCause → Nat
  | .none => 255
  | .structure_ => 1
  | .missingRows => 2
  | .barExtended => 3
  | .inService => 4
  | .notValid => 5
  | .state => 6
  | .conflict => 7

end Sys2Proof.Machine
end

