-- ==== Sys2Proof/Machine/Tables.lean ====
section
/-! DEFINITION. The four tables: the fields of every row (R173), their ranges and clamping (R49, R50, R52, R90, R92, R100,
R168), the pocket rows of a joint (R51), and the missing-row and structure checks of a commit (R49 to R52, R89 to R91,
R33, R168).  A row that is not present reads as zeros. -/

namespace Sys2Proof.Machine

open Sys2Proof

/-! ## Rows -/

/-- The bytes of row `i`; none where the row is not present. -/
def Table.row (t : Table) (i : Nat) : Row := (t.rows.getD i none).getD []

/-- Row `i` is present (R169). -/
def Table.present (t : Table) (i : Nat) : Bool := (t.rows.getD i none).isSome

/-- Table `id` of the store: 1 rig profile, 2 bar profile, 3 pocket table, 4 bore plan (R163). -/
def Tables.get (ts : Tables) (id : Nat) : Table :=
  if id = 1 then ts.rig else if id = 2 then ts.bar else if id = 3 then ts.pocket else ts.bore

/-- The store with table `id` replaced. -/
def Tables.set (ts : Tables) (id : Nat) (t : Table) : Tables :=
  if id = 1 then { ts with rig := t } else if id = 2 then { ts with bar := t }
  else if id = 3 then { ts with pocket := t } else { ts with bore := t }

/-- The number of rows of table `id`, 0 where there is no such table (R163, R173). -/
def rowCount (id : Nat) : Nat :=
  if id = 1 then 10 else if id = 2 then 5 else if id = 3 then 8 else if id = 4 then 25 else 0

/-! ## Fields of the rig profile (R173, "Table rows") -/

namespace Rig

/-- Row 0: the management channel. -/
def channel (t : Table) : Nat := u8At (t.row 0) 0
/-- Row 0: the status period, ms (R176). -/
def statusPeriod (t : Table) : Nat := u16At (t.row 0) 1
/-- Row 0: the stop quiet period, ms (R28). -/
def stopQuiet (t : Table) : Nat := u16At (t.row 0) 3
/-- Row 0: the band hysteresis h, mm (R94). -/
def hysteresis (t : Table) : Int := u16At (t.row 0) 5
/-- Row 0: the rope offset P0, mm (R57). -/
def ropeOffset (t : Table) : Int := u32At (t.row 0) 7
/-- Row 1: the sensor map, six channels in quantity order (R33). -/
def sensorMap (t : Table) : List Nat := (List.range 6).map (u8At (t.row 1))
/-- Row 1: the operator deadband, per mille (R123). -/
def deadband (t : Table) : Int := u8At (t.row 1) 6
/-- Row 1: the retract tolerance, mm (R56, R66). -/
def retractTolerance (t : Table) : Int := u16At (t.row 1) 7
/-- Row 2: the freshness reload of a quantity, ms (R40). -/
def freshness (t : Table) (q : Quantity) : Nat := u16At (t.row 2) (2 * q.code)
/-- Row 2: the geometry tolerance, mm (R62). -/
def geometryTolerance (t : Table) : Int := u16At (t.row 2) 12
/-- Row 2: the slip tolerance, mm (R63). -/
def slipTolerance (t : Table) : Int := u16At (t.row 2) 14
/-- Row 3: the torque maximum. -/
def torqueMax (t : Table) : Int := u16At (t.row 3) 0
/-- Row 3: the crowd-down maximum. -/
def crowdDownMax (t : Table) : Int := u16At (t.row 3) 2
/-- Row 3: the crowd-up maximum. -/
def crowdUpMax (t : Table) : Int := u16At (t.row 3) 4
/-- Row 3: the rope maximum. -/
def ropeMax (t : Table) : Int := u16At (t.row 3) 6
/-- Row 3: the reverse factor, per mille. -/
def reverseFactor (t : Table) : Int := u16At (t.row 3) 8
/-- Row 3: the slack threshold, kN. -/
def slackThreshold (t : Table) : Int := u16At (t.row 3) 10
/-- Row 3: the end zone, mm. -/
def endZone (t : Table) : Int := u16At (t.row 3) 12
/-- Row 3: the creep cap, per mille. -/
def creepCap (t : Table) : Int := u16At (t.row 3) 14
/-- Row 4: the knee of an axis, per mille. -/
def knee (t : Table) (a : Axis) : Int := u16At (t.row 4) (2 * a.code)
/-- Row 4: the slew of an axis, per mille in 10 ms. -/
def slew (t : Table) (a : Axis) : Int := u16At (t.row 4) (6 + 2 * a.code)
/-- Row 4: the blind rotary cap. -/
def blindRotaryCap (t : Table) : Int := u16At (t.row 4) 12
/-- Row 4: the blind crowd cap. -/
def blindCrowdCap (t : Table) : Int := u16At (t.row 4) 14
/-- Row 5: the operator freshness reload of an axis, ms (R121). -/
def operatorFreshness (t : Table) (a : Axis) : Nat := u16At (t.row 5) (2 * a.code)
/-- Row 5: the refresh period, ms (R139). -/
def refreshPeriod (t : Table) : Nat := u8At (t.row 5) 6
/-- Row 5: the echo window, ms (R139). -/
def echoWindow (t : Table) : Nat := u8At (t.row 5) 7
/-- Row 5: the retry limit (R146). -/
def retryLimit (t : Table) : Nat := u8At (t.row 5) 8
/-- Row 5: the miss limit (R146). -/
def missLimit (t : Table) : Nat := u8At (t.row 5) 9
/-- Row 5: the ramp step, per mille (R128). -/
def rampStep (t : Table) : Int := u16At (t.row 5) 10
/-- Row 6: the stall speed, 0.1 rpm. -/
def stallSpeed (t : Table) : Int := u8At (t.row 6) 0
/-- Row 6: the stall fraction, per mille. -/
def stallFraction (t : Table) : Int := u16At (t.row 6) 1
/-- Row 6: the stall time, ms. -/
def stallTime (t : Table) : Nat := u16At (t.row 6) 3
/-- Row 6: the backoff level, per mille. -/
def backoffLevel (t : Table) : Int := u16At (t.row 6) 5
/-- Row 6: the backoff floor, per mille. -/
def backoffFloor (t : Table) : Int := u16At (t.row 6) 7
/-- Row 6: the recovery step, per mille. -/
def recoveryStep (t : Table) : Int := u16At (t.row 6) 9
/-- Row 6: the recovery period, ms. -/
def recoveryPeriod (t : Table) : Nat := u16At (t.row 6) 11
/-- Row 6: the ramp period, ms (R128). -/
def rampPeriod (t : Table) : Nat := u8At (t.row 6) 13
/-- Row 7: the auto timeout, ms (R156). -/
def autoTimeout (t : Table) : Nat := u16At (t.row 7) 9
/-- Row 8: the report level of the event kind of code `k`, two bits each from bit 0 of byte 0 (R174). -/
def reportLevel (t : Table) (k : Nat) : Nat := u8At (t.row 8) ((k - 1) / 4) / 4 ^ ((k - 1) % 4) % 4

end Rig

/-! ## Fields of the bar profile, pocket table and bore plan -/

namespace Bar

/-- Header: the section count S (R49). -/
def sections (t : Table) : Nat := u8At (t.row 0) 0
/-- Header: the retracted length B0, mm. -/
def retracted (t : Table) : Int := u16At (t.row 0) 1
/-- Header: the row tolerance, mm. -/
def rowTolerance (t : Table) : Int := u16At (t.row 0) 3
/-- Header: the lock angle, 0.1 degree. -/
def lockAngle (t : Table) : Int := u16At (t.row 0) 5
/-- Header: the release angle, 0.1 degree. -/
def releaseAngle (t : Table) : Int := u16At (t.row 0) 7
/-- Header: the lock creep, per mille. -/
def lockCreep (t : Table) : Int := u16At (t.row 0) 9
/-- Header: the release creep, per mille. -/
def releaseCreep (t : Table) : Int := u16At (t.row 0) 11
/-- Header: the overlap derate, per mille. -/
def overlapDerate (t : Table) : Int := u16At (t.row 0) 13
/-- Joint `j` (1 to 4): the stroke, mm (R50). -/
def stroke (t : Table) (j : Nat) : Int := u16At (t.row j) 0
/-- Joint `j`: the friction capacity, kN. -/
def friction (t : Table) (j : Nat) : Int := u16At (t.row j) 2
/-- Joint `j`: the torque rating, 0.1 kN m. -/
def torqueRating (t : Table) (j : Nat) : Int := u16At (t.row j) 4
/-- Joint `j`: the overlap zone, mm. -/
def overlapZone (t : Table) (j : Nat) : Int := u16At (t.row j) 6
/-- Joint `j`: the row window mode, UNIFORM 0 or LISTED 1. -/
def mode (t : Table) (j : Nat) : Nat := u8At (t.row j) 8
/-- Joint `j`: the row count. -/
def rows (t : Table) (j : Nat) : Nat := u8At (t.row j) 9
/-- Joint `j`, UNIFORM: the first row offset, mm. -/
def firstRow (t : Table) (j : Nat) : Int := u16At (t.row j) 10
/-- Joint `j`, UNIFORM: the pitch, mm. -/
def pitch (t : Table) (j : Nat) : Int := u16At (t.row j) 12
/-- Joint `j`, UNIFORM: the capacity of every row, kN. -/
def uniformCapacity (t : Table) (j : Nat) : Int := u16At (t.row j) 14
/-- Joint `j`, LISTED: the start index. -/
def startIndex (t : Table) (j : Nat) : Nat := u8At (t.row j) 10
/-- Joint `j` is in LISTED mode. -/
def listed (t : Table) (j : Nat) : Bool := mode t j == 1
/-- The numbers of the joints in use, 1 to S-1 (R49); there are joint rows 1 to 4. -/
def joints (t : Table) : List Nat := (List.range (min (sections t - 1) 4)).map (· + 1)

end Bar

namespace Pocket

/-- The offset of pocket entry `i`, mm (R52). -/
def offset (t : Table) (i : Nat) : Int := u16At (t.row (i / 4)) (4 * (i % 4))
/-- The capacity of pocket entry `i`, kN. -/
def capacity (t : Table) (i : Nat) : Int := u16At (t.row (i / 4)) (4 * (i % 4) + 2)

end Pocket

/-- The fields of a band, plan band or default band, that the other blocks read (R90, R92). -/
structure BandFields where
  ground     : Nat
  crowdCap   : Int
  torqueCap  : Int
  rotaryCap  : Int
  hoistCap   : Int
  stallWatch : Bool
  deriving DecidableEq, Repr

namespace Bore

/-- Header: the band count (R89). -/
def count (t : Table) : Nat := u8At (t.row 0) 0
/-- The top of band `i`, held in row `i + 1`. -/
def top (t : Table) (i : Nat) : Int := s24At (t.row (i + 1)) 0
/-- The bottom of band `i`. -/
def bottom (t : Table) (i : Nat) : Int := s24At (t.row (i + 1)) 3
/-- The other fields of band `i`. -/
def fields (t : Table) (i : Nat) : BandFields :=
  let r := t.row (i + 1)
  { ground := u8At r 6, crowdCap := u16At r 7, torqueCap := u16At r 9, rotaryCap := u16At r 11, hoistCap := u16At r 13,
    stallWatch := u8At r 15 == 1 }
/-- Band `i` contains the depth `z`: the half-open interval from top to bottom (R90). -/
def contains (t : Table) (i : Nat) (z : Int) : Bool := decide (top t i ≤ z) && decide (z < bottom t i)
/-- The band in use that contains `z`, if any (R91). -/
def bandAt (t : Table) (z : Int) : Option Nat := (List.range (count t)).find? (fun i => contains t i z)

end Bore

/-- The default band's fields, from rig profile rows 7 and 9 (R92). -/
def defaultBand (rig : Table) : BandFields :=
  let r := rig.row 7
  { ground := u8At (rig.row 9) 0, crowdCap := u16At r 0, torqueCap := u16At r 2, rotaryCap := u16At r 4,
    hoistCap := u16At r 6, stallWatch := u8At r 8 == 1 }

/-- The management channel in force: that of a valid rig profile, 1 to 126, else 127 (R3, R163, R172). -/
def channelOf (ts : Tables) : Channel := if ts.rig.valid then BitVec.ofNat 7 (Rig.channel ts.rig) else 127

/-! ## Pocket rows of a joint (R51) -/

/-- The position of row `k` of joint `j`, mm. -/
def rowPosition (ts : Tables) (j k : Nat) : Int :=
  if Bar.listed ts.bar j then Pocket.offset ts.pocket (Bar.startIndex ts.bar j + k)
  else Bar.firstRow ts.bar j + k * Bar.pitch ts.bar j

/-- The capacity of row `k` of joint `j`, kN. -/
def rowCapacity (ts : Tables) (j k : Nat) : Int :=
  if Bar.listed ts.bar j then Pocket.capacity ts.pocket (Bar.startIndex ts.bar j + k)
  else Bar.uniformCapacity ts.bar j

/-- The total stroke: the sum of the strokes of joints 1 to S-1 (R50). -/
def totalStroke (bar : Table) : Int := ((Bar.joints bar).map (Bar.stroke bar)).sum

/-! ## Clamping (R168) -/

/-- A numeric field of a row: its first byte, its width in bytes, whether it is signed, and its range. -/
structure Field where
  at_    : Nat
  width  : Nat
  signed : Bool
  lo     : Int
  hi     : Int
  deriving DecidableEq, Repr

/-- The value of a field in a row. -/
def Field.read (f : Field) (r : Row) : Int :=
  let n := if f.width = 1 then u8At r f.at_ else if f.width = 2 then u16At r f.at_
    else if f.width = 3 then u24At r f.at_ else u32At r f.at_
  if f.signed then signExtend (8 * f.width) n else n

/-- The row with a field set to a value. -/
def Field.write (f : Field) (r : Row) (v : Int) : Row :=
  r.take f.at_ ++ leBytes f.width v ++ r.drop (f.at_ + f.width)

/-- An unsigned one-byte field. -/
def field1 (at_ : Nat) (lo hi : Int) : Field := ⟨at_, 1, false, lo, hi⟩
/-- An unsigned two-byte field. -/
def field2 (at_ : Nat) (lo hi : Int) : Field := ⟨at_, 2, false, lo, hi⟩

/-- The numeric fields of a row and their ranges.  Coded fields (stall watch, class, row window mode), the section count and
the band count are not clamped (R49, R50, R89, R90).  The fields of a joint row follow its row window mode. -/
def clampedFields (table row : Nat) (r : Row) : List Field :=
  if table = 1 then
    match row with
    | 0 => [field1 0 1 126, field2 1 0 1000, field2 3 100 2000, field2 5 0 500, ⟨7, 4, false, 0, 150000⟩]
    | 1 => (List.range 6).map (fun i => field1 i 0 127) ++ [field1 6 0 50, field2 7 10 200]
    | 2 => (List.range 6).map (fun i => field2 (2 * i) 10 1000) ++ [field2 12 20 500, field2 14 20 500]
    | 3 => [field2 0 1 8000, field2 2 1 1000, field2 4 1 1000, field2 6 1 1500, field2 8 300 1000, field2 10 0 1500,
        field2 12 100 3000, field2 14 0 1000]
    | 4 => (List.range 3).map (fun i => field2 (2 * i) 500 950) ++ (List.range 3).map (fun i => field2 (6 + 2 * i) 1 1000) ++
        [field2 12 0 1000, field2 14 0 1000]
    | 5 => (List.range 3).map (fun i => field2 (2 * i) 20 500) ++
        [field1 6 10 100, field1 7 2 50, field1 8 0 7, field1 9 1 8, field2 10 1 500]
    | 6 => [field1 0 1 50, field2 1 500 1000, field2 3 50 2000, field2 5 100 900, field2 9 10 500, field2 11 100 5000,
        field1 13 10 200]
    | 7 => [field2 0 0 1000, field2 2 0 8000, field2 4 0 1000, field2 6 0 1000, field2 9 1000 20000]
    | _ => []
  else if table = 2 then
    match row with
    | 0 => [field2 1 1000 30000, field2 3 10 200, field2 5 50 900, field2 7 50 900, field2 9 50 300, field2 11 50 300,
        field2 13 300 1000]
    | _ => [field2 0 500 20000, field2 2 0 200, field2 4 1 8000, field2 6 0 5000, field1 9 1 16] ++
        (if u8At r 8 = 1 then [field1 10 0 31] else [field2 10 0 20000, field2 12 1 20000, field2 14 0 1000])
  else if table = 3 then
    (List.range 4).flatMap (fun i => [field2 (4 * i) 0 20000, field2 (4 * i + 2) 0 1000])
  else
    match row with
    | 0 => []
    | _ => [⟨0, 3, true, -20000, 150000⟩, ⟨3, 3, true, -20000, 150000⟩, field2 7 0 1000, field2 9 0 8000,
        field2 11 0 1000, field2 13 0 1000]

/-- A row with one field clamped into its range. -/
def clampField (r : Row) (f : Field) : Row :=
  let v := f.read r
  let v' := clamp f.lo f.hi v
  if v' = v then r else f.write r v'

/-- How many bytes of a row its layout lists; every layout lists the first bytes of its row (R173).  A joint row whose mode
code is neither UNIFORM nor LISTED, which a commit refuses, lists what a UNIFORM row does, all 16: the model's choice (log 41). -/
def listedBytes (table row : Nat) (r : Row) : Nat :=
  if table = 1 then
    match row with
    | 0 => 11
    | 1 => 9
    | 5 => 12
    | 6 => 14
    | 7 => 11
    | 8 => 5
    | 9 => 1
    | _ => 16
  else if table = 2 then (if row = 0 then 15 else if u8At r 8 = 1 then 11 else 16)
  else if table = 4 ∧ row = 0 then 1
  else 16

/-- A row with the bytes that its layout does not list as 0: they are ignored when received and sent as 0 (R173). -/
def listedRow (table row : Nat) (r : Row) : Row := padTo 16 (r.take (listedBytes table row r))

/-- A row with every numeric field clamped (R168): the fields one by one; then the backoff floor into 100 to the backoff
level of the same row, and a status period of 1 to 19 raised to 20. -/
def clampRow (table row : Nat) (r : Row) : Row :=
  let c := (clampedFields table row r).foldl clampField r
  if table = 1 ∧ row = 6 then clampField c (field2 7 100 (u16At c 5))
  else if table = 1 ∧ row = 0 then
    if u16At c 1 = 0 then c else clampField c (field2 1 20 1000)
  else c

/-- A buffered row as a commit applies it: listed bytes only, clamped (R168, R173). -/
def BufferEntry.clamped (e : BufferEntry) : BufferEntry :=
  { e with bytes := clampRow e.table e.row (listedRow e.table e.row e.bytes) }

/-- Clamping changed a field of this buffered row (R168). -/
def BufferEntry.adjusted (e : BufferEntry) : Bool := e.clamped.bytes != listedRow e.table e.row e.bytes

/-! ## The tables as they would stand (R168 step 2) -/

/-- The store with one clamped row laid over it: the row becomes present and its table valid (R169). -/
def Tables.lay (ts : Tables) (e : BufferEntry) : Tables :=
  let t := ts.get e.table
  ts.set e.table { valid := true, rows := t.rows.set e.row (some e.bytes) }

/-- The store with rows laid over it in buffer order, the later of two rows for one place winning. -/
def Tables.layAll (ts : Tables) (es : List BufferEntry) : Tables := es.foldl Tables.lay ts

/-- The rows of a commit touch table `id`. -/
def touches (es : List BufferEntry) (id : Nat) : Bool := es.any (fun e => e.table == id)

/-- The rows of a commit hold row `row` of table `id`. -/
def touchesRow (es : List BufferEntry) (id row : Nat) : Bool := es.any (fun e => e.table == id && e.row == row)

/-! ## Validation (R168 steps 3 and 4) -/

/-- Why a commit is refused: the cause, and the table and row at fault (255 where no one row is). -/
structure CommitFault where
  cause : ReplyCause
  table : Nat
  row   : Nat
  deriving DecidableEq, Repr

/-- The rows that the touched tables need, in the order tested: tables in id order, rows ascending.  A LISTED joint in use
needs the eight pocket rows (R51, R168; log 17). -/
def neededRows (touched : Nat → Bool) (ts : Tables) : List (Nat × Nat) :=
  (if touched 1 then (List.range 10).map (fun r => (1, r)) else []) ++
  (if touched 2 then (2, 0) :: (Bar.joints ts.bar).map (fun j => (2, j)) else []) ++
  (if touched 3 || (touched 2 && (Bar.joints ts.bar).any (Bar.listed ts.bar)) then
    (List.range 8).map (fun r => (3, r)) else []) ++
  (if touched 4 then (4, 0) :: (List.range (min (Bore.count ts.bore) 24)).map (fun i => (4, i + 1)) else [])

/-- The first needed row that would not be present. -/
def missingRow (touched : Nat → Bool) (ts : Tables) : Option (Nat × Nat) :=
  (neededRows touched ts).find? (fun p => !(ts.get p.1).present p.2)

/-- No two quantities share a channel of the sensor map (R33). -/
def sensorMapDistinct (rig : Table) : Bool := decide (Rig.sensorMap rig).Nodup

/-- Each row position of joint `j` lies more than twice the row tolerance beyond the one before (R51). -/
def rowsSpaced (ts : Tables) (j : Nat) : Bool :=
  (List.range (Bar.rows ts.bar j - 1)).all (fun k =>
    decide (rowPosition ts j k + 2 * Bar.rowTolerance ts.bar < rowPosition ts j (k + 1)))

/-- Every row position of joint `j` lies within its stroke (R51). -/
def rowsInStroke (ts : Tables) (j : Nat) : Bool :=
  (List.range (Bar.rows ts.bar j)).all (fun k =>
    decide (0 ≤ rowPosition ts j k) && decide (rowPosition ts j k ≤ Bar.stroke ts.bar j))

/-- The row window of joint `j` is consistent (R51). -/
def windowConsistent (ts : Tables) (j : Nat) : Bool :=
  (if Bar.listed ts.bar j then decide (Bar.startIndex ts.bar j + Bar.rows ts.bar j ≤ 32)
    else decide (2 * Bar.rowTolerance ts.bar < Bar.pitch ts.bar j)) &&
  rowsSpaced ts j && rowsInStroke ts j

/-- The band rows present, by row number: their coded fields are in their sets (R90). -/
def boreCoded (bore : Table) (row : Nat) : Bool :=
  !bore.present row || (decide (u8At (bore.row row) 6 ≤ 3) && decide (u8At (bore.row row) 15 ≤ 1))

/-- The conditions on joint row `j` of the bar profile: a row present has a coded mode, and the window of a joint in use is
consistent (R50, R51). -/
def barRowSound (ts : Tables) (j : Nat) : Bool :=
  (!ts.bar.present j || decide (Bar.mode ts.bar j ≤ 1)) && (!(Bar.joints ts.bar).contains j || windowConsistent ts j)

/-- The conditions on band row `row` of the bore plan: a row present has its coded fields in their sets, and the top of a band
in use lies above its bottom (R90, R91). -/
def boreRowSound (bore : Table) (row : Nat) : Bool :=
  boreCoded bore row &&
  (!decide (row ≤ Bore.count bore) || decide (Bore.top bore (row - 1) < Bore.bottom bore (row - 1)))

/-- The structure conditions of the touched tables as (condition, table, row at fault), in the order tested (R168): tables in
id order and rows ascending, every condition on one row at that row.  A window of a pocket table commit alone and the order
of two bands name no one row, and stand after the rows of their table (log 18). -/
def structureChecks (touched : Nat → Bool) (ts : Tables) : List (Bool × Nat × Nat) :=
  (if touched 1 then
    [(sensorMapDistinct ts.rig, 1, 1), (decide (u8At (ts.rig.row 7) 8 ≤ 1), 1, 7),
      (decide (u8At (ts.rig.row 9) 0 ≤ 3), 1, 9)] else []) ++
  (if touched 2 then
    (decide (2 ≤ Bar.sections ts.bar) && decide (Bar.sections ts.bar ≤ 5), 2, 0) ::
    [1, 2, 3, 4].map (fun j => (barRowSound ts j, 2, j)) else []) ++
  (if touched 3 && !touched 2 && ts.bar.valid then
    (Bar.joints ts.bar).map (fun j => (windowConsistent ts j, 3, 255)) else []) ++
  (if touched 4 then
    (decide (Bore.count ts.bore ≤ 24), 4, 0) ::
    ((List.range 24).map (fun i => (boreRowSound ts.bore (i + 1), 4, i + 1)) ++
    (List.range (Bore.count ts.bore - 1)).map (fun i =>
      (decide (Bore.bottom ts.bore i ≤ Bore.top ts.bore (i + 1)), 4, 255))) else [])

/-- The first structural fault of a commit: missing rows before structure (R168). -/
def structuralFault (touched : Nat → Bool) (ts : Tables) : Option CommitFault :=
  match missingRow touched ts with
  | some (t, r) => some ⟨.missingRows, t, r⟩
  | none =>
    match (structureChecks touched ts).find? (fun c => !c.1) with
    | some (_, t, r) => some ⟨.structure_, t, r⟩
    | none => none

end Sys2Proof.Machine
end

