-- ==== Sys2Proof/Machine/Ops.lean ====
section
/-! DEFINITION. The named operations that every block uses: access to the records of a port, axis, delivery and quantity,
counters that stop at 65535, timers, handing an event to the Report Unit (R174, R175), offering a fault to a fault record
(R177), and placing a reply (R164).  Each is one record update, so what it leaves unchanged is true by `rfl`
(Sys2Proof/Laws/State.lean). -/

namespace Sys2Proof.Machine

open Sys2Proof

/-! ## Access to records -/

namespace State

/-- The record of port `p`. -/
def port (s : State) (p : Port) : PortRecord := s.ports.get p
/-- The record of axis `a`. -/
def axis (s : State) (a : Axis) : AxisRecord := s.axes.get a
/-- The delivery record of axis `a`. -/
def delivery (s : State) (a : Axis) : DeliveryRecord := s.deliveries.get a
/-- The sample record of quantity `q`. -/
def sensor (s : State) (q : Quantity) : SensorRecord := s.sensors.get q

/-- `s` with the record of port `p` replaced. -/
def setPort (s : State) (p : Port) (r : PortRecord) : State := { s with ports := s.ports.set p r }
/-- `s` with the record of axis `a` replaced. -/
def setAxis (s : State) (a : Axis) (r : AxisRecord) : State := { s with axes := s.axes.set a r }
/-- `s` with the delivery record of axis `a` replaced. -/
def setDelivery (s : State) (a : Axis) (r : DeliveryRecord) : State := { s with deliveries := s.deliveries.set a r }
/-- `s` with the sample record of quantity `q` replaced. -/
def setSensor (s : State) (q : Quantity) (r : SensorRecord) : State := { s with sensors := s.sensors.set q r }

end State

/-! ## Counters (R179) -/

/-- A counter one higher; at 65535 it stays. -/
def bump (n : Nat) : Nat := if n < 65535 then n + 1 else 65535

namespace State

/-- `s` with the counters of port `p` changed. -/
def countPort (s : State) (p : Port) (f : PortCounters → PortCounters) : State :=
  { s with counters := { s.counters with port := s.counters.port.set p (f (s.counters.port.get p)) } }
/-- `s` with the Axis Governor's counters of axis `a` changed. -/
def countAxis (s : State) (a : Axis) (f : AxisCounters → AxisCounters) : State :=
  { s with counters := { s.counters with axis := s.counters.axis.set a (f (s.counters.axis.get a)) } }
/-- `s` with the delivery counters of axis `a` changed. -/
def countDelivery (s : State) (a : Axis) (f : DeliveryCounters → DeliveryCounters) : State :=
  { s with counters := { s.counters with delivery := s.counters.delivery.set a (f (s.counters.delivery.get a)) } }
/-- `s` with the counters of quantity `q` changed. -/
def countQuantity (s : State) (q : Quantity) (f : QuantityCounters → QuantityCounters) : State :=
  { s with counters := { s.counters with quantity := s.counters.quantity.set q (f (s.counters.quantity.get q)) } }
/-- `s` with the counters of the part changed. -/
def countPart (s : State) (f : PartCounters → PartCounters) : State :=
  { s with counters := { s.counters with part := f s.counters.part } }

end State

/-! ## Timers -/

/-- The milliseconds left on a timer as a state table shows them: 0 while it is idle (log 15). -/
def Timer.left (t : Timer) : Nat := t.getD 0

/-- The timer has run out: it runs with no millisecond left, and its expiry has not been taken (log 3). -/
def Timer.due (t : Timer) : Bool := t == some 0

/-! ## Frames the part originates (R3) -/

/-- A standard data frame of a class and channel: the identifier is the class times 128 plus the channel (R3). -/
def ownFrame (cls channel : Nat) (data : List Byte) : Frame :=
  { extended := false, remote := false, id := cls * 128 + channel, len := data.length, data := data }

/-! ## Events and the report queue (R174, R175) -/

/-- The report level in force for an event kind: built in while no rig profile has been valid since power-on, then that of
rig profile row 8 (R174). -/
def reportLevel (s : State) (k : EventKind) : Nat :=
  if s.tables.rig.valid then Rig.reportLevel s.tables.rig k.code else k.builtInLevel

/-- The REPORT frame of an event handed over now: class 0x5, 0x6 or 0x7 for level 3, 2 or 1, on the management channel in
force, with kind, subject, detail and the millisecond counter (R173, R174). -/
def reportFrame (s : State) (k : EventKind) (subject : Nat) (detail : Int) : Frame :=
  ownFrame (8 - reportLevel s k) s.channel.toNat
    (byte1 k.code ++ byte1 subject ++ byte2 detail ++ byte2 s.millis.toNat)

/-- The event is dropped for its level 0, or lost because the queue holds 16, or appended (R174, R175). -/
def reportsAfter (s : State) (k : EventKind) (subject : Nat) (detail : Int) : List Frame :=
  if reportLevel s k = 0 ∨ 16 ≤ s.reports.length then s.reports else s.reports ++ [reportFrame s k subject detail]

/-- The reports-lost counter after an event: one higher where the queue holds 16 and the level is not 0 (R175). -/
def reportsLostAfter (s : State) (k : EventKind) : Nat :=
  if reportLevel s k ≠ 0 ∧ 16 ≤ s.reports.length then bump s.counters.part.reportsLost else s.counters.part.reportsLost

/-- An event handed to the Report Unit. -/
def report (s : State) (k : EventKind) (subject : Nat) (detail : Int) : State :=
  { s with
    reports := reportsAfter s k subject detail
    counters := { s.counters with part := { s.counters.part with reportsLost := reportsLostAfter s k } } }

/-! ## Fault records (R177) -/

/-- A record offered a fault: an empty record is filled, a filled one counts it as lost, stopping at 255. -/
def FaultRecord.offer (r : Option FaultRecord) (fresh : FaultRecord) : Option FaultRecord :=
  match r with
  | none => some fresh
  | some old => some { old with lost := if old.lost < 255 then old.lost + 1 else 255 }

/-- The record that a fault offered now would fill: the tool depth held, the extension in force (0 while the bar profile is
not valid) and the millisecond counter. -/
def freshFault (s : State) (k : FaultKind) (subject : Nat) : FaultRecord :=
  { kind := k, subject := subject, depth := s.depthHeld,
    extension := if s.tables.bar.valid then s.extension else 0, stamp := s.millis, lost := 0 }

/-- The machine-side record takes DRIVER_LOST, DRIVER_FAULT and BUS_OFF. -/
def FaultKind.machineSide : FaultKind → Bool
  | .driverLost | .driverFault | .busOff => true
  | .lockSlip | .geometryMismatch => false

/-- A fault offered to the record of its family. -/
def capture (s : State) (k : FaultKind) (subject : Nat) : State :=
  { s with
    machineFault := if k.machineSide then FaultRecord.offer s.machineFault (freshFault s k subject) else s.machineFault
    barFault := if k.machineSide then s.barFault else FaultRecord.offer s.barFault (freshFault s k subject) }

/-! ## Replies (R164) -/

/-- A MANAGEMENT REPLY frame, class 0x9, on the management channel in force. -/
def replyFrame (s : State) (data : List Byte) : Frame := ownFrame 9 s.channel.toNat data

/-- A status reply: request kind, status, cause, table, row, detail (R173). -/
def statusReply (s : State) (kind : Nat) (status : StatusCode) (cause : ReplyCause) (table row detail : Nat) : Frame :=
  replyFrame s (byte1 kind ++ byte1 status.code ++ byte1 cause.code ++ byte1 table ++ byte1 row ++ byte1 detail)

/-- The status reply placed behind what the reply slot holds. -/
def reply (s : State) (kind : Nat) (status : StatusCode) (cause : ReplyCause) (table row detail : Nat) : State :=
  { s with replies := s.replies ++ [statusReply s kind status cause table row detail] }

/-- "None" in a one-byte field (R173, log 14). -/
def noneByte : Nat := 255

/-! ## Free choices (log 10) -/

/-- The free choice numbered `i` after those already made. -/
def chooses (s : State) (i : Nat) : Bool := Config.freeOrder (s.choices + i)

/-- `n` free choices have been made. -/
def madeChoices (s : State) (n : Nat) : State := { s with choices := s.choices + n }

end Sys2Proof.Machine
end

