-- ==== Sys2Proof/Machine/Flags.lean ====
section
/-! DEFINITION. The statuses that the spec computes from other state: port state (R15, R16), geometry status (R59), stall
detector (R114), aligned set and remaining stroke (R56, R65), load flags (R165), cause sets (R121, R153), the band in
force's fields (R93). -/

namespace Sys2Proof.Machine

open Sys2Proof

/-! ## Ports -/

/-- The port state follows the error counts at once: BUS_OFF above 255 transmit errors, ERROR_PASSIVE while either count is
above 127, else ERROR_ACTIVE (R15, R16). -/
def PortRecord.status (r : PortRecord) : PortStatus :=
  if 255 < r.txErrors then .busOff else if 127 < r.txErrors ∨ 127 < r.rxErrors then .errorPassive else .errorActive

/-- The port is in BUS_OFF. -/
def isBusOff (s : State) (p : Port) : Bool := (s.port p).status == .busOff

/-- The port takes part in the frames on its bus: RESET is high and the port is not in BUS_OFF (R1, R2, R16). -/
def takesPart (s : State) (p : Port) : Bool := !s.resetLow && !isBusOff s p

/-! ## Sensors and geometry -/

/-- The quantity is FRESH (R45). -/
def isFresh (s : State) (q : Quantity) : Bool := (s.sensor q).state == .fresh

/-- The primary value in a quantity's record, 0 where it has none. -/
def sensorValue (s : State) (q : Quantity) : Int := (s.sensor q).value.getD 0

/-- The geometry status (R59). -/
def geometry (s : State) : GeometryStatus :=
  if !s.tables.bar.valid then .none
  else if s.tables.rig.valid && isFresh s .payout && isFresh s .head then .tracking
  else .held

/-- A joint is in the aligned set: aligned, and FREE or UNKNOWN (R56). -/
def Joint.inAlignedSet (j : Joint) : Bool := j.aligned && j.lock != .locked

/-- Joint by joint from joint 1, whether it is in the aligned set (R56). -/
def alignedSet (s : State) : List Bool := s.joints.map Joint.inAlignedSet

/-- A set of joints given joint by joint is not empty. -/
def anyJoint (set : List Bool) : Bool := set.any id

/-- Joint records with their numbers, joint 1 first. -/
def numbered (js : List Joint) : List (Nat × Joint) := (List.range js.length).map (· + 1) |>.zip js

/-- The remaining stroke: over the joints that are not LOCKED, stroke less offset (R65). -/
def remainingStroke (s : State) : Int :=
  ((numbered s.joints).map (fun p =>
    if p.2.lock = .locked then 0 else Bar.stroke s.tables.bar p.1 - p.2.offset)).sum

/-- Some joint is LOCKED or UNKNOWN (R77). -/
def anyNotFree (s : State) : Bool := s.joints.any (fun j => j.lock != .free)

/-- How many joints are LOCKED or UNKNOWN. -/
def countNotFree (s : State) : Nat := s.joints.countP (fun j => j.lock != .free)

/-! ## Envelope -/

/-- The stall detector's states (R114). -/
inductive DetectorState where
  | quiet
  | timing
  deriving DecidableEq, Repr

/-- TIMING exactly while the stall timer runs (R114). -/
def detector (s : State) : DetectorState := if s.stallTimer.isSome then .timing else .quiet

/-- The fields of the band in force (R93). -/
def bandInForce (s : State) : BandFields :=
  match s.band with
  | none => defaultBand s.tables.rig
  | some i => Bore.fields s.tables.bore i

/-- The band's index in reports and pages, 255 for the default band (R92). -/
def bandIndex (s : State) : Nat := s.band.getD 255

/-! ## Cause sets -/

/-- An exit-cause set with a cause added. -/
def addExit (set : BitVec 7) (c : ExitCause) : BitVec 7 := set ||| BitVec.ofNat 7 (2 ^ c.bit)

/-- A cause is in an exit-cause set. -/
def hasExit (set : BitVec 7) (c : ExitCause) : Bool := set.getLsbD c.bit

/-- An abort-cause set with a cause added. -/
def addAbort (set : BitVec 9) (c : AbortCause) : BitVec 9 := set ||| BitVec.ofNat 9 (2 ^ c.bit)

/-! ## Load Unit -/

/-- The load error flags (R165). -/
inductive LoadFlag where
  | overrun
  | format
  | check
  deriving DecidableEq, Repr

/-- The flags with one set. -/
def addFlag (flags : BitVec 3) : LoadFlag → BitVec 3
  | .overrun => flags ||| 1
  | .format => flags ||| 2
  | .check => flags ||| 4

/-- Loading is halted while any flag is set (R165). -/
def loadingHalted (s : State) : Bool := s.loadFlags != 0

/-! ## Modes -/

/-- The mode of an axis's governed value follows its state (R121). -/
def AxisState.mode : AxisState → Mode
  | .neutral | .fault => .neutral
  | .active | .rampdown => .active
  | .auto => .auto

end Sys2Proof.Machine
end

