-- ==== Sys2Proof/Machine/Delivery.lean ====
section
/-! DEFINITION. The Delivery Unit's records: producing a frame (R140, R141), transmit complete (R142), the neutral rewrite
of an entry into HOLD or STOPPED (R149), and a machine port bus-off (R150 step 1). -/

namespace Sys2Proof.Machine

open Sys2Proof

/-- The delivery record after a new frame of a value and mode: the next sequence, retry count 0, QUEUED, and no echo window
running (R140, R141). -/
def DeliveryRecord.withFrame (d : DeliveryRecord) (g : Int) (m : Mode) : DeliveryRecord :=
  { d with state := .queued, sequence := (d.sequence + 1) % 16, value := g, mode := m, retry := 0, echo := none }

/-- The delivery counters after a new frame: superseded rises unless the delivery was IDLE (R141). -/
def DeliveryRecord.superseding (d : DeliveryRecord) (c : DeliveryCounters) : DeliveryCounters :=
  if d.state = .idle then c else { c with superseded := bump c.superseded }

/-- A new frame for axis `a`; while the governor is in HOLD or STOPPED it carries 0 and NEUTRAL, whatever was handed over
(R140). -/
def newFrame (s : State) (a : Axis) (g : Int) (m : Mode) : State :=
  { s with
    deliveries := s.deliveries.set a
      ((s.delivery a).withFrame (if s.governor = .govern then g else 0) (if s.governor = .govern then m else .neutral))
    counters := { s.counters with
      delivery := s.counters.delivery.set a ((s.delivery a).superseding (s.counters.delivery.get a)) } }

/-- A hand-off of G and mode: a new frame where the value or mode differs from the latest frame, or the hand-off comes from a
refresh; none while the machine port is in BUS_OFF (R140, R150). -/
def produce (s : State) (a : Axis) (g : Int) (m : Mode) (refresh : Bool) : State :=
  if isBusOff s .machine then s
  else if refresh ∨ (s.delivery a).value ≠ g ∨ (s.delivery a).mode ≠ m then newFrame s a g m
  else s

/-- The Axis Governor hands its governed value and mode over (R121). -/
def handOver (s : State) (a : Axis) (refresh : Bool) : State :=
  produce s a (s.axis a).governed (s.axis a).state.mode refresh

/-- The delivery record after transmit complete of sequence `sent`: the refresh timer is loaded; a QUEUED frame of that
sequence is awaited (R142). -/
def DeliveryRecord.sent (d : DeliveryRecord) (rig : Table) (sent : Nat) : DeliveryRecord :=
  if d.state = .queued ∧ d.sequence = sent then
    { d with refresh := some (Rig.refreshPeriod rig), state := .await, echo := some (Rig.echoWindow rig) }
  else { d with refresh := some (Rig.refreshPeriod rig) }

/-- Transmit complete of a governed command reaches the Delivery Unit (R142). -/
def transmitCompleteGoverned (s : State) (a : Axis) (sequence : Nat) : State :=
  s.setDelivery a ((s.delivery a).sent s.tables.rig sequence)

/-- A pending frame that is not 0 and NEUTRAL (R149). -/
def DeliveryRecord.needsNeutral (d : DeliveryRecord) : Bool :=
  d.state != .idle && (d.value != 0 || d.mode != .neutral)

/-- The neutral rewrite of one axis on an entry into HOLD or STOPPED (R149). -/
def neutralRewrite (s : State) (a : Axis) : State :=
  if (s.delivery a).needsNeutral then newFrame s a 0 .neutral else s

/-- The neutral rewrite of all three axes (R26, R149). -/
def neutralRewriteAll (s : State) : State := allAxes.foldl neutralRewrite s

/-- A delivery after machine port bus-off: IDLE, both timers cancelled, retry count 0; the rest is kept (R150). -/
def DeliveryRecord.busOff (d : DeliveryRecord) : DeliveryRecord :=
  { d with state := .idle, echo := none, refresh := none, retry := 0 }

/-- Machine port bus-off clears every delivery (R150 step 1). -/
def deliveriesBusOff (s : State) : State :=
  { s with deliveries := ⟨s.deliveries.rotary.busOff, s.deliveries.crowd.busOff, s.deliveries.hoist.busOff⟩ }

/-- Machine port recovery: a new frame for each axis from the G and mode it holds (R150); none before the first rig profile
commit, when no governed command is sent (R147; log 21). -/
def deliveriesRecovered (s : State) : State :=
  if s.tables.rig.valid then allAxes.foldl (fun s a => handOver s a true) s else s

/-- The GOVERNED COMMAND frame of an axis: class 0x1, the axis's channel, the latest value, sequence and mode, and the check
byte of that content (R4, R140, R173). -/
def governedCommand (a : Axis) (d : DeliveryRecord) : Frame :=
  let body := byte2 d.value ++ byte1 (d.sequence + 16 * d.mode.code : Nat)
  ownFrame 1 a.code (body ++ [checkByte body])

end Sys2Proof.Machine
end

