-- ==== Sys2Proof/Machine/Envelope.lean ====
section
/-! DEFINITION. The drive envelope: capacities and ratings of joints (R53), limits (R102 to R105), caps (R106, R107), the
governing arithmetic (R108 to R110) and the limit cause (R111, R112). -/

namespace Sys2Proof.Machine

open Sys2Proof

/-! ## Joint figures (R53) -/

/-- The torque rating of joint `j` at an offset: derated at or beyond the stroke less the overlap zone. -/
def jointTorque (bar : Table) (j : Nat) (offset : Int) : Int :=
  if Bar.stroke bar j - Bar.overlapZone bar j ≤ offset then
    (Bar.torqueRating bar j * Bar.overlapDerate bar).tdiv 1000
  else Bar.torqueRating bar j

/-- The crowd capacity of joint `j`: of the row it is locked at, or its friction capacity. -/
def jointCapacity (ts : Tables) (j : Nat) (r : Joint) : Int :=
  if r.lock = .locked then rowCapacity ts j (r.lockedRow.getD 0) else Bar.friction ts.bar j

/-- The joints drawn out past the retract tolerance, with their numbers (R103, R104). -/
def openJoints (s : State) : List (Nat × Joint) :=
  (numbered s.joints).filter (fun p => decide (Rig.retractTolerance s.tables.rig < p.2.offset))

/-! ## Limits (R103 to R105) -/

/-- A term of a limit: the cause it is named by, and its value. -/
abbrev Term := LimitCause × Int

/-- The least term, the first of equals; the lists of terms stand JOINT before BAND before RIG (R112). -/
def leastTerm : List Term → Term
  | [] => (.none, 0)
  | [t] => t
  | t :: ts => let u := leastTerm ts; if t.2 ≤ u.2 then t else u

/-- The terms of the ROTARY forward torque limit (R103). -/
def torqueTerms (s : State) : List Term :=
  (openJoints s).map (fun p => (.joint, jointTorque s.tables.bar p.1 p.2.offset)) ++
  [(.band, (bandInForce s).torqueCap), (.rig, Rig.torqueMax s.tables.rig)]

/-- The ROTARY forward torque limit L_rot and the term that supplies it (R103). -/
def rotaryLimit (s : State) : Term := leastTerm (torqueTerms s)

/-- The joint terms of the CROWD pull-down limit, by geometry status (R104). -/
def crowdJointTerms (s : State) : List Term :=
  let locks := (openJoints s).map (fun p => (LimitCause.joint, jointCapacity s.tables p.1 p.2))
  match geometry s with
  | .tracking => locks
  | .held => locks ++ (Bar.joints s.tables.bar).map (fun j => (.joint, Bar.friction s.tables.bar j))
  | .none => []

/-- The least of the terms of the CROWD pull-down limit, before the backoff factor (R104). -/
def crowdLeast (s : State) : Term :=
  leastTerm (crowdJointTerms s ++ [(.band, (bandInForce s).crowdCap), (.rig, Rig.crowdDownMax s.tables.rig)])

/-- The CROWD pull-down limit L_down: the least term times b, divided by 1000 (R104). -/
def crowdDownLimit (s : State) : Int := ((crowdLeast s).2 * s.backoff).tdiv 1000

/-- The limit of an axis in a direction: its value, the term that supplied it, and the cause a knee scale of it is named by
(R103 to R105, R112). -/
structure Limit where
  value : Int
  term  : LimitCause
  cause : LimitCause
  deriving DecidableEq, Repr

/-- The limit of an axis in the positive or negative direction; HOIST lowering has none (R103 to R105). -/
def limitOf (s : State) (a : Axis) (positive : Bool) : Option Limit :=
  match a, positive with
  | .rotary, true => some ⟨(rotaryLimit s).2, (rotaryLimit s).1, (rotaryLimit s).1⟩
  | .rotary, false =>
    some ⟨((rotaryLimit s).2 * Rig.reverseFactor s.tables.rig).tdiv 1000, (rotaryLimit s).1, (rotaryLimit s).1⟩
  | .crowd, true =>
    some ⟨crowdDownLimit s, (crowdLeast s).1,
      if s.backoff < 1000 ∧ crowdDownLimit s < (crowdLeast s).2 then .backoff else (crowdLeast s).1⟩
  | .crowd, false => some ⟨Rig.crowdUpMax s.tables.rig, .rig, .rig⟩
  | .hoist, true => none
  | .hoist, false => some ⟨Rig.ropeMax s.tables.rig, .rig, .rig⟩

/-! ## Measured load (R102) -/

/-- The quantity that measures an axis. -/
def Axis.measured : Axis → Quantity
  | .rotary => .torque
  | .crowd => .force
  | .hoist => .rope

/-- The measured value M in the axis's sign convention; ROPE with its sign reversed. -/
def measuredValue (s : State) (a : Axis) : Int :=
  match a with
  | .rotary => sensorValue s .torque
  | .crowd => sensorValue s .force
  | .hoist => - sensorValue s .rope

/-- The directed load M_d, a load that helps the motion taken as 0; none while the quantity is not FRESH (R108 stage 2). -/
def directedLoad (s : State) (a : Axis) (positive : Bool) : Option Int :=
  if isFresh s (Axis.measured a) then
    let m := if positive then measuredValue s a else - measuredValue s a
    some (if m < 0 then 0 else m)
  else none

/-! ## Caps (R106, R107) -/

/-- The slip interlock holds: CROWD is in FAULT with LOCK_SLIP in its exit-cause set. -/
def slipInterlock (s : State) : Bool := s.axes.crowd.state == .fault && hasExit s.axes.crowd.exits .lockSlip

/-- The stroke-end cap (R107). -/
def strokeEndCap (s : State) : Int := (1000 * remainingStroke s).tdiv (Rig.endZone s.tables.rig)

/-- A cap that applies, as a list of one, or none. -/
def capIf (b : Bool) (c : LimitCause) (v : Int) : List Term := if b then [(c, v)] else []

/-- The caps that apply to an axis in a direction, in the order of R106, which is also the order in which R111 names them. -/
def capsOf (s : State) (a : Axis) (positive : Bool) : List Term :=
  let rig := s.tables.rig
  match a with
  | .rotary =>
    capIf (!(isFresh s .torque && isFresh s .angle)) .degraded (Rig.blindRotaryCap rig) ++
    [(.bandCap, (bandInForce s).rotaryCap)]
  | .crowd =>
    capIf (s.sequencer != .idle) .auto 0 ++ capIf (!isFresh s .force) .degraded (Rig.blindCrowdCap rig)
  | .hoist =>
    capIf (s.sequencer != .idle) .auto 0 ++
    capIf (positive && slipInterlock s) .slip 0 ++
    capIf (!isFresh s .rope) .degraded (Rig.creepCap rig) ++
    capIf (positive && (geometry s != .tracking || s.mismatch)) .degraded (Rig.creepCap rig) ++
    capIf (positive && isFresh s .rope && decide (sensorValue s .rope < Rig.slackThreshold rig)) .slack 0 ++
    capIf (positive && s.tables.bar.valid && decide (remainingStroke s < Rig.endZone rig)) .strokeEnd (strokeEndCap s) ++
    capIf positive .bandCap (bandInForce s).hoistCap

/-- The cap C: the least of the caps that apply, 1000 when none does, and the group that supplies it (R106). -/
def leastCap (caps : List Term) : Term := if caps.isEmpty then (.none, 1000) else leastTerm caps

/-! ## The governing arithmetic (R108 to R110) -/

/-- The knee point Kp (R108 stage 3). -/
def kneePoint (limit knee : Int) : Int := (limit * knee).tdiv 1000

/-- The knee scale g, 0 to 1000 (R108 stage 4): the limit is absent for HOIST lowering, the load is absent while the measured
quantity is not FRESH. -/
def kneeScale (limit : Option Int) (knee : Int) (load : Option Int) : Int :=
  match limit with
  | none => 1000
  | some l =>
    if l = 0 then 0
    else
      match load with
      | none => 1000
      | some m =>
        if m ≤ kneePoint l knee then 1000
        else if l ≤ m then 0
        else ((l - m) * 1000).tdiv (l - kneePoint l knee)

/-- The capped demand D': the sign of D and the lesser of |D| and C (R109 stage 5). -/
def cappedDemand (d c : Int) : Int := if d < 0 then - min |d| c else min |d| c

/-- The scaled demand G_raw (R109 stage 6). -/
def scaledDemand (d' g : Int) : Int := (d' * g).tdiv 1000

/-- The slew step: the slew times the elapsed time, divided by 10, at least 1 (R110). -/
def slewStep (slew elapsed : Int) : Int := max 1 ((slew * elapsed).tdiv 10)

/-- Stage 7: reversal passes through 0, unloading takes effect at once, loading rises by at most the step (R110). -/
def slewed (prev raw step : Int) : Int :=
  if (0 < prev ∧ raw < 0) ∨ (prev < 0 ∧ 0 < raw) then 0
  else if |raw| ≤ |prev| then raw
  else if raw < 0 then prev - min (|raw| - |prev|) step
  else prev + min (|raw| - |prev|) step

/-- Stage 8: the limit cause of an evaluation with demand `d`, result `g`, the caps that apply, the knee scale and its cause,
and the scaled demand (R111). -/
def limitCause (d g : Int) (caps : List Term) (scale : Int) (kneeCause : LimitCause) (raw : Int) : LimitCause :=
  if d = 0 ∨ |g| = |d| then .none
  else
    match caps.find? (fun c => decide (c.2 < |d|)) with
    | some c => c.1
    | none => if scale < 1000 then kneeCause else if |g| < |raw| then .slew else .none

/-- The elapsed time t of an evaluation, modulo 65536 and capped at 100; 100 where there was none since the reset (R101). -/
def elapsedTime (s : State) (a : Axis) : Int :=
  match (s.axis a).lastEval with
  | none => 100
  | some t => min 100 ((s.millis - t).toNat : Int)

/-- One run of the governing arithmetic: G and the limit cause for a demand (R108 to R112). -/
def governedValue (s : State) (a : Axis) (d : Int) : Int × LimitCause :=
  if d = 0 then (0, .none)
  else
    let positive := decide (0 < d)
    let limit := limitOf s a positive
    let scale := kneeScale (limit.map Limit.value) (Rig.knee s.tables.rig a) (directedLoad s a positive)
    let caps := capsOf s a positive
    let raw := scaledDemand (cappedDemand d (leastCap caps).2) scale
    let g := slewed (s.axis a).governed raw (slewStep (Rig.slew s.tables.rig a) (elapsedTime s a))
    (g, limitCause d g caps scale ((limit.map Limit.cause).getD .none) raw)

end Sys2Proof.Machine
end

