-- ==== Sys2Proof/Machine/Axes.lean ====
section
/-! DEFINITION. The Axis Governors: evaluations (R134, R135), changes of axis state with their events (R126), and the
neutral exits (R25, R128, R131). -/

namespace Sys2Proof.Machine

open Sys2Proof

/-- The creep demand of the running sequence (R153, R157); 0 in IDLE. -/
def creepDemand (s : State) : Int :=
  match s.sequencer with
  | .idle => 0
  | .locking => Bar.lockCreep s.tables.bar
  | .releasing => - Bar.releaseCreep s.tables.bar

/-- What an evaluation yields in the axis state it is made in: G and the limit cause (R135). -/
def evaluated (s : State) (a : Axis) : Int × LimitCause :=
  let r := s.axis a
  match r.state with
  | .neutral | .fault => (0, .none)
  | .active => governedValue s a (r.demand.getD 0)
  | .auto => governedValue s a (creepDemand s)
  | .rampdown =>
    let v := governedValue s a (r.demand.getD 0)
    if |v.1| < |r.governed| ∧ 0 ≤ v.1 * r.governed then v else (r.governed, r.cause)

/-- The axis record after an evaluation made now (R135). -/
def AxisRecord.withEvaluation (r : AxisRecord) (v : Int × LimitCause) (now : Millis) : AxisRecord :=
  { r with governed := v.1, cause := v.2, lastEval := some now }

/-- One evaluation of an axis, with its hand-off to the Delivery Unit (R101, R135); `refresh` where it is made at a refresh
timer expiry (R148). -/
def evaluate (s : State) (a : Axis) (refresh : Bool) : State :=
  handOver (s.setAxis a ((s.axis a).withEvaluation (evaluated s a) s.millis)) a refresh

/-- An evaluation that does not come from a refresh. -/
def evaluateNow (s : State) (a : Axis) : State := evaluate s a false

/-- Evaluations of several axes. -/
def evaluateAxes (s : State) (as_ : List Axis) : State := as_.foldl evaluateNow s

/-- All three axes are evaluated. -/
def evaluateAll (s : State) : State := evaluateAxes s allAxes

/-- An accepted sample of the measured quantity starts an evaluation in ACTIVE, AUTO and RAMPDOWN only (R134). -/
def evaluateInService (s : State) (a : Axis) : State :=
  match (s.axis a).state with
  | .active | .auto | .rampdown => evaluateNow s a
  | .neutral | .fault => s

/-- AXIS_STATE is raised for an axis, with its state as detail (R126). -/
def reportAxisState (s : State) (a : Axis) : State := report s .axisState a.code (s.axis a).state.code

/-- An axis record taken to NEUTRAL: G becomes 0 and the ramp timer is cancelled. -/
def AxisRecord.toNeutral (r : AxisRecord) : AxisRecord := { r with state := .neutral, governed := 0, ramp := none }

/-- An axis record taken to NEUTRAL for a cause. -/
def AxisRecord.toNeutralFor (r : AxisRecord) (c : ExitCause) : AxisRecord :=
  { r.toNeutral with exits := addExit r.exits c }

/-- An axis record changes; AXIS_STATE is raised and G and the mode are handed over. -/
def changeAxis (s : State) (a : Axis) (r : AxisRecord) : State :=
  handOver (reportAxisState (s.setAxis a r) a) a false

/-- An axis in ACTIVE, RAMPDOWN or AUTO goes to NEUTRAL at once for a cause; one in NEUTRAL or FAULT stays (R25, R131). -/
def neutralise (c : ExitCause) (s : State) (a : Axis) : State :=
  match (s.axis a).state with
  | .active | .rampdown | .auto => changeAxis s a ((s.axis a).toNeutralFor c)
  | .neutral | .fault => s

/-- All three axes, in channel order (log 11). -/
def neutraliseAll (s : State) (c : ExitCause) : State := allAxes.foldl (neutralise c) s

end Sys2Proof.Machine
end

