-- ==== Sys2Proof/Machine/Sequencer.lean ====
section
/-! DEFINITION. The Auto Sequencer: requests (R154 to R156), commands during a sequence (R158), completion (R159), aborts
(R160), the hand-back of ROTARY (R129), and entry of an axis into FAULT (R130), which ends a sequence of ROTARY. -/

namespace Sys2Proof.Machine

open Sys2Proof

/-- The sequence as a report's subject: LOCK 0, RELEASE 1 (R174). -/
def sequenceSubject (s : State) : Nat := if s.sequencer = .releasing then 1 else 0

/-- The sequence timer is cancelled and the sequencer enters IDLE (R159, R160). -/
def endSequence (s : State) : State := { s with sequencer := .idle, sequenceTimer := none }

/-- A running sequence aborts: the timer is cancelled, IDLE, the cause is added, AUTO_ABORTED is raised; the ROTARY axis is
left to the caller.  In IDLE nothing changes (R160). -/
def abortSequence (s : State) (c : AbortCause) : State :=
  if s.sequencer = .idle then s
  else report { endSequence s with aborts := addAbort s.aborts c } .autoAborted (sequenceSubject s) c.bit

/-- ROTARY is handed back with a stored demand: into ACTIVE, or into NEUTRAL with STALE when its operator freshness timer is
idle (R129).  In ACTIVE the evaluation is still to be made. -/
def handBackState (s : State) (d : Int) : State :=
  let r := { s.axes.rotary with demand := some d }
  if r.freshness.isNone then changeAxis s .rotary (r.toNeutralFor .stale)
  else reportAxisState (s.setAxis .rotary { r with state := .active }) .rotary

/-- The hand-back with its evaluation; an axis handed back into NEUTRAL is not evaluated (R129). -/
def handBack (s : State) (d : Int) : State :=
  let t := handBackState s d
  if t.axes.rotary.state = .active then evaluateNow t .rotary else t

/-- An abort that hands ROTARY back with stored demand 0: STALE, ALIGNMENT_LOST, TIMEOUT (R160). -/
def abortAndHandBack (s : State) (c : AbortCause) : State :=
  if s.sequencer = .idle then s else handBack (abortSequence s c) 0

/-- Completion: the timer is cancelled, IDLE, AUTO_DONE with the number of joints, and the hand-back with 0 (R159). -/
def completeSequence (s : State) (joints : Nat) : State :=
  handBack (report (endSequence s) .autoDone (sequenceSubject s) joints) 0

/-- A lock event is handed to the sequencer: it completes LOCKING (R79, R159). -/
def sequencerLockEvent (s : State) (joints : Nat) : State :=
  if s.sequencer = .locking then completeSequence s joints else s

/-- A release event or a retraction reset is handed to the sequencer: it completes RELEASING (R81, R82, R159). -/
def sequencerReleaseEvent (s : State) (joints : Nat) : State :=
  if s.sequencer = .releasing then completeSequence s joints else s

/-- A change of the aligned set at an allocation is handed to the sequencer: one that leaves it empty ends LOCKING (R67,
R160). -/
def sequencerSetChange (s : State) : State :=
  if s.sequencer = .locking ∧ anyJoint (alignedSet s) = false then abortAndHandBack s .alignmentLost else s

/-- The refusal of a request in IDLE, or none where it passes every check (R155). -/
def requestRefusal (s : State) (lock release : Bool) (d : Int) : Option RequestRefusal :=
  if lock && release then some .conflict
  else if !(s.governor == .govern && !isBusOff s .machine &&
      (s.axes.rotary.state == .active || s.axes.rotary.state == .neutral)) then some .state
  else if d ≠ 0 then some .demand
  else if geometry s ≠ .tracking then some .geometry
  else if !isFresh s .angle then some .angle
  else if lock && !anyJoint (alignedSet s) then some .notAligned
  else if release && !anyNotFree s then some .nothingLocked
  else none

/-- The request as a report's subject: LOCK 0, RELEASE 1, BOTH 2 (R155, R174). -/
def requestSubject (lock release : Bool) : Nat := if lock && release then 2 else if release then 1 else 0

/-- A sequence starts: LOCKING or RELEASING, the sequence timer loaded, ROTARY taken into AUTO with AXIS_STATE, and CROWD and
HOIST evaluated under the interlock (R156).  ROTARY's one evaluation is the command's own, made last (R124, R134). -/
def startSequence (s : State) (lock : Bool) : State :=
  let t := { s with
    sequencer := if lock then .locking else .releasing
    sequenceTimer := some (Rig.autoTimeout s.tables.rig) }
  evaluateAxes (reportAxisState (t.setAxis .rotary { t.axes.rotary with state := .auto }) .rotary) [.crowd, .hoist]

/-- A rotary command handed to the sequencer, with its flags and its demand after deadband (R154, R158).  A command that ends
the sequence is evaluated by the caller, once, in the state the hand-back leaves. -/
def sequencerCommand (s : State) (lock release : Bool) (d : Int) : State :=
  match s.sequencer with
  | .idle =>
    if lock || release then
      match requestRefusal s lock release d with
      | some r => report s .autoRefused (requestSubject lock release) r.code
      | none => startSequence s lock
    else s
  | .locking =>
    if d ≠ 0 then handBackState (abortSequence s .operator) d
    else if release then handBackState (abortSequence s .opposite) 0
    else s
  | .releasing =>
    if d ≠ 0 then handBackState (abortSequence s .operator) d
    else if lock then handBackState (abortSequence s .opposite) 0
    else s

/-- An axis enters FAULT for a cause, or stays in it (R126, R130): G becomes 0 and is handed over with mode NEUTRAL, the ramp
timer is cancelled, the cause is added and AXIS_FAULT is raised; an entry from AUTO aborts the sequence with FAULT.  In
FAULT only a cause not yet in the set is added and raised. -/
def enterFault (s : State) (a : Axis) (c : ExitCause) : State :=
  let r := s.axis a
  if r.state = .fault then
    if hasExit r.exits c then s
    else report (s.setAxis a { r with exits := addExit r.exits c }) .axisFault a.code c.bit
  else
    let t := report (s.setAxis a { r.toNeutralFor c with state := .fault }) .axisFault a.code c.bit
    let u := handOver t a false
    if r.state = .auto then abortSequence u .fault else u

end Sys2Proof.Machine
end

