-- ==== Sys2Proof/Machine/Governor.lean ====
section
/-! DEFINITION. Governor Control: entries into HOLD and STOPPED (R25, R26), STOP frames (R27, R28) and the conditions of
RELEASE (R22). -/

namespace Sys2Proof.Machine

open Sys2Proof

/-- A change of governor state: GOVERNOR_STATE with the new state and the cause (R21). -/
def changeGovernor (s : State) (g : GovernorState) (c : GovernorDetail) : State :=
  report { s with governor := g } .governorState g.code c.code

/-- The hand-offs of an entry into HOLD or STOPPED to the Axis Governors and the Auto Sequencer (R25).  The spec gives the two
no order; it matters only while a sequence runs, where it is a free choice (log 10). -/
def leaveService (s : State) (exit : ExitCause) (abort : AbortCause) : State :=
  if s.sequencer = .idle then neutraliseAll s exit
  else if chooses s 0 then neutraliseAll (abortSequence (madeChoices s 1) abort) exit
  else abortSequence (neutraliseAll (madeChoices s 1) exit) abort

/-- Entry into HOLD from GOVERN (R24 to R26). -/
def enterHold (s : State) : State := neutralRewriteAll (leaveService (changeGovernor s .hold .hold) .hold .hold)

/-- The stop quiet period in force: 500 ms until a rig profile has been committed (R28). -/
def stopQuietPeriod (s : State) : Nat := if s.tables.rig.valid then Rig.stopQuiet s.tables.rig else 500

/-- The detail of GOVERNOR_STATE for a STOP at a port (R21). -/
def stopDetail : Port → GovernorDetail
  | .operator => .stopOperator
  | .machine => .stopMachine

/-- A STOP frame is given to Governor Control: from HOLD or GOVERN it enters STOPPED; in STOPPED it restarts the quiet timer
(R27, R28). -/
def governorStop (s : State) (p : Port) (id : Nat) : State :=
  if s.governor = .stopped then { s with quiet := some (stopQuietPeriod s) }
  else
    let t := changeGovernor (report s .stopSeen p.code id) .stopped (stopDetail p)
    neutralRewriteAll (leaveService { t with quiet := some (stopQuietPeriod s) } .stop .stop)

/-- The answer to a RELEASE, or none where it is taken (R22). -/
def releaseRefusal (s : State) : Option (StatusCode × ReplyCause) :=
  if s.flight.isSome then some (.busy, .none)
  else
    match s.governor with
    | .stopped => some (.refused, .state)
    | .govern => some (.ok, .none)
    | .hold =>
      if !(s.tables.rig.valid && s.tables.bar.valid) then some (.refused, .notValid)
      else if !(isFresh s .payout && isFresh s .head) then some (.refused, .state)
      else none

end Sys2Proof.Machine
end

