-- ==== Sys2Proof/Machine/Reports.lean ====
section
/-! DEFINITION. What the part shows: the status pages and the status timer (R176), and the rows of the seven state tables
(R173, "State-table rows"). -/

namespace Sys2Proof.Machine

open Sys2Proof

/-! ## Codes of what may be absent (R173) -/

/-- A one-byte field, "none" as 255. -/
def byteOr (v : Option Nat) : List Byte := byte1 (v.getD noneByte)
/-- A signed two-byte field, "none" as 0x8000. -/
def signedOr (v : Option Int) : List Byte := byte2 (v.getD (-0x8000))
/-- An unsigned two-byte field, "none" as 0xFFFF. -/
def unsignedOr (v : Option Int) : List Byte := byte2 (v.getD 0xFFFF)
/-- A flag as a number. -/
def flag (b : Bool) : Nat := if b then 1 else 0
/-- The number whose bits, from bit 0, are the flags of a list. -/
def bitsOf : List Bool → Nat
  | [] => 0
  | b :: bs => flag b + 2 * bitsOf bs
/-- The milliseconds left on a timer. -/
def leftOf (t : Timer) : List Byte := byte2 t.left

/-! ## Status pages (R176) -/

/-- An axis in page A: its state in bits 0 to 2 and its limit cause in bits 3 to 7. -/
def pageAxis (r : AxisRecord) : List Byte := byte1 (r.state.code + 8 * r.cause.code : Nat)

/-- STATUS page A. -/
def pageA (s : State) : List Byte :=
  byte1 1 ++ byte1 s.governor.code ++ pageAxis s.axes.rotary ++ pageAxis s.axes.crowd ++ pageAxis s.axes.hoist ++
  byte1 (bandIndex s) ++ byte1 (bandInForce s).ground ++ byte1 0

/-- STATUS page B.  Bytes 1 to 3 are 0 while the tool depth held is undefined: the model's choice (log 37). -/
def pageB (s : State) : List Byte :=
  byte1 (2 + 16 * flag s.depthHeld.isNone + 32 * flag (!s.tables.bar.valid) : Nat) ++ leBytes 3 (s.depthHeld.getD 0) ++
  leBytes 3 s.extension ++ byte1 (bitsOf (alignedSet s))

/-- A joint in page C: its lock state in bits 0 and 1 and its locked row in bits 2 to 5; FREE with row 0 where the joint is
not in use (R72). -/
def pageJoint (r : Option Joint) : List Byte :=
  match r with
  | none => byte1 0
  | some j => byte1 (j.lock.code + 4 * j.lockedRow.getD 0 : Nat)

/-- STATUS page C. -/
def pageC (s : State) : List Byte :=
  byte1 3 ++ pageJoint s.joints[0]? ++ pageJoint s.joints[1]? ++ pageJoint s.joints[2]? ++ pageJoint s.joints[3]? ++
  byte2 s.backoff ++
  byte1 ((geometry s).code + 4 * flag s.mismatch + 8 * flag s.flight.isSome + 16 * flag (loadingHalted s) +
    32 * s.sequencer.code : Nat)

/-- A STATUS frame, class 0xA, on the management channel in force. -/
def statusFrame (s : State) (data : List Byte) : Frame := ownFrame 10 s.channel.toNat data

/-- The three pages composed from the state at this moment. -/
def statusPages (s : State) : List Frame := [statusFrame s (pageA s), statusFrame s (pageB s), statusFrame s (pageC s)]

/-- The status timer loaded with the period in force; a period of 0 leaves it idle (R176). -/
def statusReload (rig : Table) : Timer := if Rig.statusPeriod rig = 0 then none else some (Rig.statusPeriod rig)

/-- A status page in transmission when the set is replaced: its completion removes nothing from the new set (R176). -/
def Transmission.superseded (t : Transmission) : Transmission :=
  if t.source = .status then { t with source := .replaced } else t

/-- The status timer runs out: the slot takes the new set whole, and the timer is loaded again (R176). -/
def statusExpiry (s : State) : State :=
  { s with
    statusSlot := statusPages s
    statusTimer := statusReload s.tables.rig
    ports := s.ports.set .operator
      { s.ports.operator with sending := s.ports.operator.sending.map Transmission.superseded } }

/-! ## State table 0x10: governor and axes -/

/-- A port in row 0: its state and both error counts, a count above 255 as 255. -/
def portBytes (r : PortRecord) : List Byte :=
  byte1 r.status.code ++ byte1 (min r.txErrors 255 : Nat) ++ byte1 (min r.rxErrors 255 : Nat)

/-- Row 0. -/
def governorRow (s : State) : List Byte :=
  byte1 s.governor.code ++ leftOf s.quiet ++ byte1 s.channel.toNat ++ portBytes s.ports.operator ++ portBytes s.ports.machine ++
  byte1 s.sequencer.code ++ leftOf s.sequenceTimer ++ byte2 s.aborts.toNat

/-- Rows 1 to 3. -/
def axisRow (r : AxisRecord) : List Byte :=
  byte1 r.state.code ++ signedOr r.demand ++ byteOr r.lastAlive ++ byte2 r.governed ++ byte1 r.cause.code ++
  leftOf r.freshness ++ leftOf r.ramp ++ byte1 r.exits.toNat ++ unsignedOr (r.lastEval.map (fun t => (t.toNat : Int)))

/-- Rows 4 to 6. -/
def deliveryRow (d : DeliveryRecord) : List Byte :=
  byte1 d.state.code ++ byte1 d.sequence ++ byte2 d.value ++ byte1 d.mode.code ++ byte1 d.retry ++ byte1 d.missStreak ++
  byte2 d.lastDelivered ++ byteOr (d.lastEcho.map (fun e => e.1.code)) ++ signedOr (d.lastEcho.map Prod.snd) ++
  byte1 d.echo.left ++ byte1 d.refresh.left

/-! ## State table 0x11: sample records -/

/-- Rows 0 to 5.  A record without a value shows value, secondary value and time stamp as 0 (R34, R37); the secondary value
belongs to ANGLE only and is absent elsewhere. -/
def sensorRow (q : Quantity) (r : SensorRecord) : List Byte :=
  byte1 r.state.code ++ leBytes 4 (r.value.getD 0) ++
  (if r.value.isNone then byte2 0 else signedOr (if q = .angle then r.secondary else none)) ++
  byteOr r.lastAlive ++ byte2 (r.stamp.getD 0).toNat ++ leftOf r.timer

/-! ## State table 0x12: joint records and geometry -/

/-- Row 0. -/
def geometryRow (s : State) : List Byte :=
  byte1 (geometry s).code ++ byte1 (flag s.mismatch) ++ leBytes 4 s.extension ++ leBytes 4 (remainingStroke s) ++
  byte2 s.keyTravel ++ unsignedOr s.angleRef ++ byte1 (bitsOf (alignedSet s))

/-- Rows 1 to 4; a joint not in use has no record, and its fields are absent. -/
def jointRow (r : Option Joint) : List Byte :=
  unsignedOr (r.map Joint.offset) ++ byteOr (r.map (fun j => j.lock.code)) ++ byteOr (r.bind Joint.lockedRow) ++
  byteOr (r.map Joint.nearest) ++ byteOr (r.map (fun j => flag j.aligned))

/-- Row 5.  Bytes 0 to 3 are 0 while the tool depth held is undefined: the model's choice (log 37). -/
def depthRow (s : State) : List Byte := leBytes 4 (s.depthHeld.getD 0) ++ byte1 (flag s.depthHeld.isSome)

/-! ## State table 0x13: the limit set (R113) -/

/-- One axis and direction: the limit, its knee point, the term that supplied it, the cap and the cap group.  While no rig profile
has been committed the values that it would give (rig maxima, knee points, blind and creep caps) are shown as 0: the model's
choice (log 42). -/
def limitRow (s : State) (a : Axis) (positive : Bool) : List Byte :=
  let limit := limitOf s a positive
  let cap := leastCap (capsOf s a positive)
  unsignedOr (limit.map Limit.value) ++
  unsignedOr (limit.map (fun l => kneePoint l.value (Rig.knee s.tables.rig a))) ++
  byte1 (limit.map (fun l => l.term.code) |>.getD 0) ++ byte2 cap.2 ++ byte1 cap.1.code

/-- Row 6. -/
def backoffRow (s : State) : List Byte :=
  byte2 s.backoff ++ byte1 (match detector s with | .quiet => 0 | .timing => 1) ++ leftOf s.stallTimer ++
  leftOf s.recoveryTimer ++ byte1 (bandIndex s) ++ byte1 (bandInForce s).ground

/-! ## State table 0x14: counters -/

/-- Counters of 16 bits, one behind the other. -/
def counterBytes (cs : List Nat) : List Byte := cs.flatMap (fun c => byte2 c)

/-- The five counters of a port, in order. -/
def PortCounters.list (c : PortCounters) : List Nat := [c.forwarded, c.drops, c.foreign, c.format, c.busOff]

/-- Row 0: the operator port, skipped segments, reports lost, stall count. -/
def counterRow0 (c : Counters) : List Byte :=
  counterBytes (c.port.operator.list ++ [c.part.skippedSegments, c.part.reportsLost, c.part.stalls])

/-- Row 1: the machine port, management drops. -/
def counterRow1 (c : Counters) : List Byte := counterBytes (c.port.machine.list ++ [c.part.managementDrops])

/-- The first row of an axis. -/
def axisCounterRow (a : AxisCounters) (d : DeliveryCounters) : List Byte :=
  counterBytes [a.accepted, a.checkFailures, a.duplicates, a.gaps, a.clamped, a.notCentred, d.superseded, d.retries]

/-- The second row of an axis. -/
def deliveryCounterRow (d : DeliveryCounters) : List Byte :=
  counterBytes [d.misses, d.lateEchoes, d.driverNeutral, d.checkFailures]

/-- The row of a quantity. -/
def quantityCounterRow (c : QuantityCounters) : List Byte :=
  counterBytes [c.accepted, c.checkFailures, c.duplicates, c.gaps, c.rangeErrors, c.degraded]

/-! ## State table 0x15: fault records (R177) -/

/-- A fault record; an absent depth shows as the most negative value of its field (R177).  An empty record shows absent
fields, and extension and lost count 0: the model's choice (log 37). -/
def faultRow (r : Option FaultRecord) : List Byte :=
  byte1 (flag r.isSome) ++ byteOr (r.map (fun f => f.kind.code)) ++ byteOr (r.map FaultRecord.subject) ++
  leBytes 4 ((r.bind FaultRecord.depth).getD (-0x80000000)) ++ leBytes 4 (r.map FaultRecord.extension |>.getD 0) ++
  unsignedOr (r.map (fun f => (f.stamp.toNat : Int))) ++ byte1 (r.map FaultRecord.lost |>.getD 0)

/-! ## State table 0x16: load status -/

/-- The validity marks of the four tables, table 1 in bit 0. -/
def validBits (ts : Tables) : Nat := bitsOf [ts.rig.valid, ts.bar.valid, ts.pocket.valid, ts.bore.valid]

/-- Row 0.  The select state has no code in R173: the model shows NONE as 0 and SELECTED as 1 (log 40). -/
def loadRow (s : State) : List Byte :=
  byte1 (flag s.selection.isSome) ++ byteOr (s.selection.map Selection.table) ++ byteOr (s.selection.map Selection.row) ++
  byteOr (s.selection.map (fun x => x.check.toNat)) ++ byteOr (s.selection.map Selection.next) ++
  byte1 s.loadFlags.toNat ++ byte1 s.buffer.length ++ byte1 (flag s.flight.isSome) ++
  byte1 (s.flight.map Flight.taken |>.getD 0) ++ byte1 (validBits s.tables)

/-- Rows 1 and 2: eight buffer entries from the `from_`-th, table then row. -/
def bufferRow (buffer : List BufferEntry) (from_ : Nat) : List Byte :=
  (List.range 8).flatMap (fun i =>
    byteOr (buffer[from_ + i]?.map BufferEntry.table) ++ byteOr (buffer[from_ + i]?.map BufferEntry.row))

/-- Row 3: the 48 present marks, rig, bar, pocket and bore rows from bit 0. -/
def presentRow (ts : Tables) : List Byte :=
  leBytes 6 (bitsOf ((List.range 10).map ts.rig.present ++ (List.range 5).map ts.bar.present ++
    (List.range 8).map ts.pocket.present ++ (List.range 25).map ts.bore.present))

/-! ## All state tables -/

/-- The number of rows of a state table, 0 where there is no such table. -/
def stateRowCount (table : Nat) : Nat :=
  match table with
  | 0x10 => 7
  | 0x11 => 6
  | 0x12 => 6
  | 0x13 => 7
  | 0x14 => 14
  | 0x15 => 2
  | 0x16 => 4
  | _ => 0

/-- The axis of a number 0 to 2; 2 for any other. -/
def axisNumbered (n : Nat) : Axis :=
  match n with
  | 0 => .rotary
  | 1 => .crowd
  | _ => .hoist

/-- The quantity of a number 0 to 5; 5 for any other. -/
def quantityNumbered (n : Nat) : Quantity :=
  match n with
  | 0 => .payout
  | 1 => .head
  | 2 => .angle
  | 3 => .torque
  | 4 => .force
  | _ => .rope

/-- The listed bytes of a row of a state table, composed from the state at this moment (R170, R173). -/
def stateBytes (s : State) (table row : Nat) : List Byte :=
  match table with
  | 0x10 =>
    if row = 0 then governorRow s
    else if row ≤ 3 then axisRow (s.axis (axisNumbered (row - 1)))
    else deliveryRow (s.delivery (axisNumbered (row - 4)))
  | 0x11 => sensorRow (quantityNumbered row) (s.sensor (quantityNumbered row))
  | 0x12 => if row = 0 then geometryRow s else if row ≤ 4 then jointRow s.joints[row - 1]? else depthRow s
  | 0x13 =>
    match row with
    | 0 => limitRow s .rotary true
    | 1 => limitRow s .rotary false
    | 2 => limitRow s .crowd true
    | 3 => limitRow s .crowd false
    | 4 => limitRow s .hoist false
    | 5 => limitRow s .hoist true
    | _ => backoffRow s
  | 0x14 =>
    if row = 0 then counterRow0 s.counters
    else if row = 1 then counterRow1 s.counters
    else if row ≤ 7 then
      let a := axisNumbered ((row - 2) / 2)
      if row % 2 = 0 then axisCounterRow (s.counters.axis.get a) (s.counters.delivery.get a)
      else deliveryCounterRow (s.counters.delivery.get a)
    else quantityCounterRow (s.counters.quantity.get (quantityNumbered (row - 8)))
  | 0x15 => if row = 0 then faultRow s.machineFault else faultRow s.barFault
  | _ =>
    match row with
    | 0 => loadRow s
    | 1 => bufferRow s.buffer 0
    | 2 => bufferRow s.buffer 8
    | _ => presentRow s.tables

/-- The 16 bytes of a row of a state table. -/
def stateRow (s : State) (table row : Nat) : Row := padTo 16 (stateBytes s table row)

end Sys2Proof.Machine
end

