-- ==== Sys2Proof/Machine/Kelly.lean ====
section
/-! DEFINITION. The Kelly Tracker: nearest rows and alignment (R54 to R56), allocation of the extension (R57 to R68), table
changes (R69, R85), key travel and lock and release events (R73 to R81), lock slip (R83), warm reset (R71). -/

namespace Sys2Proof.Machine

open Sys2Proof

/-! ## Nearest row and alignment -/

/-- The nearest row in UNIFORM mode (R54). -/
def nearestUniform (first pitch : Int) (rows : Nat) (e : Int) : Nat :=
  min (if e < first then 0 else ((e - first + pitch / 2) / pitch).toNat) (rows - 1)

/-- The row of least distance, the lower of equals, among the first `rows` (R55). -/
def nearestListed (position : Nat → Int) (rows : Nat) (e : Int) : Nat :=
  (List.range rows).foldl (fun best k => if |position k - e| < |position best - e| then k else best) 0

/-- The nearest row of joint `j` to an offset (R54, R55). -/
def nearestRow (ts : Tables) (j : Nat) (e : Int) : Nat :=
  if Bar.listed ts.bar j then nearestListed (rowPosition ts j) (Bar.rows ts.bar j) e
  else nearestUniform (Bar.firstRow ts.bar j) (Bar.pitch ts.bar j) (Bar.rows ts.bar j) e

/-- Joint `j` is aligned at an offset (R56). -/
def isAligned (ts : Tables) (j : Nat) (e : Int) : Bool :=
  decide (Rig.retractTolerance ts.rig < e) &&
  decide (|e - rowPosition ts j (nearestRow ts j e)| ≤ Bar.rowTolerance ts.bar)

/-- A joint record with its nearest row and aligned flag recomputed from its offset (R56). -/
def Joint.realigned (r : Joint) (ts : Tables) (j : Nat) : Joint :=
  { r with nearest := nearestRow ts j r.offset, aligned := isAligned ts j r.offset }

/-- Every joint's nearest row and aligned flag are recomputed (R56, R67 step 8). -/
def realign (s : State) : State :=
  { s with joints := (numbered s.joints).map (fun p => p.2.realigned s.tables p.1) }

/-! ## Depth and raw extension -/

/-- The tool depth Z from the PAYOUT record and the P0 in force (R57, R58), at every act that reads it: after a commit that
changes P0 also before the next PAYOUT sample, of which R70 speaks (log 36). -/
def toolDepth (s : State) : Int := sensorValue s .payout - Rig.ropeOffset s.tables.rig

/-- The raw extension E_raw (R58). -/
def rawExtension (s : State) : Int := toolDepth s + sensorValue s .head - Bar.retracted s.tables.bar

/-! ## Allocation (R61 to R68) -/

/-- The offsets that the LOCKED joints hold: the sum Σlock (R62). -/
def lockedSum (js : List Joint) : Int := (js.map (fun r => if r.lock = .locked then r.offset else 0)).sum

/-- F: the sum of the strokes of the joints that are not LOCKED (R62). -/
def freeStroke (bar : Table) (js : List Joint) : Int :=
  ((numbered js).map (fun p => if p.2.lock = .locked then 0 else Bar.stroke bar p.1)).sum

/-- The clamped free extension given to the joints that are not LOCKED, innermost first (R64 step 5).  The list stands
innermost first. -/
def giveInnermost (bar : Table) : Int → List (Nat × Joint) → List Joint
  | _, [] => []
  | free, (j, r) :: rest =>
    if r.lock = .locked then r :: giveInnermost bar free rest
    else { r with offset := min free (Bar.stroke bar j) } ::
      giveInnermost bar (free - min free (Bar.stroke bar j)) rest

/-- The joint records after the division of a clamped free extension (R64 step 5). -/
def divideExtension (bar : Table) (free : Int) (js : List Joint) : List Joint :=
  (giveInnermost bar free (numbered js).reverse).reverse

/-- Lock-slip handling (R83): every LOCKED joint becomes UNKNOWN, A becomes 0, LOCK_SLIP is raised, the bar fault record is
offered the fault, and CROWD enters FAULT and is evaluated (R134; log 25). -/
def lockSlip (s : State) (deficit : Int) : State :=
  let n := s.joints.countP (fun r => r.lock == .locked)
  let t := { s with
    joints := s.joints.map (fun r => if r.lock = .locked then { r with lock := .unknown, lockedRow := none } else r)
    keyTravel := 0 }
  evaluateNow (enterFault (capture (report t .lockSlip n (min deficit 32767)) .lockSlip n) .crowd .lockSlip) .crowd

/-- The range test of step 1 (R62). -/
def rangeFails (s : State) : Bool :=
  decide (rawExtension s < - Rig.geometryTolerance s.tables.rig) ||
  decide (totalStroke s.tables.bar + Rig.geometryTolerance s.tables.rig < rawExtension s)

/-- E_raw clamped into 0 to the total stroke (R62). -/
def clampedExtension (s : State) : Int := clamp 0 (totalStroke s.tables.bar) (rawExtension s)

/-- The free extension: the clamped E_raw less Σlock (R62). -/
def freeExtension (s : State) : Int := clampedExtension s - lockedSum s.joints

/-- Step 3: a lock slip where the free extension is less than the negative of the slip tolerance (R63). -/
def slipStep (s : State) : State :=
  if freeExtension s < - Rig.slipTolerance s.tables.rig then lockSlip s (- freeExtension s) else s

/-- The over-extension test of step 4 (R64). -/
def overExtended (s : State) : Bool :=
  decide (freeStroke s.tables.bar s.joints + Rig.slipTolerance s.tables.rig < freeExtension s)

/-- The distance by which the tested figure passed its bound, saturated at 32767 (R60). -/
def mismatchDetail (s : State) : Int :=
  let tol := Rig.geometryTolerance s.tables.rig
  let d :=
    if rawExtension s < - tol then - tol - rawExtension s
    else if totalStroke s.tables.bar + tol < rawExtension s then rawExtension s - (totalStroke s.tables.bar + tol)
    else freeExtension s - freeStroke s.tables.bar s.joints - Rig.slipTolerance s.tables.rig
  min d 32767

/-- MISMATCH is decided once in an allocation, with its event and fault (R60). -/
def decideMismatch (s : State) : State :=
  let now := rangeFails s || overExtended s
  let subject := if rangeFails s then 0 else 1
  let t := { s with mismatch := now }
  if now && !s.mismatch then
    capture (report t .geometryMismatch subject (mismatchDetail s)) .geometryMismatch subject
  else if !now && s.mismatch then report t .geometryRestored 0 0
  else t

/-- Steps 5 and 6: the division of the clamped free extension, and the extension in force (R64, R65). -/
def divideStep (s : State) : State :=
  let free := clamp 0 (freeStroke s.tables.bar s.joints) (freeExtension s)
  { s with
    joints := divideExtension s.tables.bar free s.joints
    extension := lockedSum s.joints + free }

/-- A joint after a retraction reset: FREE, offset 0, no locked row (R66). -/
def Joint.retracted (r : Joint) : Joint := { r with offset := 0, lock := .free, lockedRow := none }

/-- Step 7: the retraction reset, with its event and its hand-off to the sequencer (R66, R82). -/
def retractionStep (s : State) : State :=
  if s.extension ≤ Rig.retractTolerance s.tables.rig then
    let n := countNotFree s
    let t := { s with joints := s.joints.map Joint.retracted, extension := 0, keyTravel := 0 }
    sequencerReleaseEvent (if n = 0 then t else report t .jointsReleased 1 n) n
  else s

/-- Step 8: nearest rows and aligned flags, and the comparison with the aligned set before the allocation (R67). -/
def alignmentStep (before : List Bool) (s : State) : State :=
  let t := realign s
  if alignedSet t = before then t else sequencerSetChange { t with keyTravel := 0 }

/-- One allocation, through its eight steps (R61 to R68). -/
def allocate (s : State) : State :=
  alignmentStep (alignedSet s) (retractionStep (divideStep (decideMismatch (slipStep s))))

/-- An allocation where the geometry is TRACKING; none in HELD or NONE (R59, R61). -/
def allocateIfTracking (s : State) : State := if geometry s = .tracking then allocate s else s

/-- An accepted PAYOUT sample reaches the Kelly Tracker: the tool depth held, then an allocation (R57, R61). -/
def kellyPayout (s : State) : State :=
  allocateIfTracking (if s.tables.rig.valid then { s with depthHeld := some (toolDepth s) } else s)

/-! ## Key travel (R73 to R75) -/

/-- The rotation from a reference to an angle, the shorter way round (R74). -/
def rotation (reference angle : Int) : Int :=
  let d := (angle - reference) % 3600
  if 1800 ≤ d then d - 3600 else d

/-- A joint record after a lock event, if it is in the aligned set: LOCKED at its nearest row, its offset snapped to the row
(R78). -/
def Joint.snapped (r : Joint) (ts : Tables) (j : Nat) : Joint :=
  if r.inAlignedSet then
    { r with lock := .locked, lockedRow := some r.nearest, offset := rowPosition ts j r.nearest }
  else r

/-- The JOINT_LOCKED events of a lock event, in ascending joint number (R78). -/
def reportLocked (s : State) (js : List (Nat × Joint)) : State :=
  js.foldl (fun s p => if p.2.inAlignedSet then report s .jointLocked p.1 p.2.nearest else s) s

/-- A lock event: every joint of the aligned set locks at its nearest row (R78), and the event is handed to the sequencer
(R79). -/
def lockEvent (s : State) : State :=
  let js := (numbered s.joints).map (fun p => p.2.snapped s.tables p.1)
  let n := s.joints.countP Joint.inAlignedSet
  let t := reportLocked s (numbered s.joints)
  sequencerLockEvent
    (realign { t with joints := js, extension := (js.map Joint.offset).sum, keyTravel := 0 }) n

/-- A joint record after a release event (R80). -/
def Joint.released (r : Joint) : Joint := { r with lock := .free, lockedRow := none }

/-- The two hand-offs of a release event, to the sequencer and to CROWD, which is evaluated (R81).  The spec gives them no
order; it matters only in RELEASING, where it is a free choice (log 10). -/
def handOffRelease (s : State) (n : Nat) : State :=
  if s.sequencer = .releasing then
    if chooses s 0 then evaluateNow (sequencerReleaseEvent (madeChoices s 1) n) .crowd
    else sequencerReleaseEvent (evaluateNow (madeChoices s 1) .crowd) n
  else evaluateNow s .crowd

/-- A release event: every LOCKED or UNKNOWN joint becomes FREE, A becomes 0 and JOINTS_RELEASED is raised (R80); then it is
handed on (R81). -/
def releaseEvent (s : State) : State :=
  let n := countNotFree s
  let t := realign { s with joints := s.joints.map Joint.released, keyTravel := 0 }
  handOffRelease (report t .jointsReleased 0 n) n

/-- The lock test and then the release test (R77). -/
def keyTests (s : State) : State :=
  if Bar.lockAngle s.tables.bar ≤ s.keyTravel ∧ anyJoint (alignedSet s) = true then lockEvent s
  else if s.keyTravel ≤ - Bar.releaseAngle s.tables.bar ∧ anyNotFree s = true then releaseEvent s
  else s

/-- An accepted ANGLE sample reaches the Kelly Tracker: in TRACKING the rotation is counted and tested (R74), otherwise the
reference is replaced (R75). -/
def kellyAngle (s : State) : State :=
  let angle := sensorValue s .angle
  match geometry s, s.angleRef with
  | .tracking, some reference =>
    keyTests { s with
      keyTravel := clamp (-3600) 3600 (s.keyTravel + rotation reference angle)
      angleRef := some angle }
  | _, _ => { s with angleRef := some angle }

/-! ## Table changes and reset -/

/-- A joint record of a given lock state, without a locked row. -/
def Joint.withLock (r : Joint) (l : LockState) : Joint := { r with lock := l, lockedRow := none }

/-- The joint records under a new bar profile: one for each joint in use, kept from the old records or new at offset 0, all of
one lock state (R69, R85). -/
def rebuiltJoints (bar : Table) (old : List Joint) (l : LockState) : List Joint :=
  (Bar.joints bar).map (fun j =>
    (old.getD (j - 1) { offset := 0, lock := l, lockedRow := none, nearest := 0, aligned := false }).withLock l)

/-- The lock state that a bar profile or pocket table commit gives every joint (R85): FREE on a bar that TRACKING shows
closed, else UNKNOWN.  `hadBar` says that a bar profile was valid before the commit. -/
def invalidatedLock (s : State) (hadBar : Bool) : LockState :=
  if hadBar && geometry s == .tracking && decide (s.extension ≤ Rig.retractTolerance s.tables.rig) then .free
  else .unknown

/-- The division of R69 in HELD: the extension in force clamped to the new total stroke and divided among all joints. -/
def divideHeld (s : State) : State :=
  let e := clamp 0 (totalStroke s.tables.bar) s.extension
  realign { s with extension := e, joints := divideExtension s.tables.bar e s.joints }

/-- The Kelly Tracker's part of a bar profile or pocket table commit, the new tables already in force (R69, R85). -/
def kellyTableChange (s : State) (hadBar : Bool) : State :=
  let t := { s with
    joints := rebuiltJoints s.tables.bar s.joints (invalidatedLock s hadBar)
    keyTravel := 0 }
  match geometry t with
  | .tracking => allocate t
  | .held => divideHeld t
  | .none => { t with joints := s.joints }

/-- The joint records after a warm reset: offsets kept, every lock UNKNOWN, nearest rows and aligned flags recomputed (R71,
R88). -/
def jointsAfterWarmReset (ts : Tables) (js : List Joint) : List Joint :=
  (numbered js).map (fun p => (p.2.withLock .unknown).realigned ts p.1)

end Sys2Proof.Machine
end

