-- ==== Sys2Proof/Machine/Bands.lean ====
section
/-! DEFINITION. The Band Tracker: lookups with hysteresis (R94), the lookup of a bore plan commit (R96), and a change of the
band in force (R97). -/

namespace Sys2Proof.Machine

open Sys2Proof

/-- The entry test of band `i` from the default band: `h` inside it, or plain containment for a band of less than twice that
height (R94). -/
def entersBand (bore : Table) (h z : Int) (i : Nat) : Bool :=
  let t := Bore.top bore i
  let b := Bore.bottom bore i
  if (b - t) / 2 < h then decide (t ≤ z) && decide (z < b)
  else decide (t + h ≤ z) && decide (z < b - h)

/-- The band that a lookup with hysteresis leaves in force (R94): the plan reads as empty while no bore plan is valid. -/
def lookupBand (tables : Tables) (band : Option Nat) (z : Int) : Option Nat :=
  let h := Rig.hysteresis tables.rig
  let bore := tables.bore
  let found := if bore.valid then Bore.bandAt bore z else none
  match band with
  | some i => if Bore.top bore i - h ≤ z ∧ z < Bore.bottom bore i + h then some i else found
  | none =>
    match found with
    | some i => if entersBand bore h z i then some i else none
    | none => none

/-- A change of the band in force: BAND_ENTERED with the index and class, then the three axes are evaluated (R97). -/
def changeBand (s : State) (band : Option Nat) : State :=
  let t := { s with band := band }
  evaluateAll (report t .bandEntered (bandIndex t) (bandInForce t).ground)

/-- The band that a lookup at the present PAYOUT sample leaves (R94). -/
def bandAtSample (s : State) : Option Nat := lookupBand s.tables s.band (toolDepth s)

/-- An accepted PAYOUT sample reaches the Band Tracker: a lookup while the rig profile is valid (R94). -/
def bandPayout (s : State) : State :=
  if s.tables.rig.valid ∧ bandAtSample s ≠ s.band then changeBand s (bandAtSample s) else s

/-- The depth that the lookup of a bore plan commit uses, if any (R96). -/
def commitDepth (s : State) : Option Int :=
  if s.tables.rig.valid then (if isFresh s .payout then some (toolDepth s) else s.depthHeld) else none

/-- The band that contains the depth of a commit's lookup, without hysteresis (R96). -/
def bandAtCommit (s : State) : Option Nat :=
  match commitDepth s with
  | some z => Bore.bandAt s.tables.bore z
  | none => none

/-- The band row of the band found was among the rows applied (R97). -/
def bandRowApplied (es : List BufferEntry) (band : Option Nat) : Bool :=
  match band with
  | some i => touchesRow es 4 (i + 1)
  | none => false

/-- The lookup at the completion of a bore plan commit: a change where it leaves another band, or the same plan band whose
row was applied (R96, R97). -/
def bandCommit (s : State) (es : List BufferEntry) : State :=
  if bandAtCommit s ≠ s.band ∨ bandRowApplied es (bandAtCommit s) = true then changeBand s (bandAtCommit s) else s

end Sys2Proof.Machine
end

