-- ==== Sys2Proof/Machine/Operands.lean ====
section
/-! DEFINITION. The fields of received payloads (R173, "Frame payloads"): OPERATOR COMMAND, SENSOR SAMPLE, DRIVER ECHO,
and the kinds of a MANAGEMENT frame (R163). -/

namespace Sys2Proof.Machine

open Sys2Proof

/-! ## OPERATOR COMMAND (4 bytes) -/

/-- The demand as received, signed 16 bits. -/
def commandDemand (pl : List Byte) : Int := s16At pl 0
/-- The alive counter, 0 to 15. -/
def commandAlive (pl : List Byte) : Nat := u8At pl 2 % 16
/-- LOCK_REQ. -/
def commandLockReq (pl : List Byte) : Bool := u8At pl 2 / 16 % 2 == 1
/-- RELEASE_REQ. -/
def commandReleaseReq (pl : List Byte) : Bool := u8At pl 2 / 32 % 2 == 1

/-! ## SENSOR SAMPLE (8 bytes) -/

/-- The sensor status of a sample; code 3 is taken as FAULT (R37, R173). -/
inductive SensorStatus where
  | ok
  | degraded
  | fault
  deriving DecidableEq, Repr

/-- The primary value, signed 32 bits. -/
def samplePrimary (pl : List Byte) : Int := s32At pl 0
/-- The secondary value, signed 16 bits. -/
def sampleSecondary (pl : List Byte) : Int := s16At pl 4
/-- The alive counter, 0 to 15. -/
def sampleAlive (pl : List Byte) : Nat := u8At pl 6 % 16
/-- The sensor status. -/
def sampleStatus (pl : List Byte) : SensorStatus :=
  match u8At pl 6 / 16 % 4 with
  | 0 => .ok
  | 1 => .degraded
  | _ => .fault

/-! ## DRIVER ECHO (4 bytes) -/

/-- The echoed sequence, 0 to 15. -/
def echoSequence (pl : List Byte) : Nat := u8At pl 0 % 16
/-- The driver state; a code that is none of the three is taken as FAULT (R143). -/
def echoDriver (pl : List Byte) : DriverState :=
  match u8At pl 0 / 16 % 4 with
  | 0 => .active
  | 1 => .neutral
  | _ => .fault
/-- The applied demand, signed 16 bits. -/
def echoApplied (pl : List Byte) : Int := s16At pl 1

/-! ## Alive counters -/

/-- A frame's alive counter equals the last accepted one (R36, R122). -/
def isDuplicate (last : Option Nat) (alive : Nat) : Bool := last == some alive

/-- A frame's alive counter does not follow the last accepted one, modulo 16; with none, no gap is tested (R39, R122). -/
def isGap (last : Option Nat) (alive : Nat) : Bool :=
  match last with
  | none => false
  | some l => alive != (l + 1) % 16

/-! ## MANAGEMENT frames -/

/-- The controls of R171, by code 1 to 8. -/
inductive Control where
  | release
  | hold
  | stopClear
  | clearFaults
  | clearLoadErrors
  | discardPending
  | clearCounters
  | restart
  deriving DecidableEq, Repr

/-- The control of a code (R171). -/
def controlOf (code : Nat) : Option Control :=
  match code with
  | 1 => some .release
  | 2 => some .hold
  | 3 => some .stopClear
  | 4 => some .clearFaults
  | 5 => some .clearLoadErrors
  | 6 => some .discardPending
  | 7 => some .clearCounters
  | 8 => some .restart
  | _ => none

/-- A management frame as the Load Unit reads it (R163). -/
inductive Request where
  | select (table row : Nat) (check : Byte)
  | segment (body : List Byte)
  | commit
  | read (table row view : Nat)
  | control (c : Control)
  /-- A kind that is unknown, a wrong length for the kind, or a CONTROL of unknown code. -/
  | unknown (kind : Nat)
  deriving DecidableEq, Repr

/-- The request that a payload of 1 to 8 bytes carries: kind 1 to 5 with the length of its kind; a SEGMENT of any length is
left to R165. -/
def requestOf (pl : List Byte) : Request :=
  let kind := u8At pl 0
  if kind = 1 ∧ pl.length = 4 then .select (u8At pl 1) (u8At pl 2) (pl.getD 3 0)
  else if kind = 2 then .segment pl.tail
  else if kind = 3 ∧ pl.length = 1 then .commit
  else if kind = 4 ∧ pl.length = 4 then .read (u8At pl 1) (u8At pl 2) (u8At pl 3)
  else if kind = 5 ∧ pl.length = 2 then
    match controlOf (u8At pl 1) with
    | some c => .control c
    | none => .unknown kind
  else .unknown kind

end Sys2Proof.Machine
end

