-- ==== Sys2Proof/Machine/Stall.lean ====
section
/-! DEFINITION. The stall detector and the crowd backoff (R114 to R119). -/

namespace Sys2Proof.Machine

open Sys2Proof

/-- The stall condition (R114). -/
def stallStands (s : State) : Bool :=
  (bandInForce s).stallWatch && isFresh s .torque && isFresh s .angle &&
  decide (0 < s.axes.rotary.governed) &&
  decide (|(s.sensor .angle).secondary.getD 0| < Rig.stallSpeed s.tables.rig) &&
  decide (((rotaryLimit s).2 * Rig.stallFraction s.tables.rig).tdiv 1000 ≤ sensorValue s .torque)

/-- A test of the stall condition: it starts the stall timer in QUIET, lets it run on in TIMING, or cancels it (R115). -/
def stallTest (s : State) : State :=
  { s with
    stallTimer :=
      if stallStands s then (if s.stallTimer.isSome then s.stallTimer else some (Rig.stallTime s.tables.rig))
      else none }

/-- The backoff factor after a stall (R116). -/
def backedOff (s : State) : Int :=
  max ((s.backoff * Rig.backoffLevel s.tables.rig).tdiv 1000) (Rig.backoffFloor s.tables.rig)

/-- The stall timer runs out: b backs off, the stall is counted and reported, both timers are loaded again, and CROWD is
evaluated (R116). -/
def stallExpiry (s : State) : State :=
  let t := { s with backoff := backedOff s }
  let u := t.countPart (fun c => { c with stalls := bump c.stalls })
  let v := report u .stall (bandIndex s) t.backoff
  evaluateNow { v with
    recoveryTimer := some (Rig.recoveryPeriod s.tables.rig)
    stallTimer := some (Rig.stallTime s.tables.rig) } .crowd

/-- The recovery timer runs out: b rises by the recovery step, at most to 1000 (R117). -/
def recoveryExpiry (s : State) : State :=
  let b := min 1000 (s.backoff + Rig.recoveryStep s.tables.rig)
  if b < 1000 then { s with backoff := b, recoveryTimer := some (Rig.recoveryPeriod s.tables.rig) }
  else report { s with backoff := b, recoveryTimer := none } .backoffRecovered 0 1000

/-- The backoff reset of a rig profile commit (R119). -/
def backoffReset (s : State) : State :=
  let t := { s with backoff := 1000, stallTimer := none, recoveryTimer := none }
  if s.backoff < 1000 then report t .backoffRecovered 0 1000 else t

end Sys2Proof.Machine
end

