-- ==== Sys2Proof/Machine/Sensors.lean ====
section
/-! DEFINITION. Sensor Intake: the tests of a sample (R35 to R39), freshness (R40), hand-offs (R42 to R44) and remapping
(R46). -/

namespace Sys2Proof.Machine

open Sys2Proof

/-! ## Ranges (R32) -/

/-- The primary value range of a quantity. -/
def primaryRange : Quantity → Int × Int
  | .payout => (0, 150000)
  | .head => (0, 30000)
  | .angle => (0, 3599)
  | .torque => (-8000, 8000)
  | .force => (-1000, 1000)
  | .rope => (0, 1500)

/-- A sample's values lie in range; the secondary value is read for ANGLE only (R32, R38). -/
def sampleInRange (q : Quantity) (pl : List Byte) : Bool :=
  decide ((primaryRange q).1 ≤ samplePrimary pl) && decide (samplePrimary pl ≤ (primaryRange q).2) &&
  (q != .angle || (decide (-300 ≤ sampleSecondary pl) && decide (sampleSecondary pl ≤ 300)))

/-! ## Hand-offs of a change of freshness (R44) -/

/-- The change ends a running sequence with STALE: ANGLE out of FRESH, or PAYOUT or HEAD out of FRESH where the geometry was
TRACKING (R44, R160). -/
def endsSequence (s : State) (q : Quantity) (old : RecordState) : Bool :=
  s.sequencer != .idle && old == .fresh && !isFresh s q &&
  (match q with
   | .angle => true
   | .payout => s.tables.bar.valid && s.tables.rig.valid && isFresh s .head
   | .head => s.tables.bar.valid && s.tables.rig.valid && isFresh s .payout
   | .torque | .force | .rope => false)

/-- The axes whose free choice, numbered in channel order, is `b`. -/
def chosenAxes (s : State) (b : Bool) : List Axis := allAxes.filter (fun a => chooses s a.code == b)

/-- A change of a record's state is handed to the axes, which are evaluated, and to the sequencer.  Where it ends a running
sequence, each axis is evaluated before the abort or after it, which the spec leaves open: a free choice (log 10). -/
def freshnessToAxes (s : State) (q : Quantity) (old : RecordState) : State :=
  if endsSequence s q old then
    let before := chosenAxes s true
    let after := chosenAxes s false
    evaluateAxes (abortAndHandBack (evaluateAxes (madeChoices s 3) before) .stale) after
  else evaluateAll s

/-- A change of ANGLE out of FRESH clears the angle reference (R73). -/
def freshnessToKelly (s : State) (q : Quantity) (old : RecordState) : State :=
  if q = .angle ∧ old = .fresh ∧ isFresh s q = false then { s with angleRef := none } else s

/-- A change of TORQUE or ANGLE is a test of the stall condition, made after the evaluation (R115). -/
def freshnessToStall (s : State) (q : Quantity) : State :=
  match q with
  | .torque | .angle => stallTest s
  | .payout | .head | .force | .rope => s

/-- A change of the state of a quantity's record, already made, is handed on (R44); `old` is the state left. -/
def handOnFreshness (s : State) (q : Quantity) (old : RecordState) : State :=
  freshnessToStall (freshnessToAxes (freshnessToKelly s q old) q old) q

/-! ## Loss of freshness -/

/-- A record that becomes STALE: value, secondary value, alive counter and stamp kept, timer idle (R34, R37, R40). -/
def SensorRecord.toStale (r : SensorRecord) : SensorRecord := { r with state := .stale, timer := none }

/-- A record becomes STALE for a cause: SENSOR_STALE is raised, then the change is handed on (R42). -/
def becomeStale (s : State) (q : Quantity) (c : StaleCause) : State :=
  let old := (s.sensor q).state
  handOnFreshness (report (s.setSensor q (s.sensor q).toStale) .sensorStale q.code c.code) q old

/-- A sample with sensor status FAULT: STALE at once unless the record is STALE already (R37). -/
def sensorFault (s : State) (q : Quantity) : State :=
  if (s.sensor q).state = .stale then s else becomeStale s q .sensorFault

/-! ## An accepted sample -/

/-- The record after the acceptance of a sample (R39 steps 2, 4 and 5). -/
def SensorRecord.accepting (r : SensorRecord) (q : Quantity) (pl : List Byte) (now : Millis) (reload : Nat) :
    SensorRecord :=
  { r with
    state := .fresh
    value := some (samplePrimary pl)
    secondary := if q = .angle then some (sampleSecondary pl) else r.secondary
    lastAlive := some (sampleAlive pl)
    stamp := some now
    timer := some reload }

/-- The counters after the acceptance of a sample (R39 steps 1 and 3). -/
def QuantityCounters.accepting (c : QuantityCounters) (gap degraded : Bool) : QuantityCounters :=
  { c with
    accepted := bump c.accepted
    gaps := if gap then bump c.gaps else c.gaps
    degraded := if degraded then bump c.degraded else c.degraded }

/-- An accepted PAYOUT sample goes to the Kelly Tracker and the Band Tracker, which have no order between them (R43, R97).
Where the lookup leaves the band as it is the order does not matter; otherwise it is a free choice (log 10). -/
def handOnPayout (s : State) : State :=
  if s.tables.rig.valid ∧ bandAtSample s ≠ s.band then
    if chooses s 0 then bandPayout (kellyPayout (madeChoices s 1)) else kellyPayout (bandPayout (madeChoices s 1))
  else kellyPayout s

/-- An accepted sample is handed on by its quantity (R43); the stall test comes after an evaluation of ROTARY that the sample
starts (R115; log 24). -/
def handOnSample (s : State) (q : Quantity) : State :=
  match q with
  | .payout => handOnPayout s
  | .head => allocateIfTracking s
  | .angle => stallTest (kellyAngle s)
  | .torque => stallTest (evaluateInService s .rotary)
  | .force => evaluateInService s .crowd
  | .rope => evaluateInService s .hoist

/-- The record and counters of an accepted sample (R39 steps 1 to 4). -/
def recordSample (s : State) (q : Quantity) (pl : List Byte) : State :=
  (s.countQuantity q (fun c =>
    c.accepting (isGap (s.sensor q).lastAlive (sampleAlive pl)) (sampleStatus pl == .degraded))).setSensor q
    ((s.sensor q).accepting q pl s.millis (Rig.freshness s.tables.rig q))

/-- A sample is accepted: record and counters, the change to FRESH with SENSOR_FRESH and its hand-off, then the sample's
hand-off (R39). -/
def acceptSample (s : State) (q : Quantity) (pl : List Byte) : State :=
  let old := (s.sensor q).state
  let t := recordSample s q pl
  let u := if old = .fresh then t else handOnFreshness (report t .sensorFresh q.code old.code) q old
  handOnSample u q

/-- A sample of the right length reaches Sensor Intake: check byte, duplicate, sensor FAULT, range, acceptance (R35 to
R39). -/
def takeSample (s : State) (q : Quantity) (pl : List Byte) : State :=
  if !checkPasses pl then s.countQuantity q (fun c => { c with checkFailures := bump c.checkFailures })
  else if isDuplicate (s.sensor q).lastAlive (sampleAlive pl) then
    s.countQuantity q (fun c => { c with duplicates := bump c.duplicates })
  else if sampleStatus pl = .fault then sensorFault s q
  else if !sampleInRange q pl then s.countQuantity q (fun c => { c with rangeErrors := bump c.rangeErrors })
  else acceptSample s q pl

/-! ## The sensor map and remapping -/

/-- The sensor map in force, if a rig profile is valid (R33). -/
def sensorMapInForce (s : State) : Option (List Nat) :=
  if s.tables.rig.valid then some (Rig.sensorMap s.tables.rig) else none

/-- The quantity that a map names for a channel. -/
def mappedQuantity (map : Option (List Nat)) (ch : Nat) : Option Quantity :=
  match map with
  | none => none
  | some m => allQuantities.find? (fun q => m.getD q.code 128 == ch)

/-- A quantity whose channel changes: its record becomes ABSENT, with SENSOR_STALE (REMAPPED) if it was FRESH; the change of
a FRESH or STALE record is handed on (R46). -/
def remapQuantity (s : State) (q : Quantity) : State :=
  let old := (s.sensor q).state
  let t := s.setSensor q SensorRecord.initial
  match old with
  | .absent => t
  | .stale => handOnFreshness t q old
  | .fresh => handOnFreshness (report t .sensorStale q.code StaleCause.remapped.code) q old

/-- Sensor remapping at the completion of a commit, from the old map to the map in force (R46).  Several quantities whose
channels change are handled in quantity order, and so stand their reports: the model's choice (log 35). -/
def remapSensors (s : State) (old : Option (List Nat)) : State :=
  match old with
  | none => s
  | some m =>
    (allQuantities.filter (fun q => m.getD q.code 128 != (Rig.sensorMap s.tables.rig).getD q.code 128)).foldl
      remapQuantity s

end Sys2Proof.Machine
end

