-- ==== Sys2Proof/Machine/Load.lean ====
section
/-! DEFINITION. The Load Unit: assembling rows (R165, R166), taking a commit (R167), reads (R170) and controls (R22, R24, R29,
R132, R171, R178, R179). -/

namespace Sys2Proof.Machine

open Sys2Proof

/-! ## Rows (R165, R166) -/

/-- The select state becomes NONE. -/
def deselect (s : State) : State := { s with selection := none }

/-- A load error flag is set. -/
def raiseFlag (s : State) (f : LoadFlag) : State := { s with loadFlags := addFlag s.loadFlags f }

/-- LOADING_HALTED with the flags as detail; `table` and `row` are those the request named. -/
def replyHalted (s : State) (kind table row : Nat) : State :=
  reply s kind .loadingHalted .none table row s.loadFlags.toNat

/-- A SELECT finds a partial row: segment 1 or 2 is expected (R165). -/
def midRow (s : State) : Bool :=
  match s.selection with
  | some x => x.next != 0
  | none => false

/-- A table that can be loaded, with a row of it (R165). -/
def rowExists (table row : Nat) : Bool := decide (row < rowCount table)

/-- A SELECT (R165). -/
def loadSelect (s : State) (table row : Nat) (check : Byte) : State :=
  if loadingHalted s then replyHalted (deselect s) 1 table row
  else if midRow s then replyHalted (deselect (raiseFlag s .format)) 1 table row
  else if !rowExists table row then reply (deselect s) 1 .badRow .none table row 0
  else { s with selection := some { table := table, row := row, check := check, next := 0, bytes := [] } }

/-- A row is discarded for a fault: the flag is set, the select state becomes NONE, and LOAD_ERROR answers with the flags
(R165, R166). -/
def discardRow (s : State) (x : Selection) (f : LoadFlag) : State :=
  let t := deselect (raiseFlag s f)
  reply t 2 .loadError .none x.table x.row t.loadFlags.toNat

/-- A complete row: its check, then room in the buffer, then it is appended at the tail (R166). -/
def completeRow (s : State) (x : Selection) (bytes : Row) : State :=
  if x.check + byteSum bytes != 0 then discardRow s x .check
  else if 16 ≤ s.buffer.length then discardRow s x .overrun
  else { deselect s with buffer := s.buffer ++ [{ table := x.table, row := x.row, bytes := bytes }] }

/-- The length of a segment's payload after the kind byte, by its index (R173). -/
def segmentLength (index : Nat) : Nat := if index = 2 then 5 else 7

/-- A segment of the right index and length for the selection (R165). -/
def segmentFits (x : Selection) (body : List Byte) : Bool :=
  decide (0 < body.length) && u8At body 0 == x.next && body.length == segmentLength x.next

/-- A SEGMENT (R165). -/
def loadSegment (s : State) (body : List Byte) : State :=
  match s.selection with
  | none => s.countPart (fun c => { c with skippedSegments := bump c.skippedSegments })
  | some x =>
    if !segmentFits x body then discardRow s x .format
    else if x.next = 2 then completeRow s x (x.bytes ++ body.tail)
    else { s with selection := some { x with next := x.next + 1, bytes := x.bytes ++ body.tail } }

/-! ## Commit (R167) -/

/-- The milliseconds within which a commit completes after its take. -/
def commitWindow : Nat := 25

/-- A COMMIT (R167). -/
def loadCommit (s : State) : State :=
  if s.flight.isSome then reply s 3 .busy .none noneByte noneByte 0
  else if loadingHalted s then replyHalted s 3 noneByte noneByte
  else if s.buffer = [] then reply s 3 .ok .none noneByte noneByte 0
  else { s with flight := some { taken := s.buffer.length, left := commitWindow } }

/-! ## Reads (R170) -/

/-- The three data replies that hold a row (R173). -/
def dataReplies (s : State) (bytes : Row) : List Frame :=
  [replyFrame s (byte1 4 ++ byte1 0x10 ++ bytes.take 6),
   replyFrame s (byte1 4 ++ byte1 0x11 ++ (bytes.drop 6).take 6),
   replyFrame s (byte1 4 ++ byte1 0x12 ++ (bytes.drop 12).take 4)]

/-- A row shown: three data replies and a status reply OK whose detail says what was shown. -/
def replyRow (s : State) (table row : Nat) (bytes : Row) (detail : Nat) : State :=
  reply { s with replies := s.replies ++ dataReplies s bytes } 4 .ok .none table row detail

/-- The newest row in the buffer for a table and row. -/
def newestPending (buffer : List BufferEntry) (table row : Nat) : Option BufferEntry :=
  buffer.reverse.find? (fun e => e.table == table && e.row == row)

/-- The active row of a table, bytes not listed as 0, zeros where it is not present. -/
def activeRow (s : State) (table row : Nat) : Row := listedRow table row ((s.tables.get table).row row)

/-- A READ of one of the four tables. -/
def readTable (s : State) (table row view : Nat) : State :=
  if view = 0 then
    replyRow s table row (activeRow s table row) (if (s.tables.get table).present row then 0 else 3)
  else if view = 1 then
    match newestPending s.buffer table row with
    | some e => replyRow s table row (listedRow table row e.bytes) 1
    | none => replyRow s table row (activeRow s table row) 2
  else reply s 4 .refused .structure_ table row 0

/-- A READ of a state table. -/
def readState (s : State) (table row view : Nat) : State :=
  if view = 0 then replyRow s table row (stateRow s table row) 0
  else if view = 1 then reply s 4 .refused .conflict table row 0
  else reply s 4 .refused .structure_ table row 0

/-- A READ (R170).  One of a row that does not exist is answered BAD_ROW whatever its view: the model's reading, in the order of
R170's text (log 38). -/
def loadRead (s : State) (table row view : Nat) : State :=
  if rowExists table row then readTable s table row view
  else if row < stateRowCount table then readState s table row view
  else reply s 4 .badRow .none table row 0

/-! ## Controls (R171) -/

/-- The one status reply of a CONTROL, with the governor state after the control as detail. -/
def replyControl (s : State) (status : StatusCode) (cause : ReplyCause) : State :=
  reply s 5 status cause noneByte noneByte s.governor.code

/-- RELEASE (R22, R23). -/
def controlRelease (s : State) : State :=
  match releaseRefusal s with
  | some (status, cause) => replyControl s status cause
  | none => replyControl (changeGovernor s .govern .release) .ok .none

/-- HOLD (R24). -/
def controlHold (s : State) : State :=
  match s.governor with
  | .govern => replyControl (enterHold s) .ok .none
  | .hold => replyControl s .ok .none
  | .stopped => replyControl s .refused .state

/-- STOP_CLEAR (R29). -/
def controlStopClear (s : State) : State :=
  match s.governor with
  | .stopped =>
    if s.quiet.isSome then replyControl s .refused .state
    else replyControl (changeGovernor s .hold .stopClear) .ok .none
  | .hold | .govern => replyControl s .ok .none

/-- CLEAR_FAULTS at one axis: FAULT goes to NEUTRAL with G 0 and AXIS_STATE; the other states stay (R132). -/
def clearAxisFault (s : State) (a : Axis) : State :=
  match (s.axis a).state with
  | .fault => changeAxis s a (s.axis a).toNeutral
  | .neutral | .active | .rampdown | .auto => s

/-- A delivery record with its miss streak at 0. -/
def DeliveryRecord.unmissed (d : DeliveryRecord) : DeliveryRecord := { d with missStreak := 0 }
/-- An axis record with its exit-cause set empty. -/
def AxisRecord.noExits (r : AxisRecord) : AxisRecord := { r with exits := 0 }

/-- The sets, streaks and records that CLEAR_FAULTS empties (R132, R161, R178). -/
def emptyFaults (s : State) : State :=
  { s with
    axes := ⟨s.axes.rotary.noExits, s.axes.crowd.noExits, s.axes.hoist.noExits⟩
    deliveries := ⟨s.deliveries.rotary.unmissed, s.deliveries.crowd.unmissed, s.deliveries.hoist.unmissed⟩
    aborts := 0
    machineFault := none
    barFault := none }

/-- CLEAR_FAULTS (R132, R161, R178). -/
def controlClearFaults (s : State) : State :=
  replyControl (emptyFaults (allAxes.foldl clearAxisFault s)) .ok .none

/-- CLEAR_LOAD_ERRORS (R171). -/
def controlClearLoadErrors (s : State) : State := replyControl { s with loadFlags := 0 } .ok .none

/-- DISCARD_PENDING (R171). -/
def controlDiscardPending (s : State) : State :=
  if s.flight.isSome then replyControl s .busy .none else replyControl { s with buffer := [] } .ok .none

/-- CLEAR_COUNTERS (R171, R179). -/
def controlClearCounters (s : State) : State := replyControl { s with counters := Counters.zero } .ok .none

/-- RESTART: answered OK, a commit in flight is abandoned, and the warm reset waits for the reply (R20, R167, R171). -/
def controlRestart (s : State) : State := replyControl { s with flight := none, restarting := true } .ok .none

/-- A CONTROL (R171). -/
def loadControl (s : State) (c : Control) : State :=
  match c with
  | .release => controlRelease s
  | .hold => controlHold s
  | .stopClear => controlStopClear s
  | .clearFaults => controlClearFaults s
  | .clearLoadErrors => controlClearLoadErrors s
  | .discardPending => controlDiscardPending s
  | .clearCounters => controlClearCounters s
  | .restart => controlRestart s

/-! ## A management frame (R163) -/

/-- The answer to a frame of unknown kind, wrong length or unknown code; a CONTROL shows the governor state as every control
does (log 31). -/
def replyUnknown (s : State) (kind : Nat) : State :=
  reply s kind .refused .structure_ noneByte noneByte (if kind = 5 then s.governor.code else 0)

/-- A request is served. -/
def serve (s : State) (r : Request) : State :=
  match r with
  | .select table row check => loadSelect s table row check
  | .segment body => loadSegment s body
  | .commit => loadCommit s
  | .read table row view => loadRead s table row view
  | .control c => loadControl s c
  | .unknown kind => replyUnknown s kind

/-- A management frame of at least one byte reaches the Load Unit: discarded unread while the reply slot holds a frame, else
served (R163). -/
def takeManagement (s : State) (pl : List Byte) : State :=
  if s.replies ≠ [] then s.countPart (fun c => { c with managementDrops := bump c.managementDrops })
  else serve s (requestOf pl)

end Sys2Proof.Machine
end

