-- ==== Sys2Proof/Machine/Commit.lean ====
section
/-! DEFINITION. The completion of a commit (R168, R169): validation, the state checks, and the follow-on effects. -/

namespace Sys2Proof.Machine

open Sys2Proof

/-- The rows taken by a commit, clamped (R168 step 1). -/
def takenRows (s : State) (f : Flight) : List BufferEntry := (s.buffer.take f.taken).map BufferEntry.clamped

/-- Clamping changed a field of a row taken (R168 step 1). -/
def takenAdjusted (s : State) (f : Flight) : Bool := (s.buffer.take f.taken).any BufferEntry.adjusted

/-- TRACKING with the extension in force at the retract tolerance or less (R169). -/
def barClosed (s : State) : Bool :=
  geometry s == .tracking && decide (s.extension ≤ Rig.retractTolerance s.tables.rig)

/-- A bar profile or pocket table commit may complete: in HOLD, or with the bar closed (R69, R169) and no sequence running
(R162; that the commit is then refused with BAR_EXTENDED is log 39). -/
def mayChangeBar (s : State) : Bool := s.governor == .hold || (barClosed s && s.sequencer == .idle)

/-- The state checks at completion: BAR_EXTENDED before IN_SERVICE (R162, R169; log 19). -/
def stateFault (s : State) (es : List BufferEntry) : Option CommitFault :=
  if (touches es 2 || touches es 3) && !mayChangeBar s then
    some ⟨.barExtended, if touches es 2 then 2 else 3, noneByte⟩
  else if touchesRow es 1 1 && s.governor != .hold then some ⟨.inService, 1, 1⟩
  else none

/-- Why a commit is refused at its completion, if it is: structural checks, then state checks (R168, R169). -/
def commitFault (s : State) (es : List BufferEntry) : Option CommitFault :=
  (structuralFault (touches es) (s.tables.layAll es)).or (stateFault s es)

/-- The rows taken leave the buffer and the commit-in-flight mark is cleared (R169). -/
def leaveBuffer (s : State) (f : Flight) : State := { s with buffer := s.buffer.drop f.taken, flight := none }

/-- A refused commit (R169). -/
def refuseCommit (s : State) (f : Flight) (why : CommitFault) : State :=
  reply (leaveBuffer s f) 3 .refused why.cause why.table why.row 0

/-- The rows are applied, all at once; a rig profile commit leaves the old sensor map to samples received before it (R169;
log 12). -/
def applyRows (s : State) (es : List BufferEntry) : State :=
  { s with
    tables := s.tables.layAll es
    earlierMap := if touches es 1 then sensorMapInForce s else s.earlierMap }

/-- The refresh timers of all axes are loaded with the refresh period (R147). -/
def loadRefresh (s : State) : State :=
  let period := some (Rig.refreshPeriod s.tables.rig)
  { s with
    deliveries := ⟨{ s.deliveries.rotary with refresh := period }, { s.deliveries.crowd with refresh := period },
      { s.deliveries.hoist with refresh := period }⟩ }

/-- The status timer at the completion of a rig profile commit: loaded at the first, or when the period leaves 0; cancelled
when it becomes 0; otherwise left (R176). -/
def statusAfterCommit (s : State) (oldRig : Table) : Timer :=
  if !oldRig.valid || Rig.statusPeriod oldRig = 0 then statusReload s.tables.rig
  else if Rig.statusPeriod s.tables.rig = 0 then none
  else s.statusTimer

/-- The timers that a rig profile commit loads or cancels in the Delivery Unit and the Report Unit (R147, R176). -/
def rigTimers (s : State) (oldRig : Table) : State :=
  let t := if oldRig.valid then s else loadRefresh s
  { t with statusTimer := statusAfterCommit s oldRig }

/-- An effect of a commit that touches a table. -/
def whenTouched (es : List BufferEntry) (id : Nat) (effect : State → State) (s : State) : State :=
  if touches es id then effect s else s

/-- The follow-on effects, in their order (R169): sensor remapping, joint invalidation and allocation, band re-lookup, backoff
reset, refresh and status timers, management channel.  `old` is the Table Store before the commit. -/
def followOn (s : State) (es : List BufferEntry) (old : Tables) (oldMap : Option (List Nat)) : State :=
  let s1 := whenTouched es 1 (fun t => remapSensors t oldMap) s
  let s2 := if touches es 2 || touches es 3 then kellyTableChange s1 old.bar.valid else s1
  let s3 := whenTouched es 4 (fun t => bandCommit t es) s2
  let s4 := whenTouched es 1 backoffReset s3
  let s5 := whenTouched es 1 (fun t => rigTimers t old.rig) s4
  whenTouched es 1 (fun t => { t with channel := channelOf t.tables }) s5

/-- A commit that passed (R169): OK or ADJUSTED with the number of rows, on the channel in force after it. -/
def passCommit (s : State) (f : Flight) : State :=
  let es := takenRows s f
  let t := leaveBuffer (applyRows s es) f
  reply (followOn t es s.tables (sensorMapInForce s)) 3 (if takenAdjusted s f then .adjusted else .ok) .none noneByte
    noneByte f.taken

/-- The completion of the commit in flight; none without one (R168, R169). -/
def commitCompletion (s : State) : State :=
  match s.flight with
  | none => s
  | some f =>
    match commitFault s (takenRows s f) with
    | some why => refuseCommit s f why
    | none => passCommit s f

end Sys2Proof.Machine
end

