-- ==== Sys2Proof/Machine/Echoes.lean ====
section
/-! DEFINITION. Echoes of the valve drivers (R143 to R145), retries and misses (R146), refresh (R148), and what a machine port
bus-off hands on (R150). -/

namespace Sys2Proof.Machine

open Sys2Proof

/-- A delivery is answerable: in AWAIT, or QUEUED as a repetition (R144). -/
def DeliveryRecord.answerable (d : DeliveryRecord) : Bool :=
  d.state == .await || (d.state == .queued && decide (1 ≤ d.retry))

/-- An echo matches: its sequence is the record's and the delivery is answerable (R144). -/
def DeliveryRecord.matches_ (d : DeliveryRecord) (pl : List Byte) : Bool :=
  d.answerable && echoSequence pl == d.sequence

/-- The delivery record after a matching echo (R144 steps 1 to 3). -/
def DeliveryRecord.answered (d : DeliveryRecord) (pl : List Byte) : DeliveryRecord :=
  { d with state := .idle, echo := none, retry := 0, missStreak := 0, lastDelivered := d.value,
           lastEcho := some (echoDriver pl, echoApplied pl) }

/-- A fault of the machine side is offered to its record and handed to the axis (R144, R146). -/
def driverFaulted (s : State) (a : Axis) (k : FaultKind) (c : ExitCause) : State := enterFault (capture s k a.code) a c

/-- A matching echo (R144). -/
def matchEcho (s : State) (a : Axis) (pl : List Byte) : State :=
  let t := s.setDelivery a ((s.delivery a).answered pl)
  let u := if echoDriver pl = .neutral ∧ (s.delivery a).value ≠ 0 then
      t.countDelivery a (fun c => { c with driverNeutral := bump c.driverNeutral }) else t
  if echoDriver pl = .fault then driverFaulted u a .driverFault .driverFault else u

/-- A DRIVER ECHO of the right length reaches the Delivery Unit: check byte, then a match or a late echo (R143 to R145). -/
def takeEcho (s : State) (a : Axis) (pl : List Byte) : State :=
  if !checkPasses pl then s.countDelivery a (fun c => { c with checkFailures := bump c.checkFailures })
  else if (s.delivery a).matches_ pl then matchEcho s a pl
  else s.countDelivery a (fun c => { c with lateEchoes := bump c.lateEchoes })

/-- The delivery record of a retry: QUEUED again with the same content (R146). -/
def DeliveryRecord.retried (d : DeliveryRecord) : DeliveryRecord :=
  { d with state := .queued, retry := d.retry + 1, echo := none }

/-- The delivery record given up: IDLE, retry count 0, the miss streak one higher, stopping at 255 (R146). -/
def DeliveryRecord.givenUp (d : DeliveryRecord) : DeliveryRecord :=
  { d with state := .idle, retry := 0, echo := none, missStreak := if d.missStreak < 255 then d.missStreak + 1 else 255 }

/-- The delivery awaited is given up, with DRIVER_LOST at the miss limit (R146). -/
def giveUp (s : State) (a : Axis) : State :=
  let d := (s.delivery a).givenUp
  let t := (s.setDelivery a d).countDelivery a (fun c => { c with misses := bump c.misses })
  if Rig.missLimit s.tables.rig ≤ d.missStreak then driverFaulted t a .driverLost .driverLost else t

/-- The echo timer of an axis runs out: a retry below the retry limit, else the delivery is given up (R146).  The timer runs in
AWAIT only. -/
def echoExpiry (s : State) (a : Axis) : State :=
  let d := s.delivery a
  if d.state = .await then
    if d.retry < Rig.retryLimit s.tables.rig then
      (s.setDelivery a d.retried).countDelivery a (fun c => { c with retries := bump c.retries })
    else giveUp s a
  else s.setDelivery a { d with echo := none }

/-- The refresh timer of an axis runs out: idle, and an evaluation in whatever state, whose hand-off always makes a frame
(R148). -/
def refreshExpiry (s : State) (a : Axis) : State :=
  evaluate (s.setDelivery a { s.delivery a with refresh := none }) a true

/-- Machine port bus-off reaches the Delivery Unit: deliveries, then the axes, then the sequencer (R150). -/
def machineBusOff (s : State) : State := abortSequence (neutraliseAll (deliveriesBusOff s) .busOff) .busOff

end Sys2Proof.Machine
end

