-- ==== Sys2Proof/Machine/OperatorCommands.lean ====
section
/-! DEFINITION. Operator commands (R122 to R127) and the timers of an axis (R128). -/

namespace Sys2Proof.Machine

open Sys2Proof

/-- The operator deadband in force: 0 while no rig profile is valid (R123). -/
def deadband (s : State) : Int := if s.tables.rig.valid then Rig.deadband s.tables.rig else 0

/-- The demand lies outside -1000 to 1000 (R123). -/
def demandClamped (pl : List Byte) : Bool := clamp (-1000) 1000 (commandDemand pl) != commandDemand pl

/-- The demand after clamping and deadband (R123). -/
def demandAfterDeadband (s : State) (pl : List Byte) : Int :=
  let d := clamp (-1000) 1000 (commandDemand pl)
  if |d| < deadband s then 0 else d

/-- The conditions of zero-demand re-entry, the demand apart (R127). -/
def mayReenter (s : State) (a : Axis) : Bool :=
  (s.axis a).state == .neutral && s.governor == .govern && !isBusOff s .machine

/-- The counters after the acceptance of a command (R122, R123, R124). -/
def AxisCounters.accepting (c : AxisCounters) (gap clamped notCentred : Bool) : AxisCounters :=
  { c with
    accepted := bump c.accepted
    gaps := if gap then bump c.gaps else c.gaps
    clamped := if clamped then bump c.clamped else c.clamped
    notCentred := if notCentred then bump c.notCentred else c.notCentred }

/-- The axis record after the acceptance of a command: alive counter, stored demand, and the operator freshness timer loaded
where a rig profile is valid (R122, R123). -/
def AxisRecord.accepting (r : AxisRecord) (alive : Nat) (d : Int) (reload : Option Nat) : AxisRecord :=
  { r with lastAlive := some alive, demand := some d, freshness := reload.or r.freshness }

/-- The operator freshness reload of an axis, none while no rig profile is valid (R123). -/
def freshnessReload (s : State) (a : Axis) : Option Nat :=
  if s.tables.rig.valid then some (Rig.operatorFreshness s.tables.rig a) else none

/-- Counters and record of an accepted command (R122 step 3, R123). -/
def recordCommand (s : State) (a : Axis) (pl : List Byte) : State :=
  let d := demandAfterDeadband s pl
  (s.countAxis a (fun c =>
    c.accepting (isGap (s.axis a).lastAlive (commandAlive pl)) (demandClamped pl)
      ((s.axis a).state == .neutral && d != 0))).setAxis a
    ((s.axis a).accepting (commandAlive pl) d (freshnessReload s a))

/-- The state action of an accepted command, before the hand-off and the evaluation (R124, R127): NEUTRAL re-enters ACTIVE on
a zero demand where it may, RAMPDOWN returns to ACTIVE with its ramp timer cancelled. -/
def commandAction (s : State) (a : Axis) (d : Int) : State :=
  match (s.axis a).state with
  | .neutral =>
    if d = 0 ∧ mayReenter s a = true then reportAxisState (s.setAxis a { s.axis a with state := .active }) a else s
  | .rampdown => reportAxisState (s.setAxis a { s.axis a with state := .active, ramp := none }) a
  | .active | .auto | .fault => s

/-- The command goes to the Auto Sequencer: a ROTARY command with a flag, or with the axis in AUTO (R125). -/
def commandHandOff (s : State) (a : Axis) (pl : List Byte) (d : Int) : State :=
  if a = .rotary ∧ (commandLockReq pl = true ∨ commandReleaseReq pl = true ∨ s.axes.rotary.state = .auto) then
    sequencerCommand s (commandLockReq pl) (commandReleaseReq pl) d
  else s

/-- The evaluation that a command starts, made last: none where the axis stayed in NEUTRAL or FAULT (R124). -/
def commandEvaluation (s : State) (a : Axis) : State := evaluateInService s a

/-- An accepted command (R122 step 3 to R125). -/
def acceptCommand (s : State) (a : Axis) (pl : List Byte) : State :=
  let d := demandAfterDeadband s pl
  commandEvaluation (commandHandOff (commandAction (recordCommand s a pl) a d) a pl d) a

/-- An OPERATOR COMMAND of the right length reaches its Axis Governor: check byte, duplicate, acceptance (R122). -/
def takeCommand (s : State) (a : Axis) (pl : List Byte) : State :=
  if !checkPasses pl then s.countAxis a (fun c => { c with checkFailures := bump c.checkFailures })
  else if isDuplicate (s.axis a).lastAlive (commandAlive pl) then
    s.countAxis a (fun c => { c with duplicates := bump c.duplicates })
  else acceptCommand s a pl

/-- The operator freshness timer of an axis runs out (R128). -/
def operatorExpiry (s : State) (a : Axis) : State :=
  let r := { s.axis a with freshness := none }
  if r.state = .active then
    if r.governed = 0 then changeAxis s a (r.toNeutralFor .stale)
    else reportAxisState (s.setAxis a { r with state := .rampdown, ramp := some (Rig.rampPeriod s.tables.rig) }) a
  else s.setAxis a r

/-- G after one ramp step: its magnitude falls by the step, or to 0, and its sign is kept (R128). -/
def rampStepped (g step : Int) : Int :=
  if |g| ≤ step then 0 else if g < 0 then g + step else g - step

/-- An axis record after one ramp step: G lowered, and the ramp timer loaded again where G is then not 0 (R128). -/
def AxisRecord.rampStep (r : AxisRecord) (rig : Table) : AxisRecord :=
  let g := rampStepped r.governed (Rig.rampStep rig)
  { r with governed := g, ramp := if g = 0 then none else some (Rig.rampPeriod rig) }

/-- The ramp timer of an axis runs out (R128): one ramp step, whose G is handed over, and where G is then 0 the entry into
NEUTRAL with STALE, which is a hand-off of its own (R121).  The ramp timer runs in RAMPDOWN only. -/
def rampExpiry (s : State) (a : Axis) : State :=
  if (s.axis a).state = .rampdown then
    let r := (s.axis a).rampStep s.tables.rig
    let t := handOver (s.setAxis a r) a false
    if r.governed = 0 then changeAxis t a (r.toNeutralFor .stale) else t
  else s.setAxis a { s.axis a with ramp := none }

end Sys2Proof.Machine
end

