-- ==== Sys2Proof/Machine/Reception.lean ====
section
/-! DEFINITION. Reception: the receive error count (R14), classification (R5, R6), length checks (R7), foreign frames (R8), the
STOP relay (R9) and forwarding (R10, R11). -/

namespace Sys2Proof.Machine

open Sys2Proof

/-! ## Identifiers (R3) -/

/-- The class of a standard identifier. -/
def Frame.cls (f : Frame) : Nat := f.id / 128
/-- The channel of a standard identifier. -/
def Frame.chan (f : Frame) : Nat := f.id % 128

/-- The axis of an axis channel. -/
def axisOfChannel (ch : Nat) : Option Axis :=
  match ch with
  | 0 => some .rotary
  | 1 => some .crowd
  | 2 => some .hoist
  | _ => none

/-! ## Treatments (R5, R6) -/

/-- What the classifier does with a frame. -/
inductive Treatment where
  /-- Relayed, and given to Governor Control. -/
  | stop
  /-- Consumed by the Axis Governor of an axis. -/
  | command (a : Axis)
  /-- Consumed by the Load Unit. -/
  | management
  /-- Consumed by the Delivery Unit for an axis. -/
  | echo (a : Axis)
  /-- Given to Sensor Intake for a quantity, and forwarded. -/
  | snoop (q : Quantity)
  /-- Forwarded. -/
  | forward
  /-- Discarded as foreign. -/
  | foreign
  deriving DecidableEq, Repr

/-- A standard data frame at the operator port (R5). -/
def classifyOperator (channel : Channel) (f : Frame) : Treatment :=
  match Frame.cls f with
  | 0 => .stop
  | 1 => .foreign
  | 2 => .foreign
  | 3 =>
    match axisOfChannel (Frame.chan f) with
    | some a => .command a
    | none => .forward
  | 8 => if Frame.chan f = channel.toNat then .management else .forward
  | _ => .forward

/-- A standard data frame at the machine port (R6). -/
def classifyMachine (map : Option (List Nat)) (f : Frame) : Treatment :=
  match Frame.cls f with
  | 0 => .stop
  | 1 => .foreign
  | 2 =>
    match axisOfChannel (Frame.chan f) with
    | some a => .echo a
    | none => .forward
  | 3 => .foreign
  | 4 =>
    match mappedQuantity map (Frame.chan f) with
    | some q => .snoop q
    | none => .forward
  | _ => .forward

/-- The treatment of a frame received at a port, under a sensor map: extended and remote frames are forwarded, whatever their
identifier (R5, R6). -/
def classify (s : State) (p : Port) (map : Option (List Nat)) (f : Frame) : Treatment :=
  if f.extended || f.remote then .forward
  else
    match p with
    | .operator => classifyOperator s.channel f
    | .machine => classifyMachine map f

/-! ## Forwarding (R10, R11) -/

/-- The queue that a port's frames go into holds 32. -/
def queueFull (s : State) (p : Port) : Bool := decide (32 ≤ (s.port p.other).queue.length)

/-- A frame received at `p` is appended to the queue toward the other port (R10). -/
def appendFrame (s : State) (p : Port) (f : Frame) : State :=
  (s.setPort p.other { s.port p.other with queue := (s.port p.other).queue ++ [f] }).countPort p
    (fun c => { c with forwarded := bump c.forwarded })

/-- A frame dropped at a full queue: counted, and reported where the mark is clear (R11). -/
def dropFrame (s : State) (p : Port) : State :=
  let t := s.countPort p (fun c => { c with drops := bump c.drops })
  if (s.port p.other).dropMark then t
  else
    report (t.setPort p.other { s.port p.other with dropMark := true }) .forwardDrop p.code
      (s.port p.other).queue.length

/-- A frame received at `p` is forwarded (R10, R11). -/
def forwardFrame (s : State) (p : Port) (f : Frame) : State :=
  if queueFull s p then dropFrame s p else appendFrame s p f

/-! ## The other treatments -/

/-- A frame discarded as foreign (R8). -/
def discardForeign (s : State) (p : Port) (f : Frame) : State :=
  report (s.countPort p (fun c => { c with foreign := bump c.foreign })) .foreignCommand p.code f.id

/-- The STOP relay slot of the other port takes a STOP, or merges it (R9). -/
def relayStop (s : State) (p : Port) (f : Frame) : State :=
  s.setPort p.other { s.port p.other with stopSlot := (s.port p.other).stopSlot.or (some f) }

/-- A frame refused for its length: the format-failure counter of the port of arrival (R7). -/
def countFormat (s : State) (p : Port) : State := s.countPort p (fun c => { c with format := bump c.format })

/-- An OPERATOR COMMAND of an axis, length-checked (R7). -/
def receiveCommand (s : State) (p : Port) (a : Axis) (f : Frame) : State :=
  if f.len = 4 then takeCommand s a f.data
  else (countFormat s p).countAxis a (fun c => { c with checkFailures := bump c.checkFailures })

/-- A DRIVER ECHO of an axis, length-checked (R7). -/
def receiveEcho (s : State) (p : Port) (a : Axis) (f : Frame) : State :=
  if f.len = 4 then takeEcho s a f.data else countFormat s p

/-- A MANAGEMENT frame on the management channel, length-checked (R7). -/
def receiveManagement (s : State) (p : Port) (f : Frame) : State :=
  if f.len = 0 then countFormat s p else takeManagement s f.data

/-- The copy of a SENSOR SAMPLE that goes to Sensor Intake, length-checked (R7). -/
def receiveSample (s : State) (p : Port) (q : Quantity) (f : Frame) : State :=
  if f.len = 8 then takeSample s q f.data
  else (countFormat s p).countQuantity q (fun c => { c with checkFailures := bump c.checkFailures })

/-- The two deliveries of a snooped SENSOR SAMPLE, which are independent (R6).  Their order shows only where the forwarded copy
raises FORWARD_DROP; there it is a free choice (log 10). -/
def snoop (s : State) (p : Port) (q : Quantity) (f : Frame) : State :=
  if queueFull s p && !(s.port p.other).dropMark then
    if chooses s 0 then forwardFrame (receiveSample (madeChoices s 1) p q f) p f
    else receiveSample (forwardFrame (madeChoices s 1) p f) p q f
  else receiveSample (forwardFrame s p f) p q f

/-- A frame is treated (R5, R6). -/
def treat (s : State) (p : Port) (t : Treatment) (f : Frame) : State :=
  match t with
  | .stop => governorStop (relayStop s p f) p f.id
  | .command a => receiveCommand s p a f
  | .management => receiveManagement s p f
  | .echo a => receiveEcho s p a f
  | .snoop q => snoop s p q f
  | .forward => forwardFrame s p f
  | .foreign => discardForeign s p f

/-- The receive error count after a successful reception (R14). -/
def receivedCount (n : Nat) : Nat := if 127 < n then 120 else n - 1

/-- A port record after a successful reception (R14). -/
def PortRecord.received (r : PortRecord) : PortRecord := { r with rxErrors := receivedCount r.rxErrors }

/-- A frame received at a port without error, classified under a sensor map: nothing where the port takes no part in its bus
(R1, R2, R16; log 7). -/
def receiveUnder (s : State) (p : Port) (map : Option (List Nat)) (f : Frame) : State :=
  if takesPart s p then treat (s.setPort p (s.port p).received) p (classify s p map f) f else s

/-- A frame received at a port without error (R2). -/
def receive (s : State) (p : Port) (f : Frame) : State := receiveUnder s p (sensorMapInForce s) f

end Sys2Proof.Machine
end

