-- ==== Sys2Proof/Machine/FrameCommands.lean ====
section
/-! DEFINITION. The meanings of the frames received on the two buses, management frames apart.  Each is a reception: the error
count, the classification and the treatment are those of any frame (log 8). -/

namespace Sys2Proof.Machine

open Sys2Proof

/-- FORWARD (R10, R11). -/
def execForward (p : Port) (f : Frame) (s : State) : Host.Outcome State Fault Refusal := .next (receive s p f)

/-- FOREIGN_FRAME (R8). -/
def execForeignFrame (p : Port) (f : Frame) (s : State) : Host.Outcome State Fault Refusal := .next (receive s p f)

/-- STOP_FRAME (R9, R27): class 0x0. -/
def execStopFrame (p : Port) (ch : Channel) (payload : List Byte) (s : State) : Host.Outcome State Fault Refusal :=
  .next (receive s p (ownFrame 0 ch.toNat payload))

/-- OPERATOR_COMMAND (R122 to R125): class 0x3 at the operator port. -/
def execOperatorCommand (a : Axis) (payload : List Byte) (s : State) : Host.Outcome State Fault Refusal :=
  .next (receive s .operator (ownFrame 3 a.code payload))

/-- SENSOR_SAMPLE (R35 to R39): class 0x4 at the machine port, classified under the map in force, or under the earlier one where
it was received before the latest rig profile commit completed (R33, R41; log 12). -/
def execSensorSample (ch : Channel) (payload : List Byte) (early : Bool) (s : State) :
    Host.Outcome State Fault Refusal :=
  .next (receiveUnder s .machine (if early then s.earlierMap else sensorMapInForce s) (ownFrame 4 ch.toNat payload))

/-- DRIVER_ECHO (R143 to R145): class 0x2 at the machine port. -/
def execDriverEcho (a : Axis) (payload : List Byte) (s : State) : Host.Outcome State Fault Refusal :=
  .next (receive s .machine (ownFrame 2 a.code payload))

end Sys2Proof.Machine
end

