-- ==== Sys2Proof/Machine/ManagementCommands.lean ====
section
/-! DEFINITION. The meanings of the management frames and of the completion of a commit.  Each frame is a reception of class 0x8
on the management channel in force at the operator port (R5, R7, R163), with the payload of R173. -/

namespace Sys2Proof.Machine

open Sys2Proof

/-- A management frame of a payload is received on the management channel in force. -/
def manage (s : State) (payload : List Byte) : State := receive s .operator (ownFrame 8 s.channel.toNat payload)

/-- The CONTROL of a code (R173). -/
def control (s : State) (code : Byte) : State := manage s [5, code]

/-- UNKNOWN_KIND (R7, R163): a payload of any kind and length is treated as what it is. -/
def execUnknownKind (payload : List Byte) (s : State) : Host.Outcome State Fault Refusal := .next (manage s payload)

/-- SELECT (R165). -/
def execSelect (table row check : Byte) (s : State) : Host.Outcome State Fault Refusal :=
  .next (manage s [1, table, row, check])

/-- SEGMENT (R165, R166). -/
def execSegment (body : List Byte) (s : State) : Host.Outcome State Fault Refusal := .next (manage s (2 :: body))

/-- COMMIT (R167). -/
def execCommit (s : State) : Host.Outcome State Fault Refusal := .next (manage s [3])

/-- COMMIT_COMPLETION (R168, R169). -/
def execCommitCompletion (s : State) : Host.Outcome State Fault Refusal := .next (commitCompletion s)

/-- READ (R170). -/
def execRead (table row view : Byte) (s : State) : Host.Outcome State Fault Refusal :=
  .next (manage s [4, table, row, view])

/-- RELEASE (R22, R23). -/
def execRelease (s : State) : Host.Outcome State Fault Refusal := .next (control s 1)

/-- HOLD (R24 to R26). -/
def execHold (s : State) : Host.Outcome State Fault Refusal := .next (control s 2)

/-- STOP_CLEAR (R29). -/
def execStopClear (s : State) : Host.Outcome State Fault Refusal := .next (control s 3)

/-- CLEAR_FAULTS (R132, R161, R178). -/
def execClearFaults (s : State) : Host.Outcome State Fault Refusal := .next (control s 4)

/-- CLEAR_LOAD_ERRORS (R171). -/
def execClearLoadErrors (s : State) : Host.Outcome State Fault Refusal := .next (control s 5)

/-- DISCARD_PENDING (R171). -/
def execDiscardPending (s : State) : Host.Outcome State Fault Refusal := .next (control s 6)

/-- CLEAR_COUNTERS (R179). -/
def execClearCounters (s : State) : Host.Outcome State Fault Refusal := .next (control s 7)

/-- RESTART (R20, R171). -/
def execRestart (s : State) : Host.Outcome State Fault Refusal := .next (control s 8)

end Sys2Proof.Machine
end

