-- ==== Sys2Proof/Machine/Resets.lean ====
section
/-! DEFINITION. The two kinds of reset: the values that a warm reset gives every block (R1, R19, R20, R48, R71, R88, R99, R120,
R138, R152, R153, R172, R179), the end of a reset (R1, R21, R147, R176), and power-on reset. -/

namespace Sys2Proof.Machine

open Sys2Proof

/-- The bit rate of a level on RATE (R1). -/
def rateOf (high : Bool) : BitRate := if high then .kbit500 else .kbit250

/-- Every block at the values it takes after a warm reset, before the reset ends: the tables, the fault records and the bar's
extension are kept.  The level on RESET, the bit rate and the model's own fields stay. -/
def warmValues (s : State) : State :=
  { State.reset with
    pending := s.pending
    resetLow := s.resetLow
    bitRate := s.bitRate
    channel := channelOf s.tables
    joints := jointsAfterWarmReset s.tables s.joints
    extension := s.extension
    tables := s.tables
    reports := []
    machineFault := s.machineFault
    barFault := s.barFault
    choices := s.choices }

/-- The end of a reset: RATE is sampled, the refresh timers and the status timer are loaded where a rig profile is valid, and
GOVERNOR_STATE (HOLD, RESET) is the first report (R1, R21, R147, R176). -/
def endReset (s : State) (rateHigh : Bool) : State :=
  let t := { s with bitRate := rateOf rateHigh }
  let u := if s.tables.rig.valid then { loadRefresh t with statusTimer := statusReload s.tables.rig } else t
  report u .governorState GovernorState.hold.code GovernorDetail.reset.code

/-- A warm reset that takes effect at once, by RESTART (R20). -/
def warmReset (s : State) (rateHigh : Bool) : State := endReset (warmValues s) rateHigh

/-- Power-on reset: every field as after State.reset, with RATE sampled.  While RESET is low the report waits for the end of
the reset (R1; log 6); the waiting commands are kept (log 34). -/
def powerOn (s : State) (rateHigh : Bool) : State :=
  { State.reset with
    pending := s.pending
    resetLow := s.resetLow
    bitRate := rateOf rateHigh
    reports := if s.resetLow then [] else [resetReport]
    choices := s.choices }

end Sys2Proof.Machine
end

