-- ==== Sys2Proof/Machine/Transmission.lean ====
section
/-! DEFINITION. Transmission at a port: the arbiter (R12), the start and the endings of a transmission (R13), the error counts
(R14), bus-off (R16, R150) and recovery (R17). -/

namespace Sys2Proof.Machine

open Sys2Proof

/-! ## The arbiter (R12) -/

/-- A candidate for transmission: its content and where it comes from. -/
abbrev Candidate := Transmission

/-- A candidate of one frame that may be absent. -/
def candidateOf (source : TxSource) (f : Option Frame) : List Candidate := f.toList.map (fun x => ⟨x, source⟩)

/-- The candidate of an axis's delivery: the frame of a QUEUED delivery. -/
def governedCandidate (s : State) (a : Axis) : List Candidate :=
  if (s.delivery a).state = .queued then [⟨governedCommand a (s.delivery a), .governed a (s.delivery a).sequence⟩] else []

/-- A port's own candidates. -/
def ownCandidates (s : State) (p : Port) : List Candidate :=
  candidateOf .stop (s.port p).stopSlot ++
  match p with
  | .machine => governedCandidate s .rotary ++ governedCandidate s .crowd ++ governedCandidate s .hoist
  | .operator => candidateOf .report s.reports.head? ++ candidateOf .reply s.replies.head? ++
      candidateOf .status s.statusSlot.head?

/-- All candidates of a port, the head of the forwarding queue last. -/
def candidates (s : State) (p : Port) : List Candidate :=
  ownCandidates s p ++ candidateOf .forwarded (s.port p).queue.head?

/-- The candidate of lowest identifier, the first of equals: an own frame before the head of the queue (R12; log 13). -/
def lowest : List Candidate → Option Candidate
  | [] => none
  | c :: cs =>
    match lowest cs with
    | none => some c
    | some d => if c.frame.id ≤ d.frame.id then some c else some d

/-- The candidate that the arbiter offers (R12). -/
def offered (s : State) (p : Port) : Option Candidate := lowest (candidates s p)

/-- The port can start a frame: it takes part in its bus and no transmission is in progress (R12). -/
def mayStart (s : State) (p : Port) : Bool := takesPart s p && (s.port p).sending.isNone

/-- The port starts the candidate offered and takes its content; nothing where it cannot or none is offered (R12, R13). -/
def transmitStart (s : State) (p : Port) : State :=
  if mayStart s p then s.setPort p { s.port p with sending := offered s p } else s

/-! ## Endings -/

/-- The port's transmission has ended. -/
def stopSending (s : State) (p : Port) : State := s.setPort p { s.port p with sending := none }

/-- A frame leaves the forwarding queue, and the drop-reported mark is cleared (R10, R11). -/
def leaveQueue (s : State) (p : Port) : State :=
  s.setPort p { s.port p with queue := (s.port p).queue.tail, dropMark := false }

/-- The reply's first frame leaves the slot; where it answered RESTART, the warm reset takes effect (R20). -/
def replySent (s : State) (rateHigh : Bool) : State :=
  let t := { s with replies := s.replies.tail }
  if s.restarting then warmReset t rateHigh else t

/-- The owner of a candidate is told that its frame has been sent (R13). -/
def signalOwner (s : State) (p : Port) (source : TxSource) (rateHigh : Bool) : State :=
  match source with
  | .stop => s.setPort p { s.port p with stopSlot := none }
  | .governed a sequence => transmitCompleteGoverned s a sequence
  | .forwarded => leaveQueue s p
  | .report => { s with reports := s.reports.tail }
  | .reply => replySent s rateHigh
  | .status => { s with statusSlot := s.statusSlot.tail }
  | .replaced => s

/-- A port record after a successful transmission (R14). -/
def PortRecord.transmitted (r : PortRecord) : PortRecord := { r with txErrors := r.txErrors - 1, sending := none }

/-- A successful transmission (R13, R14). -/
def transmitComplete (s : State) (p : Port) (rateHigh : Bool) : State :=
  match (s.port p).sending with
  | none => s
  | some t => signalOwner (s.setPort p (s.port p).transmitted) p t.source rateHigh

/-- A lost bus arbitration: the port stops transmitting and receives the winning frame, if that ends without error (R13). -/
def lostArbitration (s : State) (p : Port) (winner : Option Frame) : State :=
  match (s.port p).sending with
  | none => s
  | some _ =>
    match winner with
    | none => stopSending s p
    | some f => receive (stopSending s p) p f

/-! ## Errors (R14, R16, R17) -/

/-- Entry of a port into BUS_OFF, its count already above 255 (R16). -/
def enterBusOff (s : State) (p : Port) : State :=
  let t := (s.setPort p { s.port p with recovery := 0 }).countPort p (fun c => { c with busOff := bump c.busOff })
  let u := capture (report t .busState p.code 1) .busOff p.code
  match p with
  | .operator => u
  | .machine => machineBusOff u

/-- The acknowledgement exception: an acknowledgement error at an error-passive port that saw no dominant bit (R14). -/
def ackExcepted (s : State) (p : Port) (ackUnseen : Bool) : Bool := ackUnseen && (s.port p).status == .errorPassive

/-- An error while the port transmits (R13, R14, R16). -/
def transmissionError (s : State) (p : Port) (ackUnseen : Bool) : State :=
  match (s.port p).sending with
  | none => s
  | some _ =>
    if ackExcepted s p ackUnseen then stopSending s p
    else
      let n := (s.port p).txErrors + 8
      let t := s.setPort p { s.port p with txErrors := n, sending := none }
      if 255 < n then enterBusOff t p else t

/-- An error while the port receives (R14). -/
def receiveError (s : State) (p : Port) : State :=
  if takesPart s p then s.setPort p { s.port p with rxErrors := min 255 ((s.port p).rxErrors + 1) } else s

/-- A port leaves BUS_OFF: both counts 0, BUS_STATE (leaving), and for the machine port the Delivery Unit is told (R17,
R150). -/
def leaveBusOff (s : State) (p : Port) : State :=
  let t := report (s.setPort p { s.port p with txErrors := 0, rxErrors := 0, recovery := 0 }) .busState p.code 0
  match p with
  | .operator => t
  | .machine => deliveriesRecovered t

/-- A port in BUS_OFF counts further occurrences of 11 recessive bits; at the 128th it leaves BUS_OFF (R17; log 22). -/
def countRecovery (s : State) (p : Port) (runs : Nat) : State :=
  if !s.resetLow && isBusOff s p then
    if 128 ≤ (s.port p).recovery + runs then leaveBusOff s p
    else s.setPort p { s.port p with recovery := (s.port p).recovery + runs }
  else s

end Sys2Proof.Machine
end

