-- ==== Sys2Proof/Machine/PortCommands.lean ====
section
/-! DEFINITION. The meanings of the resets and of the events of a port's transmitter and receiver. -/

namespace Sys2Proof.Machine

open Sys2Proof

/-- POWER_ON_RESET (R19, R21, R172). -/
def execPowerOnReset (rateHigh : Bool) (s : State) : Host.Outcome State Fault Refusal := .next (powerOn s rateHigh)

/-- RESET_LOW: every block holds its warm-reset values and the ports stop (R1). -/
def execResetLow (s : State) : Host.Outcome State Fault Refusal := .next { warmValues s with resetLow := true }

/-- RESET_HIGH: the warm reset ends (R1, R21); nothing where RESET is not low (log 7). -/
def execResetHigh (rateHigh : Bool) (s : State) : Host.Outcome State Fault Refusal :=
  .next (if s.resetLow then endReset { s with resetLow := false } rateHigh else s)

/-- TRANSMIT_START (R12, R13). -/
def execTransmitStart (p : Port) (s : State) : Host.Outcome State Fault Refusal := .next (transmitStart s p)

/-- TRANSMIT_COMPLETE (R13, R14, R142, R20). -/
def execTransmitComplete (p : Port) (rateHigh : Bool) (s : State) : Host.Outcome State Fault Refusal :=
  .next (transmitComplete s p rateHigh)

/-- LOST_ARBITRATION (R13). -/
def execLostArbitration (p : Port) (winner : Option Frame) (s : State) : Host.Outcome State Fault Refusal :=
  .next (lostArbitration s p winner)

/-- TRANSMISSION_ERROR (R14, R16). -/
def execTransmissionError (p : Port) (ackUnseen : Bool) (s : State) : Host.Outcome State Fault Refusal :=
  .next (transmissionError s p ackUnseen)

/-- RECEIVE_ERROR (R14). -/
def execReceiveError (p : Port) (s : State) : Host.Outcome State Fault Refusal := .next (receiveError s p)

/-- BUS_OFF_RECOVERY (R17). -/
def execBusOffRecovery (p : Port) (runs : Nat) (s : State) : Host.Outcome State Fault Refusal :=
  .next (countRecovery s p runs)

end Sys2Proof.Machine
end

