-- ==== Sys2Proof/Machine/TimerCommands.lean ====
section
/-! DEFINITION. The meanings of the timer expiries.  An expiry acts where its timer runs with no millisecond left and RESET is
high; a timer that was cancelled or loaded again first does not expire (R41, R118, R136, R151, R162; log 3). -/

namespace Sys2Proof.Machine

open Sys2Proof

/-- The effect of an expiry, where the timer has run out (R1, log 3). -/
def onExpiry (s : State) (t : Timer) (effect : State) : State := if !s.resetLow && t.due then effect else s

/-- The sequence timer runs out: the sequence aborts with TIMEOUT (R160).  The timer runs in LOCKING and RELEASING only. -/
def sequenceExpiry (s : State) : State :=
  if s.sequencer = .idle then { s with sequenceTimer := none } else abortAndHandBack s .timeout

/-- STOP_QUIET_TIMER_EXPIRY (R28). -/
def execStopQuietTimerExpiry (s : State) : Host.Outcome State Fault Refusal :=
  .next (onExpiry s s.quiet { s with quiet := none })

/-- SENSOR_FRESHNESS_EXPIRY (R40). -/
def execSensorFreshnessExpiry (q : Quantity) (s : State) : Host.Outcome State Fault Refusal :=
  .next (onExpiry s (s.sensor q).timer (becomeStale s q .expiry))

/-- OPERATOR_FRESHNESS_EXPIRY (R128). -/
def execOperatorFreshnessExpiry (a : Axis) (s : State) : Host.Outcome State Fault Refusal :=
  .next (onExpiry s (s.axis a).freshness (operatorExpiry s a))

/-- RAMP_TIMER_EXPIRY (R128). -/
def execRampTimerExpiry (a : Axis) (s : State) : Host.Outcome State Fault Refusal :=
  .next (onExpiry s (s.axis a).ramp (rampExpiry s a))

/-- ECHO_TIMER_EXPIRY (R146). -/
def execEchoTimerExpiry (a : Axis) (s : State) : Host.Outcome State Fault Refusal :=
  .next (onExpiry s (s.delivery a).echo (echoExpiry s a))

/-- REFRESH_TIMER_EXPIRY (R148). -/
def execRefreshTimerExpiry (a : Axis) (s : State) : Host.Outcome State Fault Refusal :=
  .next (onExpiry s (s.delivery a).refresh (refreshExpiry s a))

/-- STALL_TIMER_EXPIRY (R116). -/
def execStallTimerExpiry (s : State) : Host.Outcome State Fault Refusal := .next (onExpiry s s.stallTimer (stallExpiry s))

/-- RECOVERY_TIMER_EXPIRY (R117). -/
def execRecoveryTimerExpiry (s : State) : Host.Outcome State Fault Refusal :=
  .next (onExpiry s s.recoveryTimer (recoveryExpiry s))

/-- SEQUENCE_TIMER_EXPIRY (R160). -/
def execSequenceTimerExpiry (s : State) : Host.Outcome State Fault Refusal :=
  .next (onExpiry s s.sequenceTimer (sequenceExpiry s))

/-- STATUS_TIMER_EXPIRY (R176). -/
def execStatusTimerExpiry (s : State) : Host.Outcome State Fault Refusal :=
  .next (onExpiry s s.statusTimer (statusExpiry s))

end Sys2Proof.Machine
end

