-- ==== Sys2Proof/Machine/Dispatch.lean ====
section
/-! DEFINITION. The dispatch: one arm for each command, in the order of spec/opcode_table.json. -/

namespace Sys2Proof.Machine

open Sys2Proof

/-- The effect of a command on everything but the queue of waiting commands. -/
def exec (i : Instr) (s : State) : Host.Outcome State Fault Refusal :=
  match i with
  | .powerOnReset rateHigh => Sys2Proof.Machine.execPowerOnReset rateHigh s
  | .resetLow => Sys2Proof.Machine.execResetLow s
  | .resetHigh rateHigh => Sys2Proof.Machine.execResetHigh rateHigh s
  | .transmitStart p => Sys2Proof.Machine.execTransmitStart p s
  | .transmitComplete p rateHigh => Sys2Proof.Machine.execTransmitComplete p rateHigh s
  | .lostArbitration p winner => Sys2Proof.Machine.execLostArbitration p winner s
  | .transmissionError p ackUnseen => Sys2Proof.Machine.execTransmissionError p ackUnseen s
  | .receiveError p => Sys2Proof.Machine.execReceiveError p s
  | .busOffRecovery p runs => Sys2Proof.Machine.execBusOffRecovery p runs s
  | .forward p f => Sys2Proof.Machine.execForward p f s
  | .foreignFrame p f => Sys2Proof.Machine.execForeignFrame p f s
  | .stopFrame p ch payload => Sys2Proof.Machine.execStopFrame p ch payload s
  | .operatorCommand a payload => Sys2Proof.Machine.execOperatorCommand a payload s
  | .sensorSample ch payload early => Sys2Proof.Machine.execSensorSample ch payload early s
  | .driverEcho a payload => Sys2Proof.Machine.execDriverEcho a payload s
  | .unknownKind payload => Sys2Proof.Machine.execUnknownKind payload s
  | .select table row check => Sys2Proof.Machine.execSelect table row check s
  | .segment body => Sys2Proof.Machine.execSegment body s
  | .commit => Sys2Proof.Machine.execCommit s
  | .commitCompletion => Sys2Proof.Machine.execCommitCompletion s
  | .read table row view => Sys2Proof.Machine.execRead table row view s
  | .release => Sys2Proof.Machine.execRelease s
  | .hold => Sys2Proof.Machine.execHold s
  | .stopClear => Sys2Proof.Machine.execStopClear s
  | .clearFaults => Sys2Proof.Machine.execClearFaults s
  | .clearLoadErrors => Sys2Proof.Machine.execClearLoadErrors s
  | .discardPending => Sys2Proof.Machine.execDiscardPending s
  | .clearCounters => Sys2Proof.Machine.execClearCounters s
  | .restart => Sys2Proof.Machine.execRestart s
  | .stopQuietTimerExpiry => Sys2Proof.Machine.execStopQuietTimerExpiry s
  | .sensorFreshnessExpiry q => Sys2Proof.Machine.execSensorFreshnessExpiry q s
  | .operatorFreshnessExpiry a => Sys2Proof.Machine.execOperatorFreshnessExpiry a s
  | .rampTimerExpiry a => Sys2Proof.Machine.execRampTimerExpiry a s
  | .echoTimerExpiry a => Sys2Proof.Machine.execEchoTimerExpiry a s
  | .refreshTimerExpiry a => Sys2Proof.Machine.execRefreshTimerExpiry a s
  | .stallTimerExpiry => Sys2Proof.Machine.execStallTimerExpiry s
  | .recoveryTimerExpiry => Sys2Proof.Machine.execRecoveryTimerExpiry s
  | .sequenceTimerExpiry => Sys2Proof.Machine.execSequenceTimerExpiry s
  | .statusTimerExpiry => Sys2Proof.Machine.execStatusTimerExpiry s

end Sys2Proof.Machine
end

