-- ==== Sys2Proof/Machine/Timers.lean ====
section
/-! DEFINITION. The 1 ms timebase (00_scope, "Units and ranges"): which timers have run out, and what one millisecond does. -/

namespace Sys2Proof.Machine

open Sys2Proof

/-- A command, where a timer has run out. -/
def dueEvent (t : Timer) (c : Instr) : List Instr := if t.due then [c] else []

/-- The freshness expiries due, in quantity order. -/
def dueSensors (s : State) : List Instr :=
  allQuantities.flatMap (fun q => dueEvent (s.sensor q).timer (.sensorFreshnessExpiry q))

/-- The expiries due at one axis. -/
def dueAxis (s : State) (a : Axis) : List Instr :=
  dueEvent (s.axis a).freshness (.operatorFreshnessExpiry a) ++ dueEvent (s.axis a).ramp (.rampTimerExpiry a) ++
  dueEvent (s.delivery a).echo (.echoTimerExpiry a) ++ dueEvent (s.delivery a).refresh (.refreshTimerExpiry a)

/-- The expiries due in this millisecond, and the completion of a commit at the end of its 25 ms (log 26). -/
def dueEvents (s : State) : List Instr :=
  dueEvent s.quiet .stopQuietTimerExpiry ++ dueSensors s ++ allAxes.flatMap (dueAxis s) ++
  dueEvent s.stallTimer .stallTimerExpiry ++ dueEvent s.recoveryTimer .recoveryTimerExpiry ++
  dueEvent s.sequenceTimer .sequenceTimerExpiry ++ dueEvent s.statusTimer .statusTimerExpiry ++
  dueEvent (s.flight.map Flight.left) .commitCompletion

/-- A timer one millisecond later. -/
def Timer.tick (t : Timer) : Timer := t.map (fun n => n - 1)

/-- A sample record one millisecond later. -/
def SensorRecord.tick (r : SensorRecord) : SensorRecord := { r with timer := Timer.tick r.timer }
/-- An axis record one millisecond later. -/
def AxisRecord.tick (r : AxisRecord) : AxisRecord :=
  { r with freshness := Timer.tick r.freshness, ramp := Timer.tick r.ramp }
/-- A delivery record one millisecond later. -/
def DeliveryRecord.tick (d : DeliveryRecord) : DeliveryRecord :=
  { d with echo := Timer.tick d.echo, refresh := Timer.tick d.refresh }
/-- A commit in flight one millisecond later. -/
def Flight.tick (f : Flight) : Flight := { f with left := f.left - 1 }

/-- One millisecond of the timebase: the millisecond counter and every running timer. -/
def tick (s : State) : State :=
  { s with
    millis := s.millis + 1
    quiet := Timer.tick s.quiet
    sensors := ⟨s.sensors.payout.tick, s.sensors.head.tick, s.sensors.angle.tick, s.sensors.torque.tick,
      s.sensors.force.tick, s.sensors.rope.tick⟩
    stallTimer := Timer.tick s.stallTimer
    recoveryTimer := Timer.tick s.recoveryTimer
    axes := ⟨s.axes.rotary.tick, s.axes.crowd.tick, s.axes.hoist.tick⟩
    deliveries := ⟨s.deliveries.rotary.tick, s.deliveries.crowd.tick, s.deliveries.hoist.tick⟩
    sequenceTimer := Timer.tick s.sequenceTimer
    flight := s.flight.map Flight.tick
    statusTimer := Timer.tick s.statusTimer }

/-- The expiry taken of those due: the only one, or a free pick among several (log 2). -/
def pickDue (s : State) (first : Instr) (rest : List Instr) : Instr :=
  (first :: rest).getD (Config.freePick s.choices % (rest.length + 1)) first

end Sys2Proof.Machine
end

