-- ==== Sys2Proof/Machine/Step.lean ====
section
/-! DEFINITION. One step: the command at the front of the queue, or, with none waiting, the part's own clock; and
`State.withFetchWord`. -/

namespace Sys2Proof.Machine

open Sys2Proof

/-- A step on an empty queue (log 2): nothing while RESET is low (R1); else the expiry that is due, picked freely among several;
else one millisecond. -/
def idleStep (s : State) : Host.Outcome State Fault Refusal :=
  if s.resetLow then .next s
  else
    match dueEvents s with
    | [] => .next (tick s)
    | [c] => exec c s
    | c :: d :: cs => exec (pickDue s c (d :: cs)) (madeChoices s 1)

/-- One step of the part. -/
def step (s : State) : Host.Outcome State Fault Refusal :=
  match s.pending with
  | [] => idleStep s
  | c :: cs => exec c { s with pending := cs }

/-- The state with the command that a word spells at the front of its queue; no word spells one. -/
def State.withFetchWord (s : State) (nbits w : Nat) : State :=
  match decodeTableWord nbits w with
  | none => s
  | some c => { s with pending := c :: s.pending }

end Sys2Proof.Machine
end

