-- ==== Sys2Proof/Safety.lean ====
section
/-! DEFINITION. What counts as a safe state of the part, in the terms the statements use: the capacities of its lists, the
neutrality of every axis out of service, the agreement of AUTO with the Auto Sequencer, the ranges of registers, joints
within their strokes, and governed values within the operator's or the sequence's demand.  With them, the frames, the small
readings that several statements share, and what the structural checks of a commit refuse. -/

namespace Sys2Proof.Machine

open Sys2Proof

/-- Every list of the part is within its capacity: each forwarding queue 32 frames (R10), the report queue 16 (R175), the load
buffer 16 rows with those taken among them (R166, R167), the status slot 3 pages (R176), and the reply slot 5 frames, one of
them kept free for a commit in flight (R164). -/
structure WithinCapacity (s : State) : Prop where
  queues  : ∀ p, (s.port p).queue.length ≤ 32
  reports : s.reports.length ≤ 16
  buffer  : s.buffer.length ≤ 16
  pages   : s.statusSlot.length ≤ 3
  replies : s.replies.length + (if s.flight.isSome then 1 else 0) ≤ 5
  taken   : ∀ f, s.flight = some f → f.taken ≤ s.buffer.length

/-- The axis gives its drive no demand of its own: NEUTRAL or FAULT. -/
def AxisState.outOfService (x : AxisState) : Prop := x = .neutral ∨ x = .fault

/-- Every drive out of service is at neutral: an axis in NEUTRAL or FAULT holds G = 0 (R128, R130, R135), and outside GOVERN
every axis is in NEUTRAL or FAULT, no sequence runs, and no pending governed command carries anything but 0 and NEUTRAL
(R25, R26). -/
structure NeutralOutOfService (s : State) : Prop where
  governed   : ∀ a, (s.axis a).state.outOfService → (s.axis a).governed = 0
  axes       : s.governor ≠ .govern → ∀ a, (s.axis a).state.outOfService
  sequencer  : s.governor ≠ .govern → s.sequencer = .idle
  deliveries : s.governor ≠ .govern → ∀ a, (s.delivery a).state ≠ .idle →
    (s.delivery a).value = 0 ∧ (s.delivery a).mode = .neutral

/-- ROTARY is in AUTO exactly while a sequence runs, and CROWD and HOIST never are (R121, R153). -/
structure AutoOnlyInSequence (s : State) : Prop where
  rotary : s.axes.rotary.state = .auto ↔ s.sequencer ≠ .idle
  crowd  : s.axes.crowd.state ≠ .auto
  hoist  : s.axes.hoist.state ≠ .auto

/-- Registers within the ranges their fields give: key travel -3600 to 3600 (R73), the stored demands -1000 to 1000 (R121), the
sequence numbers 0 to 15 and the miss streaks 0 to 255 (R139), the receive error counts 0 to 255 (R14), the lost counts of
the fault records 0 to 255 (R177), and the backoff factor 0 to 1000 (R114).  A rig profile row 6 that is present has a backoff
floor from 100 to its backoff level and a level of at most 900 (R100, R168), and a valid rig profile has that row, and the
backoff factor at its floor or above (R114, R116). -/
structure RegistersInRange (s : State) : Prop where
  keyTravel  : -3600 ≤ s.keyTravel ∧ s.keyTravel ≤ 3600
  demand     : ∀ a d, (s.axis a).demand = some d → -1000 ≤ d ∧ d ≤ 1000
  sequence   : ∀ a, (s.delivery a).sequence ≤ 15
  missStreak : ∀ a, (s.delivery a).missStreak ≤ 255
  rxErrors   : ∀ p, (s.port p).rxErrors ≤ 255
  machine    : ∀ r, s.machineFault = some r → r.lost ≤ 255
  bar        : ∀ r, s.barFault = some r → r.lost ≤ 255
  backoff    : 0 ≤ s.backoff ∧ s.backoff ≤ 1000
  backoffRow : s.tables.rig.present 6 = true → 100 ≤ Rig.backoffFloor s.tables.rig ∧
    Rig.backoffFloor s.tables.rig ≤ Rig.backoffLevel s.tables.rig ∧ Rig.backoffLevel s.tables.rig ≤ 900
  inForce    : s.tables.rig.valid = true → s.tables.rig.present 6 = true ∧ Rig.backoffFloor s.tables.rig ≤ s.backoff

/-- The bar in force is consistent and every joint lies within its stroke: there is one joint record for each joint in use of a
valid bar profile (R69); the offsets sum to the extension in force and each lies from 0 to the stroke (R65); each nearest row
is a row of the joint (R54, R55); a LOCKED joint stands at its locked row, and no other joint has one (R72, R78); every row
window lies within its stroke (R51), every joint row in use is present, and every joint row present has at least one row
(R50). -/
structure JointsWithinStroke (s : State) : Prop where
  count   : s.joints.length = if s.tables.bar.valid then (Bar.joints s.tables.bar).length else 0
  sum     : s.tables.bar.valid = true → s.extension = (s.joints.map Joint.offset).sum
  offset  : ∀ p ∈ numbered s.joints, 0 ≤ p.2.offset ∧ p.2.offset ≤ Bar.stroke s.tables.bar p.1
  nearest : ∀ p ∈ numbered s.joints, p.2.nearest < Bar.rows s.tables.bar p.1
  locked  : ∀ p ∈ numbered s.joints, p.2.lock = .locked → ∃ k, p.2.lockedRow = some k ∧ k < Bar.rows s.tables.bar p.1 ∧
    p.2.offset = rowPosition s.tables p.1 k
  noRow   : ∀ p ∈ numbered s.joints, p.2.lock ≠ .locked → p.2.lockedRow = none
  windows : s.tables.bar.valid = true → ∀ j ∈ Bar.joints s.tables.bar, rowsInStroke s.tables j = true
  present : s.tables.bar.valid = true → ∀ j ∈ Bar.joints s.tables.bar, s.tables.bar.present j = true
  rows    : ∀ j, 1 ≤ j → s.tables.bar.present j = true → 1 ≤ Bar.rows s.tables.bar j

/-- Outside an automatic sequence a governed value is never larger in magnitude than the stored demand, and never of the
opposite sign (R135). -/
def WithinOperatorDemand (s : State) : Prop :=
  ∀ a, (s.axis a).state = .active ∨ (s.axis a).state = .rampdown →
    ∃ d, (s.axis a).demand = some d ∧ |(s.axis a).governed| ≤ |d| ∧ 0 ≤ (s.axis a).governed * d

/-- While a sequence runs CROWD and HOIST hold 0, and the governed value of ROTARY is never larger in magnitude than the creep
demand of the sequence, nor of the opposite sign (R135, R157). -/
structure WithinSequenceDemand (s : State) : Prop where
  others    : s.sequencer ≠ .idle → s.axes.crowd.governed = 0 ∧ s.axes.hoist.governed = 0
  locking   : s.sequencer = .locking → 0 ≤ s.axes.rotary.governed ∧ s.axes.rotary.governed ≤ Bar.lockCreep s.tables.bar
  releasing : s.sequencer = .releasing →
    - Bar.releaseCreep s.tables.bar ≤ s.axes.rotary.governed ∧ s.axes.rotary.governed ≤ 0

/-! ## Frames: what a change from `s` to `t` leaves alone -/

/-- The report queue only grew, and stayed within its capacity (R175). -/
structure ReportsGrow (s t : State) : Prop where
  grows : s.reports <+: t.reports
  bound : s.reports.length ≤ 16 → t.reports.length ≤ 16

/-- Everything outside the drive and tracking blocks is unchanged: ports, governor, tables, Load Unit and status pages.  The
report queue may only have grown. -/
structure Kept (s t : State) : Prop extends ReportsGrow s t where
  pending : t.pending = s.pending
  resetLow : t.resetLow = s.resetLow
  bitRate : t.bitRate = s.bitRate
  millis : t.millis = s.millis
  ports : t.ports = s.ports
  channel : t.channel = s.channel
  governor : t.governor = s.governor
  quiet : t.quiet = s.quiet
  earlierMap : t.earlierMap = s.earlierMap
  tables : t.tables = s.tables
  selection : t.selection = s.selection
  loadFlags : t.loadFlags = s.loadFlags
  buffer : t.buffer = s.buffer
  flight : t.flight = s.flight
  replies : t.replies = s.replies
  restarting : t.restarting = s.restarting
  statusSlot : t.statusSlot = s.statusSlot
  statusTimer : t.statusTimer = s.statusTimer

/-- Beside that, sensors, geometry, band, backoff, fault records and free choices are unchanged. -/
structure SameTracking (s t : State) : Prop extends Kept s t where
  sensors : t.sensors = s.sensors
  joints : t.joints = s.joints
  extension : t.extension = s.extension
  mismatch : t.mismatch = s.mismatch
  depthHeld : t.depthHeld = s.depthHeld
  keyTravel : t.keyTravel = s.keyTravel
  angleRef : t.angleRef = s.angleRef
  band : t.band = s.band
  backoff : t.backoff = s.backoff
  stallTimer : t.stallTimer = s.stallTimer
  recoveryTimer : t.recoveryTimer = s.recoveryTimer
  machineFault : t.machineFault = s.machineFault
  barFault : t.barFault = s.barFault
  choices : t.choices = s.choices

/-- Beside that, the Auto Sequencer is unchanged: only axes, deliveries, reports and counters may differ. -/
structure SameSequence (s t : State) : Prop extends SameTracking s t where
  sequencer : t.sequencer = s.sequencer
  sequenceTimer : t.sequenceTimer = s.sequenceTimer
  aborts : t.aborts = s.aborts

/-- No counter changed but those of governed commands superseded (R141) and of reports lost (R175). -/
structure SameCounts (s t : State) : Prop where
  port     : t.counters.port = s.counters.port
  axis     : t.counters.axis = s.counters.axis
  quantity : t.counters.quantity = s.counters.quantity
  delivery : ∀ a, t.counters.delivery.get a =
    { s.counters.delivery.get a with superseded := (t.counters.delivery.get a).superseded }
  part     : t.counters.part = { s.counters.part with reportsLost := t.counters.part.reportsLost }

/-! ## Readings that several statements share -/

/-- A frame has been received at port `p` without error: its receive error count falls by 1, not below 0, and falls to 120 from
above 127 (R14). -/
def heard (s : State) (p : Port) : State :=
  s.setPort p { s.port p with rxErrors := if 127 < (s.port p).rxErrors then 120 else (s.port p).rxErrors - 1 }

/-- An operator command that passes its checks has been received and counted at its axis (R122, R123, R124). -/
def countedCommand (s : State) (a : Axis) (payload : List Byte) : State :=
  let alive := u8At payload 2 % 16
  let c := clamp (-1000) 1000 (s16At payload 0)
  (heard s .operator).countAxis a (fun k => { k with
    accepted := bump k.accepted
    gaps := if ∃ l, (s.axis a).lastAlive = some l ∧ alive ≠ (l + 1) % 16 then bump k.gaps else k.gaps
    clamped := if c ≠ s16At payload 0 then bump k.clamped else k.clamped
    notCentred := if (s.axis a).state = .neutral ∧ demandAfterDeadband s payload ≠ 0 then bump k.notCentred
      else k.notCentred })

/-- The record of an axis whose governor has accepted an operator command (R122, R123). -/
def AxisRecord.commanded (r : AxisRecord) (s : State) (a : Axis) (payload : List Byte) : AxisRecord :=
  { r with
    lastAlive := some (u8At payload 2 % 16), demand := some (demandAfterDeadband s payload)
    freshness := if s.tables.rig.valid then some (Rig.operatorFreshness s.tables.rig a) else r.freshness }

/-- A SENSOR SAMPLE has been received at the machine port and its copy forwarded, or dropped at a full queue (R6, R10, R11).
Where the drop is reported, the order of the two deliveries was a free choice (log 10). -/
def copied (s : State) (f : Frame) : State :=
  let u := heard s .machine
  let r := s.port .operator
  if r.queue.length < 32 then
    (u.setPort .operator { r with queue := r.queue ++ [f] }).countPort .machine
      (fun c => { c with forwarded := bump c.forwarded })
  else
    let v := u.countPort .machine (fun c => { c with drops := bump c.drops })
    if r.dropMark then v
    else { report (v.setPort .operator { r with dropMark := true }) .forwardDrop 1 r.queue.length with
      choices := s.choices + 1 }

/-- A SENSOR SAMPLE of quantity `q` has been received on a channel and accepted: its copy is on its way, it is counted, and its
record is FRESH with the sample's values and its freshness timer loaded (R6, R39).  Nothing has been handed on yet. -/
def accepted (s : State) (ch : Channel) (payload : List Byte) (q : Quantity) : State :=
  let alive := u8At payload 6 % 16
  ((copied s ⟨false, false, 4 * 128 + ch.toNat, 8, payload⟩).countQuantity q (fun c => { c with
    accepted := bump c.accepted
    gaps := if ∃ l, (s.sensor q).lastAlive = some l ∧ alive ≠ (l + 1) % 16 then bump c.gaps else c.gaps
    degraded := if sampleStatus payload = .degraded then bump c.degraded else c.degraded })).setSensor q
    { state := .fresh, value := some (s32At payload 0)
      secondary := if q = .angle then some (s16At payload 4) else (s.sensor q).secondary
      lastAlive := some alive, stamp := some s.millis, timer := some (Rig.freshness s.tables.rig q) }

/-- What one evaluation of axis `a`, with values computed in state `u`, leaves of its record and of its delivery record: G, the
limit cause and the time of evaluation, and the frame that the hand-off makes, if any (R135, R140). -/
def EvaluatedIn (u s t : State) (a : Axis) : Prop :=
  t.axis a = { s.axis a with
    governed := (evaluated u a).1, cause := (evaluated u a).2, lastEval := some s.millis } ∧
  t.delivery a = (produce s a (evaluated u a).1 (s.axis a).state.mode false).delivery a

/-- ROTARY has been handed back with stored demand 0: into ACTIVE at 0, or into NEUTRAL with STALE where its operator is stale
(R129).  That NEUTRAL too stores the demand is the model's reading (log 30). -/
structure HandedBackAtZero (s t : State) : Prop where
  active  : s.axes.rotary.freshness.isSome = true → t.axes.rotary = { s.axes.rotary with
    state := .active, demand := some 0, governed := 0, cause := .none, lastEval := some s.millis }
  neutral : s.axes.rotary.freshness = none → t.axes.rotary = { s.axes.rotary with
    state := .neutral, demand := some 0, governed := 0, ramp := none, exits := addExit s.axes.rotary.exits .stale }
  sent    : t.delivery .rotary =
    (produce s .rotary 0 (if s.axes.rotary.freshness.isSome then .active else .neutral) false).delivery .rotary

/-- The axis is in service: ACTIVE, RAMPDOWN or AUTO. -/
def AxisState.inService (x : AxisState) : Prop := x = .active ∨ x = .rampdown ∨ x = .auto

/-- A delivery record that a new frame of a value and mode enters: the next sequence number, QUEUED, retry count 0, and no
echo window running (R140, R141). -/
def DeliveryRecord.renewed (d : DeliveryRecord) (value : Int) (mode : Mode) : DeliveryRecord :=
  { d with state := .queued, sequence := (d.sequence + 1) % 16, value := value, mode := mode, retry := 0, echo := none }

/-- The record after a hand-off of a value and mode in GOVERN, the machine port not in BUS_OFF: a new frame where either
differs from the latest (R140). -/
def DeliveryRecord.handed (d : DeliveryRecord) (value : Int) (mode : Mode) : DeliveryRecord :=
  if d.value = value ∧ d.mode = mode then d else d.renewed value mode

/-- What an entry of axis `a` into FAULT for a cause makes of an axis record, a delivery record and the sequencer: the axis in
FAULT at 0 with the cause, 0 and NEUTRAL handed over, AXIS_FAULT raised, and a sequence that held the axis in AUTO aborted
with FAULT (R126, R130, R160); an axis in FAULT already takes the cause alone. -/
structure EnteredFault (s t : State) (a : Axis) (exit : ExitCause) : Prop where
  entered   : (s.axis a).state ≠ .fault → t.axis a =
    { s.axis a with state := .fault, governed := 0, ramp := none, exits := addExit (s.axis a).exits exit }
  already   : (s.axis a).state = .fault → t.axis a = { s.axis a with exits := addExit (s.axis a).exits exit }
  handed    : (s.axis a).state ≠ .fault → isBusOff s .machine = false → t.delivery a = (s.delivery a).handed 0 .neutral
  notHanded : (s.axis a).state = .fault ∨ isBusOff s .machine = true → t.delivery a = s.delivery a
  others    : ∀ b, b ≠ a → t.axis b = s.axis b ∧ t.delivery b = s.delivery b
  raised    : (s.axis a).state ≠ .fault ∨ hasExit (s.axis a).exits exit = false →
    reportsAfter s .axisFault a.code exit.bit <+: t.reports
  aborted   : (s.axis a).state = .auto → s.sequencer ≠ .idle →
    t.sequencer = .idle ∧ t.sequenceTimer = none ∧ t.aborts = addAbort s.aborts .fault
  kept      : (s.axis a).state ≠ .auto ∨ s.sequencer = .idle →
    t.sequencer = s.sequencer ∧ t.sequenceTimer = s.sequenceTimer ∧ t.aborts = s.aborts

/-- What an entry into HOLD or STOPPED leaves of axes, sequencer and deliveries (R25, R26, R149, R160): every axis in service in
NEUTRAL with the cause, no sequence running, and no pending governed command but one of 0 and NEUTRAL.  A neutral frame is
made where the latest frame is not neutral already, and either is pending or its axis was in service with the machine port
not in BUS_OFF. -/
structure LeftService (s t : State) (exit : ExitCause) (abort : AbortCause) : Prop where
  inService    : ∀ a, (s.axis a).state.inService → t.axis a =
    { s.axis a with state := .neutral, governed := 0, ramp := none, exits := addExit (s.axis a).exits exit }
  outOfService : ∀ a, (s.axis a).state.outOfService → t.axis a = s.axis a
  idle         : t.sequencer = .idle
  aborted      : s.sequencer ≠ .idle → t.sequenceTimer = none ∧ t.aborts = addAbort s.aborts abort
  notAborted   : s.sequencer = .idle → t.sequenceTimer = s.sequenceTimer ∧ t.aborts = s.aborts
  neutralFrame : ∀ a, ((s.delivery a).value ≠ 0 ∨ (s.delivery a).mode ≠ .neutral) →
    ((s.delivery a).state ≠ .idle ∨ ((s.axis a).state.inService ∧ isBusOff s .machine = false)) →
    t.delivery a = (s.delivery a).renewed 0 .neutral
  keptNeutral  : ∀ a, (s.delivery a).value = 0 → (s.delivery a).mode = .neutral → t.delivery a = s.delivery a
  keptIdle     : ∀ a, (s.delivery a).state = .idle → ((s.axis a).state.outOfService ∨ isBusOff s .machine = true) →
    t.delivery a = s.delivery a

/-- A management frame would be served: the operator port takes part in its bus and the reply slot is empty (R2, R163). -/
def servesManagement (s : State) : Prop := takesPart s .operator = true ∧ s.replies = []

/-! ## The structural checks of a commit -/

/-- Joint `j` is in use: one of the joints 1 to S-1 of the bar profile (R49). -/
def JointUsed (ts : Tables) (j : Nat) : Prop := 1 ≤ j ∧ j ≤ 4 ∧ j < Bar.sections ts.bar

/-- Row `k` of joint `j` stands at `v` mm: an entry of the pocket table in LISTED mode, else the first row offset and `k` times
the pitch (R51). -/
def RowStandsAt (ts : Tables) (j k : Nat) (v : Int) : Prop :=
  v = if Bar.mode ts.bar j = 1 then Pocket.offset ts.pocket (Bar.startIndex ts.bar j + k)
    else Bar.firstRow ts.bar j + k * Bar.pitch ts.bar j

/-- The row window of joint `j` is inconsistent (R51): a LISTED window beyond entry 31, a UNIFORM pitch of twice the row
tolerance or less, a row no more than that beyond the one before, or a row out of the stroke. -/
def WindowBroken (ts : Tables) (j : Nat) : Prop :=
  let twice := 2 * Bar.rowTolerance ts.bar
  (Bar.mode ts.bar j = 1 ∧ 32 < Bar.startIndex ts.bar j + Bar.rows ts.bar j) ∨
  (Bar.mode ts.bar j ≠ 1 ∧ Bar.pitch ts.bar j ≤ twice) ∨
  (∃ k v w, k + 1 < Bar.rows ts.bar j ∧ RowStandsAt ts j k v ∧ RowStandsAt ts j (k + 1) w ∧ w ≤ v + twice) ∨
  (∃ k v, k < Bar.rows ts.bar j ∧ RowStandsAt ts j k v ∧ (v < 0 ∨ Bar.stroke ts.bar j < v))

/-- Row `r` of table `t` is needed by the tables touched and would not be present (R49 to R51, R89, R168; log 17). -/
def RowMissing (touched : Nat → Bool) (ts : Tables) (t r : Nat) : Prop :=
  (ts.get t).present r = false ∧
  ((t = 1 ∧ touched 1 = true ∧ r < 10) ∨
  (t = 2 ∧ touched 2 = true ∧ (r = 0 ∨ JointUsed ts r)) ∨
  (t = 3 ∧ (touched 3 = true ∨ (touched 2 = true ∧ ∃ j, JointUsed ts j ∧ Bar.mode ts.bar j = 1)) ∧ r < 8) ∨
  (t = 4 ∧ touched 4 = true ∧ r ≤ 24 ∧ r ≤ Bore.count ts.bore))

/-- Row `r` of table `t`, a table touched, breaks a condition of R168: in the rig profile two quantities on one channel (R33) or
a code out of its set (R92); in the bar profile a section count or a mode out of its set (R49, R50) or an inconsistent window
(R51); in the bore plan a band count or a code out of its set (R89, R90), or a top not above its bottom (R91).  Row 255 stands
for a window that a pocket table commit alone breaks, and for a band that starts above the bottom of the band before it. -/
def RowUnsound (touched : Nat → Bool) (ts : Tables) (t r : Nat) : Prop :=
  (t = 1 ∧ touched 1 = true ∧
    ((r = 1 ∧ ∃ i j, i < j ∧ j < 6 ∧ u8At (ts.rig.row 1) i = u8At (ts.rig.row 1) j) ∨
    (r = 7 ∧ 1 < u8At (ts.rig.row 7) 8) ∨ (r = 9 ∧ 3 < u8At (ts.rig.row 9) 0))) ∨
  (t = 2 ∧ touched 2 = true ∧
    ((r = 0 ∧ (Bar.sections ts.bar < 2 ∨ 5 < Bar.sections ts.bar)) ∨
    (1 ≤ r ∧ r ≤ 4 ∧ ts.bar.present r = true ∧ 1 < Bar.mode ts.bar r) ∨ (JointUsed ts r ∧ WindowBroken ts r))) ∨
  (t = 3 ∧ r = 255 ∧ touched 3 = true ∧ touched 2 = false ∧ ts.bar.valid = true ∧
    ∃ j, JointUsed ts j ∧ WindowBroken ts j) ∨
  (t = 4 ∧ touched 4 = true ∧
    ((r = 0 ∧ 24 < Bore.count ts.bore) ∨
    (1 ≤ r ∧ r ≤ 24 ∧ ts.bore.present r = true ∧ (3 < u8At (ts.bore.row r) 6 ∨ 1 < u8At (ts.bore.row r) 15)) ∨
    (1 ≤ r ∧ r ≤ 24 ∧ r ≤ Bore.count ts.bore ∧ Bore.bottom ts.bore (r - 1) ≤ Bore.top ts.bore (r - 1)) ∨
    (r = 255 ∧ ∃ i, i + 1 < Bore.count ts.bore ∧ Bore.top ts.bore (i + 1) < Bore.bottom ts.bore i)))

/-- The first place, by table and then by row, of which `P` holds. -/
def FirstPlace (P : Nat → Nat → Prop) (t r : Nat) : Prop := P t r ∧ ∀ t' r', P t' r' → t < t' ∨ (t = t' ∧ r ≤ r')

end Sys2Proof.Machine
end

