-- ==== Sys2Proof/Certificates/Slice0/Obligations.lean ====
section
/-! DEFINITION. The statements about the SB7420.  Each docstring names the rules it rests on; OBLIGATIONS.json lists them. -/

section Statements

open Sys2Proof Sys2Proof.Machine

/-! ## The step -/

/-- A step takes the command at the front of the queue and runs it with the queue's rest. -/
def Obligations.StepRunsTheFrontCommand : Prop :=
  ∀ (s : State) (c : Instr) (cs : List Instr), s.pending = c :: cs → step s = exec c { s with pending := cs }

/-- The model's choice (log 2): with no command waiting, nothing happens while RESET is low; otherwise an expiry that is due is
taken, and with none due one millisecond passes.  A millisecond raises the 16-bit counter by 1, modulo 65536, and lowers every
running timer, and the window of a commit in flight, by 1; an expiry is due where its timer runs with 0 ms left, and the
completion of a commit where its window has 0 ms left (log 3, log 26). -/
def Obligations.IdleStepIsTheTimebase : Prop :=
  ∀ s : State, s.pending = [] →
    let less (t : Timer) : Timer := t.map (fun n => n - 1)
    (s.resetLow = true → step s = .next s) ∧
    (s.resetLow = false → dueEvents s = [] → ∃ t, step s = .next t ∧
      t = { s with
        millis := s.millis + 1
        quiet := less s.quiet, stallTimer := less s.stallTimer, recoveryTimer := less s.recoveryTimer
        sequenceTimer := less s.sequenceTimer, statusTimer := less s.statusTimer
        flight := s.flight.map (fun f => { f with left := f.left - 1 })
        sensors := t.sensors, axes := t.axes, deliveries := t.deliveries } ∧
      t.millis.toNat = (s.millis.toNat + 1) % 65536 ∧
      (∀ q, t.sensor q = { s.sensor q with timer := less (s.sensor q).timer }) ∧
      (∀ a, t.axis a = { s.axis a with freshness := less (s.axis a).freshness, ramp := less (s.axis a).ramp }) ∧
      (∀ a, t.delivery a =
        { s.delivery a with echo := less (s.delivery a).echo, refresh := less (s.delivery a).refresh })) ∧
    (∀ c, s.resetLow = false → dueEvents s = [c] → step s = exec c s) ∧
    (s.resetLow = false → 2 ≤ (dueEvents s).length →
      ∃ c ∈ dueEvents s, step s = exec c { s with choices := s.choices + 1 }) ∧
    (∀ c, c ∈ dueEvents s ↔
      (c = .stopQuietTimerExpiry ∧ s.quiet = some 0) ∨
      (∃ q, c = .sensorFreshnessExpiry q ∧ (s.sensor q).timer = some 0) ∨
      (∃ a, c = .operatorFreshnessExpiry a ∧ (s.axis a).freshness = some 0) ∨
      (∃ a, c = .rampTimerExpiry a ∧ (s.axis a).ramp = some 0) ∨
      (∃ a, c = .echoTimerExpiry a ∧ (s.delivery a).echo = some 0) ∨
      (∃ a, c = .refreshTimerExpiry a ∧ (s.delivery a).refresh = some 0) ∨
      (c = .stallTimerExpiry ∧ s.stallTimer = some 0) ∨ (c = .recoveryTimerExpiry ∧ s.recoveryTimer = some 0) ∨
      (c = .sequenceTimerExpiry ∧ s.sequenceTimer = some 0) ∨ (c = .statusTimerExpiry ∧ s.statusTimer = some 0) ∨
      (c = .commitCompletion ∧ ∃ f, s.flight = some f ∧ f.left = 0))

/-- A command acts on everything but the queue of waiting commands. -/
def Obligations.CommandsKeepTheQueue : Prop :=
  ∀ (c : Instr) (s t : State), exec c s = .next t → t.pending = s.pending

/-! ## Resets -/

/-- POWER_ON_RESET leaves every field at the value of R19, R20, R48, R71, R88, R99, R120, R138, R152, R153, R172 and R179, and
the report of R21.  That the waiting commands, the level on RESET and the count of free choices are kept, and that the report
waits while RESET is low, is the model's choice (log 6, log 34). -/
def Obligations.PowerOnResetGivesEveryValue : Prop :=
  ∀ (rateHigh : Bool) (s : State),
    let port : PortRecord := ⟨0, 0, 0, none, [], false, none⟩
    let sensor : SensorRecord := ⟨.absent, none, none, none, none, none⟩
    let axis : AxisRecord := ⟨.neutral, none, none, 0, .none, none, 0, none, none⟩
    let delivery : DeliveryRecord := ⟨.idle, 0, 0, .neutral, 0, 0, 0, none, none, none⟩
    let empty (n : Nat) : Table := ⟨false, List.replicate n none⟩
    exec (.powerOnReset rateHigh) s = .next
      { pending := s.pending, resetLow := s.resetLow, choices := s.choices
        bitRate := if rateHigh then .kbit500 else .kbit250
        millis := 0, ports := ⟨port, port⟩, channel := 127, governor := .hold, quiet := none
        sensors := ⟨sensor, sensor, sensor, sensor, sensor, sensor⟩, earlierMap := none
        joints := [], extension := 0, mismatch := false, depthHeld := none, keyTravel := 0, angleRef := none
        band := none, backoff := 1000, stallTimer := none, recoveryTimer := none
        axes := ⟨axis, axis, axis⟩, deliveries := ⟨delivery, delivery, delivery⟩
        sequencer := .idle, sequenceTimer := none, aborts := 0
        tables := ⟨empty 10, empty 5, empty 8, empty 25⟩
        selection := none, loadFlags := 0, buffer := [], flight := none, replies := [], restarting := false
        reports := if s.resetLow then [] else [⟨false, false, 7 * 128 + 127, 6, [1, 0, 5, 0, 0, 0]⟩]
        statusSlot := [], statusTimer := none, machineFault := none, barFault := none, counters := Counters.zero }

/-- RESET_LOW gives every block the values it takes after a warm reset (R1): the values of a power-on reset, but for the tables
with their channel and validity marks (R163, R172), the joint records with offsets kept and locks UNKNOWN and the extension
in force (R71, R88), and both fault records (R177).  RESET_HIGH ends the warm reset: RATE is sampled (R1), the refresh timers
and the status timer are loaded where a rig profile is valid (R147, R176), and GOVERNOR_STATE with subject HOLD and detail
RESET is handed over (R21).  The warm reset of RESTART takes effect when its reply has been sent (R20), and leaves what a pulse
on RESET leaves (R1).  Two things are the model's choice: the waiting commands and the count of free choices are kept
(log 34), and RESET_HIGH with RESET high already changes nothing (log 7). -/
def Obligations.ResetPulseIsAWarmReset : Prop :=
  (∀ s : State, exec .resetLow s = .next
    { State.reset with
      pending := s.pending, resetLow := true, bitRate := s.bitRate, choices := s.choices
      channel := if s.tables.rig.valid then BitVec.ofNat 7 (u8At (s.tables.rig.row 0) 0) else 127
      tables := s.tables
      joints := (numbered s.joints).map (fun p =>
        { offset := p.2.offset, lock := .unknown, lockedRow := none,
          nearest := nearestRow s.tables p.1 p.2.offset, aligned := isAligned s.tables p.1 p.2.offset })
      extension := s.extension
      reports := []
      machineFault := s.machineFault
      barFault := s.barFault }) ∧
  (∀ (rateHigh : Bool) (s : State),
    let rate : BitRate := if rateHigh then .kbit500 else .kbit250
    let period := Rig.refreshPeriod s.tables.rig
    let status := Rig.statusPeriod s.tables.rig
    (s.resetLow = true → s.tables.rig.valid = true → exec (.resetHigh rateHigh) s = .next
      (report { s with
        resetLow := false
        bitRate := rate
        deliveries := ⟨{ s.deliveries.rotary with refresh := some period },
          { s.deliveries.crowd with refresh := some period }, { s.deliveries.hoist with refresh := some period }⟩
        statusTimer := if status = 0 then none else some status } .governorState 0 5)) ∧
    (s.resetLow = true → s.tables.rig.valid = false → exec (.resetHigh rateHigh) s = .next
      (report { s with resetLow := false, bitRate := rate } .governorState 0 5)) ∧
    (s.resetLow = false → exec (.resetHigh rateHigh) s = .next s)) ∧
  (∀ (s : State) (rateHigh : Bool) (x : Transmission), s.resetLow = false → s.restarting = true →
    (s.port .operator).sending = some x → x.source = .reply →
    ∃ low high, exec .resetLow s = .next low ∧ exec (.resetHigh rateHigh) low = .next high ∧
      exec (.transmitComplete .operator rateHigh) s = .next high)

/-! ## Transmission -/

/-- The candidates of a port are the STOP in its relay slot and the head of its forwarding queue, at the machine port the governed
command of each QUEUED delivery, and at the operator port the head of the report queue, of the reply slot and of the status
slot (R9, R10, R12, R142, R164, R175, R176).  TRANSMIT_START at a free port takes the candidate of lowest identifier, an own
frame before the head of the forwarding queue (R12, R13), and changes nothing else; that an 11-bit and a 29-bit identifier are compared as numbers is the model's
reading (log 13).  LOST_ARBITRATION stops the transmission and leaves the candidate in place; the winning frame, if it ends
without error, is received like any other (R13; log 9). -/
def Obligations.TransmissionsStartAndLoseArbitration : Prop :=
  (∀ (s : State) (p : Port) (x : Transmission),
    let own :=
      (∃ f, (s.port p).stopSlot = some f ∧ x = ⟨f, .stop⟩) ∨
      (p = .machine ∧ ∃ a, (s.delivery a).state = .queued ∧
        x = ⟨governedCommand a (s.delivery a), .governed a (s.delivery a).sequence⟩) ∨
      (p = .operator ∧
        ((∃ f rest, s.reports = f :: rest ∧ x = ⟨f, .report⟩) ∨ (∃ f rest, s.replies = f :: rest ∧ x = ⟨f, .reply⟩) ∨
        (∃ f rest, s.statusSlot = f :: rest ∧ x = ⟨f, .status⟩)))
    (x ∈ ownCandidates s p ↔ own) ∧
    (x ∈ candidates s p ↔ own ∨ ∃ f rest, (s.port p).queue = f :: rest ∧ x = ⟨f, .forwarded⟩)) ∧
  (∀ (s : State) (p : Port), takesPart s p = true → (s.port p).sending = none →
    ∃ best : Option Transmission,
      exec (.transmitStart p) s = .next (s.setPort p { s.port p with sending := best }) ∧
      (best = none → candidates s p = []) ∧
      ∀ b, best = some b → b ∈ candidates s p ∧ (∀ c ∈ candidates s p, b.frame.id ≤ c.frame.id) ∧
        (b.source = .forwarded → ∀ c ∈ ownCandidates s p, c.frame.id ≠ b.frame.id)) ∧
  (∀ (s : State) (p : Port) (x : Transmission), (s.port p).sending = some x →
    let u := s.setPort p { s.port p with sending := none }
    exec (.lostArbitration p none) s = .next u ∧
    ∀ f, ∃ t, exec (.lostArbitration p (some f)) s = .next t ∧ exec (.forward p f) u = .next t)

/-- TRANSMIT_COMPLETE lowers the transmit error count by 1, not below 0 (R14), and the frame sent leaves its slot or queue
(R13); a frame that leaves a forwarding queue clears its drop-reported mark (R11), and a status page of a set replaced
meanwhile removes nothing (R176; log 27).  A governed command sent loads the refresh timer; a QUEUED delivery of the sequence
sent goes to AWAIT, its candidate leaves the machine port and its echo timer runs; any other record and its candidate stay
(R142). -/
def Obligations.TransmitCompleteEmptiesTheSource : Prop :=
  ∀ (s : State) (p : Port) (rateHigh : Bool) (x : Transmission), (s.port p).sending = some x →
    let r : PortRecord := { s.port p with txErrors := (s.port p).txErrors - 1, sending := none }
    match x.source with
    | .stop => exec (.transmitComplete p rateHigh) s = .next (s.setPort p { r with stopSlot := none })
    | .forwarded => exec (.transmitComplete p rateHigh) s =
        .next (s.setPort p { r with queue := (s.port p).queue.tail, dropMark := false })
    | .report => exec (.transmitComplete p rateHigh) s = .next { s.setPort p r with reports := s.reports.tail }
    | .status => exec (.transmitComplete p rateHigh) s = .next { s.setPort p r with statusSlot := s.statusSlot.tail }
    | .replaced => exec (.transmitComplete p rateHigh) s = .next (s.setPort p r)
    | .reply => s.restarting = false →
        exec (.transmitComplete p rateHigh) s = .next { s.setPort p r with replies := s.replies.tail }
    | .governed a n =>
        let d := s.delivery a
        let sent : DeliveryRecord := { d with refresh := some (Rig.refreshPeriod s.tables.rig) }
        let latest := d.state = .queued ∧ d.sequence = n
        ∃ t, exec (.transmitComplete p rateHigh) s = .next t ∧
          (latest → governedCandidate t a = [] ∧ t = (s.setPort p r).setDelivery a
            { sent with state := .await, echo := some (Rig.echoWindow s.tables.rig) }) ∧
          (¬latest → governedCandidate t a = governedCandidate s a ∧ t = (s.setPort p r).setDelivery a sent)

/-- The error counts of R14: an error while transmitting adds 8, an acknowledgement error of an error-passive port that saw no
dominant bit adds nothing, and an error while receiving adds 1, stopping at 255.  An error while transmitting ends the
transmission and leaves the candidate (R13); an error while receiving leaves a transmission in progress as it is, which the
sender need not exclude (the model's choice, log 32).  A count above 255 puts the operator port into BUS_OFF (R16): entries
counter, BUS_STATE, and the BUS_OFF fault. -/
def Obligations.ErrorsRaiseTheCounts : Prop :=
  ∀ (s : State) (p : Port) (x : Transmission) (unseen : Bool),
    ((s.port p).sending = some x →
      (unseen = true → (s.port p).status ≠ .errorPassive) → (s.port p).txErrors + 8 ≤ 255 →
      exec (.transmissionError p unseen) s =
        .next (s.setPort p { s.port p with txErrors := (s.port p).txErrors + 8, sending := none })) ∧
    ((s.port p).sending = some x → (s.port p).status = .errorPassive →
      exec (.transmissionError p true) s = .next (s.setPort p { s.port p with sending := none })) ∧
    ((s.port .operator).sending = some x → (unseen = true → (s.port .operator).status ≠ .errorPassive) →
      255 < (s.port .operator).txErrors + 8 →
      let r : PortRecord :=
        { s.port .operator with txErrors := (s.port .operator).txErrors + 8, sending := none, recovery := 0 }
      exec (.transmissionError .operator unseen) s = .next (capture (report
        ((s.setPort .operator r).countPort .operator (fun c => { c with busOff := bump c.busOff }))
        .busState 0 1) .busOff 0)) ∧
    (takesPart s p = true → exec (.receiveError p) s =
      .next (s.setPort p { s.port p with rxErrors := min 255 ((s.port p).rxErrors + 1) }))

/-- Entry of the machine port into BUS_OFF (R16) clears every delivery without counting (R150 step 1), takes every axis in
service to NEUTRAL with BUS_OFF in its exit-cause set (R131) and aborts a running sequence with BUS_OFF (R160).  The entry
is counted and BUS_STATE raised, and the machine-side record is offered BUS_OFF; the queue and the STOP relay slot of the
port are kept. -/
def Obligations.MachineBusOffNeutralisesEverything : Prop :=
  ∀ (s : State) (x : Transmission), (s.port .machine).sending = some x → 255 < (s.port .machine).txErrors + 8 →
    let u := (s.setPort .machine
        { s.port .machine with txErrors := (s.port .machine).txErrors + 8, sending := none, recovery := 0 }).countPort
      .machine (fun c => { c with busOff := bump c.busOff })
    ∃ t, exec (.transmissionError .machine false) s = .next t ∧
      SameTracking { u with machineFault := FaultRecord.offer s.machineFault (freshFault s .busOff 1) } t ∧
      SameCounts u t ∧ t.counters.delivery = s.counters.delivery ∧ reportsAfter s .busState 1 1 <+: t.reports ∧
      (∀ a, t.delivery a = { s.delivery a with state := .idle, echo := none, refresh := none, retry := 0 }) ∧
      (∀ a, (s.axis a).state.inService → t.axis a =
        { s.axis a with state := .neutral, governed := 0, ramp := none, exits := addExit (s.axis a).exits .busOff }) ∧
      (∀ a, (s.axis a).state.outOfService → t.axis a = s.axis a) ∧
      t.sequencer = .idle ∧
      (s.sequencer ≠ .idle → t.sequenceTimer = none ∧ t.aborts = addAbort s.aborts .busOff) ∧
      (s.sequencer = .idle → t.sequenceTimer = s.sequenceTimer ∧ t.aborts = s.aborts)

/-- A port in BUS_OFF counts runs of 11 recessive bits; at the 128th it leaves BUS_OFF with both counts 0 and BUS_STATE
(R17).  The machine port then makes a new frame for each axis from the G and mode it holds (R150).  That the command carries
how many runs were counted (log 22), and that no frame is made while no rig profile is valid (log 21), is the model's
reading. -/
def Obligations.BusOffIsLeftAfter128Runs : Prop :=
  ∀ (s : State) (p : Port) (runs : Nat), s.resetLow = false → 255 < (s.port p).txErrors →
    let n := (s.port p).recovery + runs
    let back := report (s.setPort p { s.port p with txErrors := 0, rxErrors := 0, recovery := 0 }) .busState p.code 0
    (n < 128 → exec (.busOffRecovery p runs) s = .next (s.setPort p { s.port p with recovery := n })) ∧
    (128 ≤ n → p = .operator → exec (.busOffRecovery p runs) s = .next back) ∧
    (128 ≤ n → p = .machine → ∃ t, exec (.busOffRecovery p runs) s = .next t ∧ SameSequence back t ∧
      SameCounts back t ∧ t.axes = s.axes ∧ t.reports = back.reports ∧
      (s.tables.rig.valid = false → t.deliveries = s.deliveries) ∧
      (s.tables.rig.valid = true → s.governor = .govern → ∀ a, t.delivery a =
        (s.delivery a).renewed (s.axis a).governed (s.axis a).state.mode) ∧
      (s.tables.rig.valid = true → s.governor ≠ .govern → ∀ a, t.delivery a = (s.delivery a).renewed 0 .neutral))

/-! ## Classification and forwarding -/

/-- What the Frame Classifier does with each frame (R5, R6). -/
def Obligations.ClassifierFollowsTheTables : Prop :=
  ∀ (s : State) (map : Option (List Nat)) (f : Frame),
    (f.extended = true ∨ f.remote = true → ∀ p, classify s p map f = .forward) ∧
    (f.extended = false → f.remote = false →
      (f.id / 128 = 0 → ∀ p, classify s p map f = .stop) ∧
      (f.id / 128 = 1 → ∀ p, classify s p map f = .foreign) ∧
      (f.id / 128 = 2 → classify s .operator map f = .foreign) ∧
      (f.id / 128 = 2 → 3 ≤ f.id % 128 → classify s .machine map f = .forward) ∧
      (∀ a : Axis, f.id / 128 = 2 → f.id % 128 = a.code → classify s .machine map f = .echo a) ∧
      (f.id / 128 = 3 → classify s .machine map f = .foreign) ∧
      (f.id / 128 = 3 → 3 ≤ f.id % 128 → classify s .operator map f = .forward) ∧
      (∀ a : Axis, f.id / 128 = 3 → f.id % 128 = a.code → classify s .operator map f = .command a) ∧
      (f.id / 128 = 4 → classify s .operator map f = .forward) ∧
      (f.id / 128 = 4 → mappedQuantity map (f.id % 128) = none → classify s .machine map f = .forward) ∧
      (∀ q, f.id / 128 = 4 → mappedQuantity map (f.id % 128) = some q → classify s .machine map f = .snoop q) ∧
      (f.id / 128 = 8 → f.id % 128 = s.channel.toNat → classify s .operator map f = .management) ∧
      (f.id / 128 = 8 → f.id % 128 ≠ s.channel.toNat → classify s .operator map f = .forward) ∧
      (f.id / 128 = 8 → classify s .machine map f = .forward) ∧
      ((f.id / 128 = 5 ∨ f.id / 128 = 6 ∨ f.id / 128 = 7 ∨ 9 ≤ f.id / 128) → ∀ p, classify s p map f = .forward))

/-- FORWARD: a frame is appended to the queue toward the other port and counted (R10); at a queue of 32 it is dropped and counted,
with one FORWARD_DROP while the mark is clear (R11).  FOREIGN_FRAME: a frame of class 0x1, of class 0x2 at the operator port or
of class 0x3 at the machine port is dropped, counted and reported with its identifier, and changes nothing else (R8).  The
reception lowers the receive error count (R14). -/
def Obligations.ReceivedFramesAreForwardedOrForeign : Prop :=
  (∀ (s : State) (p : Port) (f : Frame), takesPart s p = true → classify s p (sensorMapInForce s) f = .forward →
    let u := heard s p
    let other := u.port p.other
    (other.queue.length < 32 → exec (.forward p f) s = .next
      ((u.setPort p.other { other with queue := other.queue ++ [f] }).countPort p
        (fun c => { c with forwarded := bump c.forwarded }))) ∧
    (32 ≤ other.queue.length → other.dropMark = true → exec (.forward p f) s = .next
      (u.countPort p (fun c => { c with drops := bump c.drops }))) ∧
    (32 ≤ other.queue.length → other.dropMark = false → exec (.forward p f) s = .next
      (report ((u.countPort p (fun c => { c with drops := bump c.drops })).setPort p.other { other with dropMark := true })
        .forwardDrop p.code other.queue.length))) ∧
  (∀ (s : State) (p : Port) (f : Frame), takesPart s p = true → f.extended = false → f.remote = false →
    (f.id / 128 = 1 ∨ (p = .operator ∧ f.id / 128 = 2) ∨ (p = .machine ∧ f.id / 128 = 3)) →
    exec (.foreignFrame p f) s = .next
      (report ((heard s p).countPort p (fun c => { c with foreign := bump c.foreign })) .foreignCommand p.code f.id))

/-! ## Governor Control -/

/-- A STOP frame in HOLD or GOVERN enters STOPPED: STOP_SEEN and then GOVERNOR_STATE are handed over (R27), the quiet timer is
loaded (R28), every axis, sequence and delivery leaves service (R25, R26), and the relay slot of the other port takes the
STOP or merges it (R9).  In STOPPED it loads the quiet timer again and is relayed, and nothing else changes. -/
def Obligations.StopFrameStops : Prop :=
  (∀ (s : State) (p : Port) (ch : Channel) (payload : List Byte), takesPart s p = true → s.governor ≠ .stopped →
    ∃ t, exec (.stopFrame p ch payload) s = .next t ∧
      SameTracking { (heard s p).setPort p.other { s.port p.other with
          stopSlot := (s.port p.other).stopSlot.or (some ⟨false, false, ch.toNat, payload.length, payload⟩) } with
        governor := .stopped
        quiet := some (if s.tables.rig.valid then Rig.stopQuiet s.tables.rig else 500)
        choices := t.choices } t ∧
      SameCounts s t ∧ LeftService s t .stop .stop ∧
      reportsAfter (report s .stopSeen p.code ch.toNat) .governorState 2 (match p with | .operator => 3 | .machine => 4)
        <+: t.reports) ∧
  (∀ (s : State) (p : Port) (ch : Channel) (payload : List Byte), takesPart s p = true → s.governor = .stopped →
    exec (.stopFrame p ch payload) s = .next
      { (heard s p).setPort p.other { s.port p.other with
          stopSlot := (s.port p.other).stopSlot.or (some ⟨false, false, ch.toNat, payload.length, payload⟩) } with
        quiet := some (if s.tables.rig.valid then Rig.stopQuiet s.tables.rig else 500) })

/-- HOLD: from GOVERN the governor enters HOLD with the effects of R25 and R26 and answers OK; in HOLD it answers OK and in STOPPED
REFUSED with cause STATE, and nothing else changes (R24). -/
def Obligations.HoldControlEntersHold : Prop :=
  ∀ s : State, servesManagement s →
    let u := heard s .operator
    (s.governor = .govern → ∃ t, exec .hold s = .next t ∧ LeftService s t .hold .hold ∧ SameCounts s t ∧
      SameTracking { u with
        governor := .hold, replies := [statusReply s 5 .ok .none 255 255 0], choices := t.choices } t ∧
      reportsAfter s .governorState 0 1 <+: t.reports) ∧
    (s.governor = .hold → exec .hold s = .next { u with replies := [statusReply s 5 .ok .none 255 255 0] }) ∧
    (s.governor = .stopped → exec .hold s = .next { u with replies := [statusReply s 5 .refused .state 255 255 2] })

/-- RELEASE takes the governor from HOLD to GOVERN where no commit is in flight, the rig and bar profiles are valid and PAYOUT and
HEAD are FRESH; the first check that fails decides the reply, and nothing else changes (R22, R23). -/
def Obligations.ReleaseControlFollowsItsChecks : Prop :=
  ∀ s : State, servesManagement s →
    let u := heard s .operator
    let ready := s.tables.rig.valid = true ∧ s.tables.bar.valid = true
    let fresh := isFresh s .payout = true ∧ isFresh s .head = true
    (s.flight.isSome = true →
      exec .release s = .next { u with replies := [statusReply s 5 .busy .none 255 255 s.governor.code] }) ∧
    (s.flight = none → s.governor = .stopped →
      exec .release s = .next { u with replies := [statusReply s 5 .refused .state 255 255 2] }) ∧
    (s.flight = none → s.governor = .govern →
      exec .release s = .next { u with replies := [statusReply s 5 .ok .none 255 255 1] }) ∧
    (s.flight = none → s.governor = .hold → ¬ready →
      exec .release s = .next { u with replies := [statusReply s 5 .refused .notValid 255 255 0] }) ∧
    (s.flight = none → s.governor = .hold → ready → ¬fresh →
      exec .release s = .next { u with replies := [statusReply s 5 .refused .state 255 255 0] }) ∧
    (s.flight = none → s.governor = .hold → ready → fresh →
      exec .release s = .next { report { u with governor := .govern } .governorState 1 0 with
        replies := [statusReply s 5 .ok .none 255 255 1] })

/-- STOP_CLEAR takes the governor from STOPPED to HOLD once the quiet timer is idle; it is refused while the timer runs, and changes
nothing in HOLD or GOVERN (R29).  The quiet timer becomes idle at its expiry, which changes nothing else (R28). -/
def Obligations.StopClearNeedsTheQuietPeriod : Prop :=
  ∀ s : State,
    (servesManagement s →
      let u := heard s .operator
      (s.governor = .stopped → s.quiet.isSome = true →
        exec .stopClear s = .next { u with replies := [statusReply s 5 .refused .state 255 255 2] }) ∧
      (s.governor = .stopped → s.quiet = none →
        exec .stopClear s = .next { report { u with governor := .hold } .governorState 0 2 with
          replies := [statusReply s 5 .ok .none 255 255 0] }) ∧
      (s.governor ≠ .stopped →
        exec .stopClear s = .next { u with replies := [statusReply s 5 .ok .none 255 255 s.governor.code] })) ∧
    (s.resetLow = false → s.quiet = some 0 → exec .stopQuietTimerExpiry s = .next { s with quiet := none })

/-! ## Operator commands -/

/-- Payloads that a block refuses change counters only: a wrong length counts a format failure at the port of arrival, and a check
failure at the axis of an OPERATOR COMMAND (R7); a failed check byte and a repeated alive counter count at the axis (R122), a
failed check byte of an echo at the delivery (R143).  A SENSOR_SAMPLE that fails its length, check byte, alive counter or range
is forwarded and counted and changes no record (R7, R35, R36, R38); one of sensor status FAULT does nothing more at a STALE
record (R37). -/
def Obligations.RefusedPayloadsOnlyCount : Prop :=
  (∀ (s : State) (a : Axis) (payload : List Byte),
    (takesPart s .operator = true →
      let u := heard s .operator
      (payload.length ≠ 4 → exec (.operatorCommand a payload) s = .next
        ((u.countPort .operator (fun c => { c with format := bump c.format })).countAxis a
          (fun c => { c with checkFailures := bump c.checkFailures }))) ∧
      (payload.length = 4 → byteSum payload ≠ 0 → exec (.operatorCommand a payload) s = .next
        (u.countAxis a (fun c => { c with checkFailures := bump c.checkFailures }))) ∧
      (payload.length = 4 → byteSum payload = 0 → (s.axis a).lastAlive = some (u8At payload 2 % 16) →
        exec (.operatorCommand a payload) s = .next
          (u.countAxis a (fun c => { c with duplicates := bump c.duplicates })))) ∧
    (takesPart s .machine = true →
      let u := heard s .machine
      (payload.length ≠ 4 → exec (.driverEcho a payload) s = .next
        (u.countPort .machine (fun c => { c with format := bump c.format }))) ∧
      (payload.length = 4 → byteSum payload ≠ 0 → exec (.driverEcho a payload) s = .next
        (u.countDelivery a (fun c => { c with checkFailures := bump c.checkFailures }))))) ∧
  (∀ (s : State) (ch : Channel) (payload : List Byte) (early : Bool) (q : Quantity), takesPart s .machine = true →
    mappedQuantity (if early then s.earlierMap else sensorMapInForce s) ch.toNat = some q →
    let u := copied s ⟨false, false, 4 * 128 + ch.toNat, payload.length, payload⟩
    let repeated := (s.sensor q).lastAlive = some (u8At payload 6 % 16)
    (payload.length ≠ 8 → exec (.sensorSample ch payload early) s = .next
      ((u.countPort .machine (fun c => { c with format := bump c.format })).countQuantity q
        (fun c => { c with checkFailures := bump c.checkFailures }))) ∧
    (payload.length = 8 → byteSum payload ≠ 0 → exec (.sensorSample ch payload early) s = .next
      (u.countQuantity q (fun c => { c with checkFailures := bump c.checkFailures }))) ∧
    (payload.length = 8 → byteSum payload = 0 → repeated → exec (.sensorSample ch payload early) s = .next
      (u.countQuantity q (fun c => { c with duplicates := bump c.duplicates }))) ∧
    (payload.length = 8 → byteSum payload = 0 → ¬repeated → sampleStatus payload = .fault →
      (s.sensor q).state = .stale → exec (.sensorSample ch payload early) s = .next u) ∧
    (payload.length = 8 → byteSum payload = 0 → ¬repeated → sampleStatus payload ≠ .fault →
      sampleInRange q payload = false → exec (.sensorSample ch payload early) s = .next
        (u.countQuantity q (fun c => { c with rangeErrors := bump c.rangeErrors }))))

/-- A command accepted by an axis in NEUTRAL that may not re-enter, or in FAULT, is stored and counted and starts nothing (R122,
R123, R124): the demand is clamped and set to 0 inside the deadband, the alive counter kept, the freshness timer loaded. -/
def Obligations.CommandOutOfServiceIsStored : Prop :=
  ∀ (s : State) (a : Axis) (payload : List Byte), takesPart s .operator = true →
    payload.length = 4 → byteSum payload = 0 →
    let c := clamp (-1000) 1000 (s16At payload 0)
    let d := demandAfterDeadband s payload
    (s.axis a).lastAlive ≠ some (u8At payload 2 % 16) → (s.axis a).state.outOfService →
    ¬((s.axis a).state = .neutral ∧ d = 0 ∧ s.governor = .govern ∧ isBusOff s .machine = false) →
    (a = .rotary → commandLockReq payload = false ∧ commandReleaseReq payload = false) →
    d = (if s.tables.rig.valid = true ∧ |c| < Rig.deadband s.tables.rig then 0 else c) ∧
    exec (.operatorCommand a payload) s = .next
      ((countedCommand s a payload).setAxis a ((s.axis a).commanded s a payload))

/-- A command accepted by an axis in ACTIVE or RAMPDOWN, or a zero-demand command that takes an axis from NEUTRAL to ACTIVE
(R127), is stored, cancels the ramp, and is evaluated by the governing arithmetic from the G held (R108 to R111, R122 to R124,
R135); a change of state raises AXIS_STATE, and the result goes to the drive as R140 states.  A zero demand yields 0. -/
def Obligations.CommandInServiceIsEvaluated : Prop :=
  ∀ (s : State) (a : Axis) (payload : List Byte), takesPart s .operator = true →
    payload.length = 4 → byteSum payload = 0 → (s.axis a).lastAlive ≠ some (u8At payload 2 % 16) →
    let d := demandAfterDeadband s payload
    let v := governedValue s a d
    ((s.axis a).state = .active ∨ (s.axis a).state = .rampdown ∨ ((s.axis a).state = .neutral ∧ d = 0)) →
    s.governor = .govern → isBusOff s .machine = false →
    (a = .rotary → commandLockReq payload = false ∧ commandReleaseReq payload = false) →
    ∃ t, exec (.operatorCommand a payload) s = .next t ∧
      t.axis a = { (s.axis a).commanded s a payload with
        state := .active, governed := v.1, cause := v.2, lastEval := some s.millis
        ramp := if (s.axis a).state = .rampdown then none else (s.axis a).ramp } ∧
      (d = 0 → v = (0, .none)) ∧
      (∀ b, b ≠ a → t.axis b = s.axis b ∧ t.delivery b = s.delivery b) ∧
      t.reports = (if (s.axis a).state = .active then s.reports else reportsAfter s .axisState a.code 1) ∧
      t.delivery a = (s.delivery a).handed v.1 .active ∧
      SameSequence (heard s .operator) t ∧ SameCounts (countedCommand s a payload) t

/-- A rotary command with LOCK_REQ or RELEASE_REQ alone, demand 0, that passes the checks of R155 starts its sequence (R156): the
sequencer, its timer, ROTARY in AUTO evaluated with the creep demand (R157), and the auto interlock holds CROWD and HOIST at
0.  The joints lie within their strokes (JointsStayWithinStroke), so no cap is negative. -/
def Obligations.RequestStartsASequence : Prop :=
  ∀ (s : State) (payload : List Byte), JointsWithinStroke s → takesPart s .operator = true →
    payload.length = 4 → byteSum payload = 0 → s.axes.rotary.lastAlive ≠ some (u8At payload 2 % 16) →
    s.axes.rotary.state = .active ∨ s.axes.rotary.state = .neutral →
    s.sequencer = .idle → s.governor = .govern → isBusOff s .machine = false →
    demandAfterDeadband s payload = 0 → geometry s = .tracking → isFresh s .angle = true →
    commandLockReq payload ≠ commandReleaseReq payload →
    (commandLockReq payload = true → anyJoint (alignedSet s) = true) →
    (commandReleaseReq payload = true → anyNotFree s = true) →
    let creep := if commandLockReq payload then Bar.lockCreep s.tables.bar else - Bar.releaseCreep s.tables.bar
    let v := governedValue s .rotary creep
    let back := if s.axes.rotary.state = .neutral then report s .axisState 0 1 else s
    ∃ t, exec (.operatorCommand .rotary payload) s = .next t ∧
      t.sequencer = (if commandLockReq payload then .locking else .releasing) ∧
      t.sequenceTimer = some (Rig.autoTimeout s.tables.rig) ∧ t.aborts = s.aborts ∧
      t.axes.rotary = { s.axes.rotary.commanded s .rotary payload with
        state := .auto, governed := v.1, cause := v.2, lastEval := some s.millis } ∧
      t.delivery .rotary = (s.delivery .rotary).handed v.1 .auto ∧
      (∀ b, b ≠ .rotary →
        t.axis b = { s.axis b with governed := 0, cause := (t.axis b).cause, lastEval := some s.millis } ∧
        t.delivery b = (s.delivery b).handed 0 (s.axis b).state.mode) ∧
      t.reports = reportsAfter back .axisState 0 3 ∧
      SameTracking (heard s .operator) t ∧ SameCounts (countedCommand s .rotary payload) t

/-- Rotary commands that the Auto Sequencer answers otherwise than by a start.  In IDLE a command with LOCK_REQ or RELEASE_REQ
that fails a check of R155 is refused: AUTO_REFUSED names the request (LOCK 0, RELEASE 1, BOTH 2) and the first check that
fails, and the command is otherwise an operator command like any other (R122 to R127).  In AUTO (R158) a demand other than 0
aborts the sequence with OPERATOR and ROTARY is handed back with it; at demand 0 the request of the other sequence aborts it
with OPPOSITE and hands ROTARY back with 0, and any other command lets it run on, evaluated with the creep demand (R157).  A
hand-back to a stale operator ends in NEUTRAL with STALE (R129); that it stores the demand is the model's reading (log 30). -/
def Obligations.RotaryRequestsAndAutoCommands : Prop :=
  ∀ (s : State) (payload : List Byte), takesPart s .operator = true →
    payload.length = 4 → byteSum payload = 0 → s.axes.rotary.lastAlive ≠ some (u8At payload 2 % 16) →
    let d := demandAfterDeadband s payload
    let lock := u8At payload 2 / 16 % 2 = 1
    let release := u8At payload 2 / 32 % 2 = 1
    let r := s.axes.rotary.commanded s .rotary payload
    let rest (t : State) : Prop :=
      (∀ b, b ≠ .rotary → t.axis b = s.axis b ∧ t.delivery b = s.delivery b) ∧
      SameTracking (heard s .operator) t ∧ SameCounts (countedCommand s .rotary payload) t
    (s.sequencer = .idle → s.axes.rotary.state ≠ .auto → lock ∨ release →
      let connected := s.governor = .govern ∧ isBusOff s .machine = false
      let entered := s.axes.rotary.state = .rampdown ∨ (s.axes.rotary.state = .neutral ∧ d = 0 ∧ connected)
      let state := if entered then .active else s.axes.rotary.state
      let v := governedValue s .rotary d
      let back := if entered then report s .axisState 0 1 else s
      let refused (subject check : Nat) : Prop := ∃ t, exec (.operatorCommand .rotary payload) s = .next t ∧
        t.sequencer = .idle ∧ t.sequenceTimer = s.sequenceTimer ∧ t.aborts = s.aborts ∧
        t.reports = reportsAfter back .autoRefused subject check ∧ rest t ∧
        (state = .active → t.axes.rotary = { r with
            state := .active, governed := v.1, cause := v.2, lastEval := some s.millis
            ramp := if s.axes.rotary.state = .rampdown then none else s.axes.rotary.ramp } ∧
          t.delivery .rotary = (produce s .rotary v.1 .active false).delivery .rotary) ∧
        (state ≠ .active → t.axes.rotary = r ∧ t.delivery .rotary = s.delivery .rotary)
      let serves := connected ∧ (state = .active ∨ state = .neutral)
      let one := ¬(lock ∧ release) ∧ serves
      let ready := one ∧ d = 0 ∧ geometry s = .tracking
      let subject := if release then 1 else 0
      (lock → release → refused 2 6) ∧
      (¬(lock ∧ release) → ¬serves → refused subject 0) ∧
      (one → d ≠ 0 → refused subject 4) ∧
      (one → d = 0 → geometry s ≠ .tracking → refused subject 1) ∧
      (ready → isFresh s .angle = false → refused subject 2) ∧
      (ready → isFresh s .angle = true → lock →
        (∀ j ∈ s.joints, ¬(j.aligned = true ∧ j.lock ≠ .locked)) → refused 0 3) ∧
      (ready → isFresh s .angle = true → release → (∀ j ∈ s.joints, j.lock = .free) → refused 1 5)) ∧
    (s.sequencer ≠ .idle → s.axes.rotary.state = .auto →
      let opposite := (s.sequencer = .locking ∧ release) ∨ (s.sequencer = .releasing ∧ lock)
      let aborted (c : AbortCause) : Prop := ∃ t, exec (.operatorCommand .rotary payload) s = .next t ∧
        t.sequencer = .idle ∧ t.sequenceTimer = none ∧ t.aborts = addAbort s.aborts c ∧ rest t ∧
        t.reports = reportsAfter (report s .autoAborted (if s.sequencer = .releasing then 1 else 0) c.bit)
          .axisState 0 (if r.freshness.isSome then 1 else 0) ∧
        (r.freshness.isSome = true →
          let v := governedValue s .rotary d
          t.axes.rotary = { r with
            state := .active, governed := v.1, cause := v.2, lastEval := some s.millis } ∧
          t.delivery .rotary = (produce s .rotary v.1 .active false).delivery .rotary) ∧
        (r.freshness = none →
          t.axes.rotary = { r with state := .neutral, governed := 0, ramp := none, exits := addExit r.exits .stale } ∧
          t.delivery .rotary = (produce s .rotary 0 .neutral false).delivery .rotary)
      (d ≠ 0 → aborted .operator) ∧
      (d = 0 → opposite → aborted .opposite) ∧
      (d = 0 → ¬opposite → ∃ t, exec (.operatorCommand .rotary payload) s = .next t ∧
        let v := governedValue s .rotary
          (if s.sequencer = .locking then Bar.lockCreep s.tables.bar else - Bar.releaseCreep s.tables.bar)
        t.sequencer = s.sequencer ∧ t.sequenceTimer = s.sequenceTimer ∧ t.aborts = s.aborts ∧ t.reports = s.reports ∧
        t.axes.rotary = { r with governed := v.1, cause := v.2, lastEval := some s.millis } ∧
        t.delivery .rotary = (produce s .rotary v.1 .auto false).delivery .rotary ∧ rest t))

/-! ## Sensor samples -/

/-- An accepted SENSOR_SAMPLE makes its record FRESH with the sample's values, loads its freshness timer and counts (R39); its copy
is forwarded (R6, R10).  A record that was not FRESH raises SENSOR_FRESH with the state it leaves, and the change evaluates
every axis (R42, R44, R134).  What the hand-offs of its quantity (R43) may change is bounded: TORQUE, FORCE and ROPE only
evaluate the axis they measure, in service (R134), ANGLE reaches locks and key travel (R74), HEAD the geometry and PAYOUT the
geometry and the band (R57, R61, R97).  After TORQUE and ANGLE the stall condition is tested (R114, R115); that after ANGLE it is tested on the state
that key tests and hand-back leave is the model's reading (log 24). -/
def Obligations.AcceptedSampleMakesItsRecordFresh : Prop :=
  ∀ (s : State) (ch : Channel) (payload : List Byte) (early : Bool) (q : Quantity), takesPart s .machine = true →
    mappedQuantity (if early then s.earlierMap else sensorMapInForce s) ch.toNat = some q →
    payload.length = 8 → byteSum payload = 0 → (s.sensor q).lastAlive ≠ some (u8At payload 6 % 16) →
    sampleStatus payload ≠ .fault → sampleInRange q payload = true →
    let u := accepted s ch payload q
    let old := (s.sensor q).state
    let again (a : Axis) := Axis.measured a = q ∧ (s.axis a).state.inService
    ∃ t, exec (.sensorSample ch payload early) s = .next t ∧
      t.sensor q =
        { state := .fresh, value := some (s32At payload 0)
          secondary := if q = .angle then some (s16At payload 4) else (s.sensor q).secondary
          lastAlive := some (u8At payload 6 % 16), stamp := some s.millis
          timer := some (Rig.freshness s.tables.rig q) } ∧
      (∀ r, r ≠ q → t.sensor r = s.sensor r) ∧
      Kept { s with ports := u.ports } t ∧ SameCounts u t ∧
      (old ≠ .fresh → ∀ a, (t.axis a).lastEval = some s.millis) ∧
      (old ≠ .fresh → (s.port .operator).queue.length < 32 → reportsAfter s .sensorFresh q.code old.code <+: t.reports) ∧
      t.backoff = s.backoff ∧ t.recoveryTimer = s.recoveryTimer ∧ t.machineFault = s.machineFault ∧
      (q ≠ .angle → t.angleRef = s.angleRef) ∧ (q ≠ .angle → q ≠ .torque → t.stallTimer = s.stallTimer) ∧
      (q = .angle ∨ q = .torque → old = .fresh ∨ s.stallTimer = none → t.stallTimer =
        if stallStands t = true then s.stallTimer.or (some (Rig.stallTime s.tables.rig)) else none) ∧
      (q ≠ .payout → t.band = s.band ∧ t.depthHeld = s.depthHeld) ∧
      (q ≠ .payout → q ≠ .head → t.mismatch = s.mismatch ∧ t.barFault = s.barFault) ∧
      (q = .torque ∨ q = .force ∨ q = .rope →
        t.joints = s.joints ∧ t.extension = s.extension ∧ t.keyTravel = s.keyTravel ∧ t.sequencer = s.sequencer ∧
        t.sequenceTimer = s.sequenceTimer ∧ t.aborts = s.aborts ∧
        (∀ a, t.axis a = { s.axis a with
          governed := (t.axis a).governed, cause := (t.axis a).cause, lastEval := (t.axis a).lastEval }) ∧
        (old = .fresh → ∀ a, again a → EvaluatedIn u s t a) ∧
        (old = .fresh → ∀ a, ¬again a → t.axis a = s.axis a ∧ t.delivery a = s.delivery a) ∧
        (old ≠ .fresh → ∀ a, ¬again a → EvaluatedIn u s t a))

/-- What an evaluation yields in each axis state (R135): nothing in NEUTRAL and FAULT, the governing arithmetic on the stored demand
in ACTIVE and on the creep demand in AUTO (R157), and in RAMPDOWN only what lies nearer to 0 without opposing G.  An
evaluation of all axes changes no more than that (R134).  The stall condition and its test (R114, R115).  An accepted sample
of a FRESH HEAD, ANGLE or PAYOUT is handed to the geometry, to key travel and then the stall test, and to geometry and band
(R43); where the band changes, geometry and band take the sample in either order (log 10), and the stall test comes last
(log 24).  The P0 in force is read (log 36). -/
def Obligations.EvaluationsAndHandOffsOfSamples : Prop :=
  (∀ (s : State) (a : Axis),
    let r := s.axis a
    let v := governedValue s a (r.demand.getD 0)
    (r.state.outOfService → evaluated s a = (0, .none)) ∧
    (r.state = .active → evaluated s a = v) ∧
    (r.state = .auto → s.sequencer = .locking → evaluated s a = governedValue s a (Bar.lockCreep s.tables.bar)) ∧
    (r.state = .auto → s.sequencer = .releasing → evaluated s a = governedValue s a (- Bar.releaseCreep s.tables.bar)) ∧
    (r.state = .rampdown → |v.1| < |r.governed| → 0 ≤ v.1 * r.governed → evaluated s a = v) ∧
    (r.state = .rampdown → ¬(|v.1| < |r.governed| ∧ 0 ≤ v.1 * r.governed) → evaluated s a = (r.governed, r.cause))) ∧
  (∀ s : State, (∀ a, EvaluatedIn s s (evaluateAll s) a) ∧ SameSequence s (evaluateAll s) ∧
    SameCounts s (evaluateAll s) ∧ (evaluateAll s).reports = s.reports) ∧
  (∀ s : State,
    (stallStands s = true ↔ (bandInForce s).stallWatch = true ∧ (s.sensor .torque).state = .fresh ∧
      (s.sensor .angle).state = .fresh ∧ 0 < s.axes.rotary.governed ∧
      |(s.sensor .angle).secondary.getD 0| < Rig.stallSpeed s.tables.rig ∧
      ∃ l, limitOf s .rotary true = some l ∧
        (l.value * Rig.stallFraction s.tables.rig).tdiv 1000 ≤ (s.sensor .torque).value.getD 0) ∧
    (stallStands s = true → stallTest s = { s with
      stallTimer := s.stallTimer.or (some (Rig.stallTime s.tables.rig)) }) ∧
    (stallStands s = false → stallTest s = { s with stallTimer := none })) ∧
  (∀ (s : State) (ch : Channel) (payload : List Byte) (early : Bool) (q : Quantity), takesPart s .machine = true →
    mappedQuantity (if early then s.earlierMap else sensorMapInForce s) ch.toNat = some q →
    payload.length = 8 → byteSum payload = 0 → (s.sensor q).lastAlive ≠ some (u8At payload 6 % 16) →
    sampleStatus payload ≠ .fault → sampleInRange q payload = true →
    (s.sensor q).state = .fresh → (s.port .operator).queue.length < 32 →
    let u := accepted s ch payload q
    let z := s32At payload 0 - Rig.ropeOffset s.tables.rig
    let band := lookupBand s.tables s.band z
    let kelly (w : State) : State :=
      let x := if w.tables.rig.valid then { w with depthHeld := some z } else w
      if geometry x = .tracking then allocate x else x
    let chosen : State := { u with choices := s.choices + 1 }
    (q = .head → exec (.sensorSample ch payload early) s = .next (if geometry u = .tracking then allocate u else u)) ∧
    (q = .angle → exec (.sensorSample ch payload early) s = .next (stallTest (kellyAngle u))) ∧
    (q = .payout → s.tables.rig.valid = false ∨ band = s.band → exec (.sensorSample ch payload early) s = .next (kelly u)) ∧
    (q = .payout → s.tables.rig.valid = true → band ≠ s.band →
      exec (.sensorSample ch payload early) s = .next (bandPayout (kelly chosen)) ∨
      exec (.sensorSample ch payload early) s = .next (kelly (bandPayout chosen))))

/-- A record becomes STALE at the expiry of its freshness timer (R40) and at a sample of sensor status FAULT (R37): value, alive
counter and stamp kept, timer idle, SENSOR_STALE raised before anything it leads to (R42); a loss of ANGLE clears the angle
reference (R73), and one of ANGLE or TORQUE ends a stall timing (R115).  Every axis is evaluated (R44, R134).  A running
sequence goes on, unless ANGLE is lost, or PAYOUT or HEAD in TRACKING: then it aborts with STALE (R160) and ROTARY is handed
back with demand 0, or to NEUTRAL with STALE where its operator is stale (R129).  Of a sample the copy is forwarded.  Whether an
axis is evaluated before the abort or after it is free (log 10); that the NEUTRAL of a hand-back stores the demand is log 30. -/
def Obligations.LostSensorBecomesStale : Prop :=
  let ends (s : State) (q : Quantity) : Prop := s.sequencer ≠ .idle ∧ (s.sensor q).state = .fresh ∧
    (q = .angle ∨ ((q = .payout ∨ q = .head) ∧ geometry s = .tracking))
  let lost (s t : State) (q : Quantity) (ports : PerPort PortRecord) : Prop :=
    let v := s.setSensor q { s.sensor q with state := .stale, timer := none }
    let u := { v with ports := ports, angleRef := t.angleRef, stallTimer := t.stallTimer, choices := t.choices }
    let r := s.axes.rotary
    SameTracking u t ∧
    (q = .angle → (s.sensor q).state = .fresh → t.angleRef = none) ∧
    (q ≠ .angle ∨ (s.sensor q).state ≠ .fresh → t.angleRef = s.angleRef) ∧
    (q ≠ .angle → q ≠ .torque → t.stallTimer = s.stallTimer) ∧
    (q = .angle ∨ q = .torque → t.stallTimer = none) ∧
    (¬ends s q → SameSequence u t ∧ ∀ a, EvaluatedIn v s t a) ∧
    (ends s q → t.sequencer = .idle ∧ t.sequenceTimer = none ∧ t.aborts = addAbort s.aborts .stale ∧
      (r.freshness.isSome = true → t.axes.rotary = { r with
        state := .active, demand := some 0, governed := 0, cause := .none, lastEval := some s.millis }) ∧
      (r.freshness = none → t.axes.rotary = { r with
        state := .neutral, demand := some 0, governed := 0, cause := t.axes.rotary.cause, lastEval := some s.millis
        ramp := none, exits := addExit r.exits .stale }) ∧
      (∀ a, a ≠ .rotary → t.axis a = { s.axis a with
        governed := (t.axis a).governed, cause := (t.axis a).cause, lastEval := some s.millis }))
  let raised (s t : State) (q : Quantity) (cause : Nat) : Prop :=
    reportsAfter s .sensorStale q.code cause <+: t.reports ∧
    (ends s q → reportsAfter (report s .sensorStale q.code cause) .autoAborted
      (if s.sequencer = .releasing then 1 else 0) 4 <+: t.reports)
  (∀ (s : State) (q : Quantity), s.resetLow = false → (s.sensor q).timer = some 0 →
    ∃ t, exec (.sensorFreshnessExpiry q) s = .next t ∧ lost s t q s.ports ∧ SameCounts s t ∧ raised s t q 0) ∧
  (∀ (s : State) (ch : Channel) (payload : List Byte) (early : Bool) (q : Quantity), takesPart s .machine = true →
    mappedQuantity (if early then s.earlierMap else sensorMapInForce s) ch.toNat = some q →
    payload.length = 8 → byteSum payload = 0 → (s.sensor q).lastAlive ≠ some (u8At payload 6 % 16) →
    sampleStatus payload = .fault → (s.sensor q).state ≠ .stale →
    let u := copied s ⟨false, false, 4 * 128 + ch.toNat, 8, payload⟩
    ∃ t, exec (.sensorSample ch payload early) s = .next t ∧ lost s t q u.ports ∧ SameCounts u t ∧
      ((s.port .operator).queue.length < 32 → raised s t q 1))

/-! ## Delivery to the valve drivers -/

/-- A hand-off of G and mode makes a new frame where value or mode differs from the latest frame, or at a refresh, and none
otherwise or in BUS_OFF; outside GOVERN the frame carries 0 and NEUTRAL (R140).  A frame that supersedes a pending one is
counted (R141).  The GOVERNED COMMAND sums to 0 over its bytes (R4). -/
def Obligations.HandOffsMakeGovernedCommands : Prop :=
  (∀ (s : State) (a : Axis) (g : Int) (m : Mode) (refresh : Bool),
    let d := s.delivery a
    (isBusOff s .machine = true → produce s a g m refresh = s) ∧
    (refresh = false → d.value = g → d.mode = m → produce s a g m refresh = s) ∧
    (isBusOff s .machine = false → (refresh = true ∨ d.value ≠ g ∨ d.mode ≠ m) →
      ∃ t, produce s a g m refresh = t ∧
        t.delivery a = (if s.governor = .govern then d.renewed g m else d.renewed 0 .neutral) ∧
        (∀ b, b ≠ a → t.delivery b = s.delivery b ∧ t.counters.delivery.get b = s.counters.delivery.get b) ∧
        t.counters.delivery.get a = (if d.state = .idle then s.counters.delivery.get a
          else { s.counters.delivery.get a with superseded := bump (s.counters.delivery.get a).superseded }) ∧
        t.counters = { s.counters with delivery := t.counters.delivery } ∧
        t.axes = s.axes ∧ t.reports = s.reports ∧ SameSequence s t)) ∧
  (∀ (a : Axis) (d : DeliveryRecord), (governedCommand a d).id = 128 + a.code ∧ (governedCommand a d).len = 4 ∧
    (governedCommand a d).data.take 3 =
      byte2 d.value ++ byte1 ((d.sequence + 16 * d.mode.code : Nat) : Int) ∧
    byteSum (governedCommand a d).data = 0)

/-- An echo that passes its check satisfies the delivery where its sequence is the latest and the delivery is answerable (R144):
IDLE, echo timer cancelled, retry count and miss streak 0, the latest value delivered and the echo kept; a NEUTRAL driver under
a value other than 0 is counted; a FAULT driver takes the axis into FAULT and offers DRIVER_FAULT to the machine-side record
(R130).  Any other echo is late: it is counted and changes no state, timer, value or fault, whatever driver state it reports
(R145). -/
def Obligations.EchoesMatchOrAreLate : Prop :=
  ∀ (s : State) (a : Axis) (payload : List Byte), takesPart s .machine = true →
    payload.length = 4 → byteSum payload = 0 →
    let d := s.delivery a
    let answered : DeliveryRecord := { d with
      state := .idle, echo := none, retry := 0, missStreak := 0, lastDelivered := d.value
      lastEcho := some (echoDriver payload, s16At payload 1) }
    let u := (heard s .machine).setDelivery a answered
    (d.sequence = u8At payload 0 % 16 → (d.state = .await ∨ (d.state = .queued ∧ 1 ≤ d.retry)) →
      (echoDriver payload ≠ .fault → ¬(echoDriver payload = .neutral ∧ d.value ≠ 0) →
        exec (.driverEcho a payload) s = .next u) ∧
      (echoDriver payload = .neutral → d.value ≠ 0 → exec (.driverEcho a payload) s = .next
        (u.countDelivery a (fun c => { c with driverNeutral := bump c.driverNeutral }))) ∧
      (echoDriver payload = .fault → ∃ t, exec (.driverEcho a payload) s = .next t ∧
        EnteredFault u t a .driverFault ∧ SameCounts s t ∧
        SameTracking { u with machineFault := FaultRecord.offer s.machineFault (freshFault s .driverFault a.code) } t)) ∧
    ((d.sequence ≠ u8At payload 0 % 16 ∨ d.state = .idle ∨ (d.state = .queued ∧ d.retry = 0)) →
      exec (.driverEcho a payload) s = .next
        ((heard s .machine).countDelivery a (fun c => { c with lateEchoes := bump c.lateEchoes })))

/-- The echo timer in AWAIT (R146): below the retry limit the same frame is queued again; at it the delivery is given up, and at the
miss limit the axis enters FAULT with DRIVER_LOST.  The refresh timer (R148): the axis is evaluated in whatever state it holds,
and the hand-off makes a new frame whatever its value, unless the machine port is in BUS_OFF. -/
def Obligations.DeliveryTimersRetryAndRefresh : Prop :=
  (∀ (s : State) (a : Axis), s.resetLow = false → (s.delivery a).echo = some 0 → (s.delivery a).state = .await →
    let d := s.delivery a
    let limit := Rig.retryLimit s.tables.rig
    let streak := if d.missStreak < 255 then d.missStreak + 1 else 255
    (d.retry < limit → exec (.echoTimerExpiry a) s = .next
      ((s.setDelivery a { d with state := .queued, retry := d.retry + 1, echo := none }).countDelivery a
        (fun c => { c with retries := bump c.retries }))) ∧
    (limit ≤ d.retry → streak < Rig.missLimit s.tables.rig → exec (.echoTimerExpiry a) s = .next
      ((s.setDelivery a { d with state := .idle, retry := 0, echo := none, missStreak := streak }).countDelivery a
        (fun c => { c with misses := bump c.misses }))) ∧
    (limit ≤ d.retry → Rig.missLimit s.tables.rig ≤ streak → ∃ t, exec (.echoTimerExpiry a) s = .next t ∧
      let u := s.setDelivery a { d with state := .idle, retry := 0, echo := none, missStreak := streak }
      EnteredFault u t a .driverLost ∧ SameCounts (s.countDelivery a (fun c => { c with misses := bump c.misses })) t ∧
      SameTracking { u with machineFault := FaultRecord.offer s.machineFault (freshFault s .driverLost a.code) } t)) ∧
  (∀ (s : State) (a : Axis), s.resetLow = false → (s.delivery a).refresh = some 0 → isBusOff s .machine = false →
    let v := evaluated s a
    ∃ t, exec (.refreshTimerExpiry a) s = .next t ∧
      t.axis a = { s.axis a with governed := v.1, cause := v.2, lastEval := some s.millis } ∧
      t.delivery a = { (if s.governor = .govern then (s.delivery a).renewed v.1 (s.axis a).state.mode
        else (s.delivery a).renewed 0 .neutral) with refresh := none } ∧
      (∀ b, b ≠ a → t.axis b = s.axis b ∧ t.delivery b = s.delivery b) ∧ t.reports = s.reports ∧ SameSequence s t ∧
      SameCounts s t)

/-! ## Table loading and management -/

/-- A management frame is turned away: without payload it is a format failure (R7); while the reply slot holds a frame it is
discarded unread and counted (R163); of an unknown kind, or of a wrong length for its kind, it is answered REFUSED with cause
STRUCTURE (R163).  The detail byte 0 of that reply, which no rule gives, is the model's reading (log 14); a CONTROL shows a
detail of log 31, left open here. -/
def Obligations.ManagementFramesTurnedAway : Prop :=
  ∀ s : State, takesPart s .operator = true →
    let u := heard s .operator
    exec (.unknownKind []) s = .next (u.countPort .operator (fun c => { c with format := bump c.format })) ∧
    (s.replies ≠ [] → ∀ (c : Instr) (payload body : List Byte) (table row x : Byte), payload ≠ [] →
      c = .unknownKind payload ∨ c = .select table row x ∨ c = .segment body ∨ c = .commit ∨ c = .read table row x ∨
        c = .release ∨ c = .hold ∨ c = .stopClear ∨ c = .clearFaults ∨ c = .clearLoadErrors ∨ c = .discardPending ∨
        c = .clearCounters ∨ c = .restart →
      exec c s = .next (u.countPart (fun k => { k with managementDrops := bump k.managementDrops }))) ∧
    (s.replies = [] → ∀ payload : List Byte, payload ≠ [] →
      let kind := u8At payload 0
      (kind = 0 ∨ 5 < kind ∨ (kind = 1 ∧ payload.length ≠ 4) ∨ (kind = 3 ∧ payload.length ≠ 1) ∨
        (kind = 4 ∧ payload.length ≠ 4) →
        exec (.unknownKind payload) s = .next { u with replies := [statusReply s kind .refused .structure_ 255 255 0] }) ∧
      (kind = 5 → payload.length ≠ 2 ∨ u8At payload 1 = 0 ∨ 8 < u8At payload 1 →
        ∃ detail, exec (.unknownKind payload) s =
          .next { u with replies := [statusReply s 5 .refused .structure_ 255 255 detail] }))

/-- SELECT and SEGMENT (R165), and the complete row (R166).  SELECT: halted, mid-row, no such row, or SELECTED with segment 0
expected.  SEGMENT: skipped without a selection; out of place it sets FORMAT; segments 0 and 1 keep their bytes; after segment
2 the row fails its check, finds the buffer full, or is appended.  So four frames load a row: SELECT and three SEGMENTs with 16
bytes that sum to 0 with the row check leave the row at the tail of the load buffer, no reply waiting, and the tables as they
were.  That LOADING_HALTED and BAD_ROW carry the table and row of the SELECT, and LOAD_ERROR those of the selection
discarded, is the model's reading (log 14). -/
def Obligations.FramesLoadARow : Prop :=
  (∀ (s : State) (table row check : Byte), servesManagement s →
    let u := { heard s .operator with selection := none }
    let midRow := ∃ x, s.selection = some x ∧ x.next ≠ 0
    (s.loadFlags ≠ 0 → exec (.select table row check) s = .next { u with
      replies := [statusReply s 1 .loadingHalted .none table.toNat row.toNat s.loadFlags.toNat] }) ∧
    (s.loadFlags = 0 → midRow → exec (.select table row check) s = .next { u with
      loadFlags := 2#3
      replies := [statusReply s 1 .loadingHalted .none table.toNat row.toNat 2] }) ∧
    (s.loadFlags = 0 → ¬midRow → rowCount table.toNat ≤ row.toNat → exec (.select table row check) s = .next { u with
      replies := [statusReply s 1 .badRow .none table.toNat row.toNat 0] }) ∧
    (s.loadFlags = 0 → ¬midRow → row.toNat < rowCount table.toNat → exec (.select table row check) s = .next { u with
      selection := some { table := table.toNat, row := row.toNat, check := check, next := 0, bytes := [] } })) ∧
  (∀ (s : State) (body : List Byte), servesManagement s →
    let u := heard s .operator
    (s.selection = none → exec (.segment body) s = .next
      (u.countPart (fun c => { c with skippedSegments := bump c.skippedSegments }))) ∧
    ∀ x, s.selection = some x →
      let fits := body.length = (if x.next = 2 then 5 else 7) ∧ u8At body 0 = x.next
      let row := x.bytes ++ body.tail
      let discarded (flags : BitVec 3) : State := { u with
        loadFlags := flags, selection := none
        replies := [statusReply s 2 .loadError .none x.table x.row flags.toNat] }
      (¬fits → exec (.segment body) s = .next (discarded (s.loadFlags ||| 2))) ∧
      (fits → x.next ≠ 2 → exec (.segment body) s = .next { u with
        selection := some { x with next := x.next + 1, bytes := row } }) ∧
      (fits → x.next = 2 → x.check + byteSum row ≠ 0 →
        exec (.segment body) s = .next (discarded (s.loadFlags ||| 4))) ∧
      (fits → x.next = 2 → x.check + byteSum row = 0 → 16 ≤ s.buffer.length →
        exec (.segment body) s = .next (discarded (s.loadFlags ||| 1))) ∧
      (fits → x.next = 2 → x.check + byteSum row = 0 → s.buffer.length < 16 →
        exec (.segment body) s = .next { u with
          selection := none, buffer := s.buffer ++ [{ table := x.table, row := x.row, bytes := row }] })) ∧
  (∀ (s : State) (table row check : Byte) (bytes : Row) (rest : List Instr), servesManagement s → s.loadFlags = 0 →
    (∀ x, s.selection = some x → x.next = 0) → row.toNat < rowCount table.toNat → bytes.length = 16 →
    check + byteSum bytes = 0 → s.buffer.length < 16 →
    s.pending = [.select table row check, .segment (0 :: bytes.take 6), .segment (1 :: (bytes.drop 6).take 6),
      .segment (2 :: bytes.drop 12)] ++ rest →
    Host.Core.run Sys2Proof.core 4 s = .next
      { heard (heard (heard (heard s .operator) .operator) .operator) .operator with
        pending := rest, selection := none
        buffer := s.buffer ++ [{ table := table.toNat, row := row.toNat, bytes := bytes }] })

/-- COMMIT (R167): BUSY in flight, LOADING_HALTED with any flag, OK on an empty buffer, else taken with the rows then in the buffer.
The controls that act on the Load Unit and the counters (R171, R179), and RESTART, which is answered OK, abandons a commit in
flight and waits for its reply (R20, R167).  The model's readings: the commit completes at latest after 25 ms of the
timebase (log 26), and the bytes of a reply that no rule gives, as the detail 0 of BUSY, are as log 14 says. -/
def Obligations.CommitAndLoadControlsAct : Prop :=
  ∀ s : State, servesManagement s →
    let u := heard s .operator
    let ok := [statusReply s 5 .ok .none 255 255 s.governor.code]
    (s.flight.isSome = true →
      exec .commit s = .next { u with replies := [statusReply s 3 .busy .none 255 255 0] }) ∧
    (s.flight = none → s.loadFlags ≠ 0 → exec .commit s = .next { u with
      replies := [statusReply s 3 .loadingHalted .none 255 255 s.loadFlags.toNat] }) ∧
    (s.flight = none → s.loadFlags = 0 → s.buffer = [] →
      exec .commit s = .next { u with replies := [statusReply s 3 .ok .none 255 255 0] }) ∧
    (s.flight = none → s.loadFlags = 0 → s.buffer ≠ [] →
      exec .commit s = .next { u with flight := some { taken := s.buffer.length, left := 25 } }) ∧
    exec .clearLoadErrors s = .next { u with loadFlags := 0, replies := ok } ∧
    (s.flight.isSome = true → exec .discardPending s = .next { u with
      replies := [statusReply s 5 .busy .none 255 255 s.governor.code] }) ∧
    (s.flight = none → exec .discardPending s = .next { u with buffer := [], replies := ok }) ∧
    exec .clearCounters s = .next { u with counters := Counters.zero, replies := ok } ∧
    exec .restart s = .next { u with flight := none, restarting := true, replies := ok }

/-- What a commit's structural checks refuse, and the row they name (R168).  MISSING_ROWS names the first row, by table and row,
that a touched table needs and that would not be present: every row of the rig profile; the header of the bar profile and the
joints in use (R49, R50); the eight rows of the pocket table, which a LISTED joint in use needs too (R51; log 17); the header
and the bands in use of the bore plan (R89).  STRUCTURE names the first row that breaks a condition: two quantities on one
channel (R33); a code out of its set (R50, R90, R92); a section count or band count out of range (R49, R89); an inconsistent
row window (R51); a band whose top is not above its bottom, or a band that starts above the bottom of the band before it
(R91).  A window broken by a pocket table commit alone, and the order of two bands, name row 255: that, and the order of the
checks, is the model's reading (log 18). -/
def Obligations.CommitsAreValidatedRowByRow : Prop :=
  ∀ (touched : Nat → Bool) (ts : Tables),
    let missing := RowMissing touched ts
    let unsound := RowUnsound touched ts
    (∀ t r, FirstPlace missing t r → structuralFault touched ts = some ⟨.missingRows, t, r⟩) ∧
    (∀ t r, (∀ t' r', ¬missing t' r') → FirstPlace unsound t r → structuralFault touched ts = some ⟨.structure_, t, r⟩) ∧
    ((∀ t r, ¬missing t r) → (∀ t r, ¬unsound t r) → structuralFault touched ts = none)

/-- A commit takes of a row the bytes that its layout lists, the others as 0 (R173), and clamps each numeric field into its range
(R168 step 1; the ranges of R49, R50, R52, R90, R92, R100 and R173): a status period of 1 to 19 is raised to 20 and 0 stays,
the backoff floor is clamped to the backoff level of its row as clamped, and the fields of a joint row follow its row window
mode; one of an unknown mode, which is refused, lists what UNIFORM does (log 41).  No byte outside those fields changes, and the row counts as adjusted where one does.  The rows are laid over the tables
in buffer order, the later of two rows for one place winning: a row laid is present and its table valid, and every other row
stays (R168 step 2, R169). -/
def Obligations.ClampedRowsLieInTheirRanges : Prop :=
  (∀ (e : BufferEntry), e.row < rowCount e.table →
    let joint := e.table = 2 ∧ e.row ≠ 0
    let listed := u8At e.bytes 8 = 1
    let long := if e.table = 1 then [11, 9, 16, 16, 16, 12, 14, 11, 5, 1].getD e.row 0
      else if e.table = 2 then (if e.row = 0 then 15 else if listed then 11 else 16)
      else if e.table = 4 ∧ e.row = 0 then 1 else 16
    let raw (i : Nat) : Nat := if i < long then u8At e.bytes i else 0
    let raw2 (o : Nat) : Int := raw o + 256 * raw (o + 1)
    let bytes := e.clamped.bytes
    let get (r : Row) (w o : Nat) : Int := if w = 1 then u8At r o else if w = 2 then u16At r o
      else if w = 3 then s24At r o else u32At r o
    let taken := padTo 16 (e.bytes.take long)
    -- the numeric fields of the row: first byte, width, and range
    let fields : List (Nat × Nat × Int × Int) :=
      if e.table = 1 then
        [[(0, 1, 1, 126), (1, 2, if raw2 1 = 0 then 0 else 20, 1000), (3, 2, 100, 2000), (5, 2, 0, 500), (7, 4, 0, 150000)],
        [(0, 1, 0, 127), (1, 1, 0, 127), (2, 1, 0, 127), (3, 1, 0, 127), (4, 1, 0, 127), (5, 1, 0, 127), (6, 1, 0, 50),
          (7, 2, 10, 200)],
        [(0, 2, 10, 1000), (2, 2, 10, 1000), (4, 2, 10, 1000), (6, 2, 10, 1000), (8, 2, 10, 1000), (10, 2, 10, 1000),
          (12, 2, 20, 500), (14, 2, 20, 500)],
        [(0, 2, 1, 8000), (2, 2, 1, 1000), (4, 2, 1, 1000), (6, 2, 1, 1500), (8, 2, 300, 1000), (10, 2, 0, 1500),
          (12, 2, 100, 3000), (14, 2, 0, 1000)],
        [(0, 2, 500, 950), (2, 2, 500, 950), (4, 2, 500, 950), (6, 2, 1, 1000), (8, 2, 1, 1000), (10, 2, 1, 1000),
          (12, 2, 0, 1000), (14, 2, 0, 1000)],
        [(0, 2, 20, 500), (2, 2, 20, 500), (4, 2, 20, 500), (6, 1, 10, 100), (7, 1, 2, 50), (8, 1, 0, 7), (9, 1, 1, 8),
          (10, 2, 1, 500)],
        [(0, 1, 1, 50), (1, 2, 500, 1000), (3, 2, 50, 2000), (5, 2, 100, 900), (7, 2, 100, clamp 100 900 (raw2 5)),
          (9, 2, 10, 500), (11, 2, 100, 5000), (13, 1, 10, 200)],
        [(0, 2, 0, 1000), (2, 2, 0, 8000), (4, 2, 0, 1000), (6, 2, 0, 1000), (9, 2, 1000, 20000)]].getD e.row []
      else if e.table = 2 ∧ e.row = 0 then
        [(1, 2, 1000, 30000), (3, 2, 10, 200), (5, 2, 50, 900), (7, 2, 50, 900), (9, 2, 50, 300), (11, 2, 50, 300),
          (13, 2, 300, 1000)]
      else if joint then
        [(0, 2, 500, 20000), (2, 2, 0, 200), (4, 2, 1, 8000), (6, 2, 0, 5000), (9, 1, 1, 16)] ++
        (if listed then [(10, 1, 0, 31)] else [(10, 2, 0, 20000), (12, 2, 1, 20000), (14, 2, 0, 1000)])
      else if e.table = 3 then
        [(0, 2, 0, 20000), (2, 2, 0, 1000), (4, 2, 0, 20000), (6, 2, 0, 1000), (8, 2, 0, 20000), (10, 2, 0, 1000),
          (12, 2, 0, 20000), (14, 2, 0, 1000)]
      else if e.row = 0 then []
      else [(0, 3, -20000, 150000), (3, 3, -20000, 150000), (7, 2, 0, 1000), (9, 2, 0, 8000), (11, 2, 0, 1000),
        (13, 2, 0, 1000)]
    (∀ i, u8At taken i = raw i) ∧ bytes.length = 16 ∧ e.clamped.table = e.table ∧ e.clamped.row = e.row ∧
    (∀ f ∈ fields, get bytes f.2.1 f.1 = clamp f.2.2.1 f.2.2.2 (get taken f.2.1 f.1) ∧ f.2.2.1 ≤ f.2.2.2) ∧
    (∀ i, (∀ f ∈ fields, i < f.1 ∨ f.1 + f.2.1 ≤ i) → u8At bytes i = raw i) ∧
    (e.adjusted = true ↔ bytes ≠ taken)) ∧
  (∀ (ts : Tables) (es : List BufferEntry) (t r : Nat), (∀ e ∈ es, 1 ≤ e.table ∧ e.table ≤ 4) → 1 ≤ t → t ≤ 4 →
    r < (ts.get t).rows.length →
    let here (e : BufferEntry) := e.table = t ∧ e.row = r
    (∀ before e after, es = before ++ e :: after → here e → (∀ x ∈ after, ¬here x) →
      ((ts.layAll es).get t).row r = e.bytes ∧ ((ts.layAll es).get t).present r = true) ∧
    ((∀ e ∈ es, ¬here e) → ((ts.layAll es).get t).row r = (ts.get t).row r ∧
      ((ts.layAll es).get t).present r = (ts.get t).present r) ∧
    (((ts.layAll es).get t).valid = true ↔ (ts.get t).valid = true ∨ ∃ e ∈ es, e.table = t))

/-- A commit that is refused at its completion changes no table: its rows leave the buffer and one reply names the cause (R168,
R169).  What the structural checks refuse is in CommitsAreValidatedRowByRow.  Where they pass, a commit of the sensor map in
service is refused IN_SERVICE, and one of the bar profile or pocket table in service with the bar not closed BAR_EXTENDED.
While a sequence runs none of those completes (R162); that it is then refused, with BAR_EXTENDED, is the model's reading
(log 39).  So is that BAR_EXTENDED goes before IN_SERVICE, with the table and row that each names (log 19), and the detail 0
of the reply (log 14). -/
def Obligations.RefusedCommitChangesNoTable : Prop :=
  ∀ (s : State) (f : Flight), s.flight = some f →
    let es := (s.buffer.take f.taken).map BufferEntry.clamped
    let refused (w : CommitFault) : State := { s with
      buffer := s.buffer.drop f.taken, flight := none
      replies := s.replies ++ [statusReply s 3 .refused w.cause w.table w.row 0] }
    (∀ w, structuralFault (touches es) (s.tables.layAll es) = some w → exec .commitCompletion s = .next (refused w)) ∧
    (structuralFault (touches es) (s.tables.layAll es) = none → s.governor ≠ .hold →
      (touches es 2 = true ∨ touches es 3 = true) →
      ¬(geometry s = .tracking ∧ s.extension ≤ Rig.retractTolerance s.tables.rig ∧ s.sequencer = .idle) →
      exec .commitCompletion s = .next (refused ⟨.barExtended, if touches es 2 then 2 else 3, 255⟩)) ∧
    (structuralFault (touches es) (s.tables.layAll es) = none → s.governor ≠ .hold →
      touches es 2 = false → touches es 3 = false → touchesRow es 1 1 = true →
      exec .commitCompletion s = .next (refused ⟨.inService, 1, 1⟩)) ∧
    (structuralFault (touches es) (s.tables.layAll es) = none → s.governor ≠ .hold →
      (touches es 2 = true ∨ touches es 3 = true) → touchesRow es 1 1 = true →
      geometry s = .tracking → s.extension ≤ Rig.retractTolerance s.tables.rig → s.sequencer = .idle →
      exec .commitCompletion s = .next (refused ⟨.inService, 1, 1⟩))

/-- A commit passes in HOLD where its structure does, and in GOVERN and STOPPED where besides it leaves the sensor map alone and
touches bar profile and pocket table only with the bar closed and no sequence running (R162; log 39).  It lays its rows over the tables all at once, clears its rows
and its mark, and answers OK or ADJUSTED on the channel in force after it (R168, R169; log 20).  A rig profile commit resets the
backoff (R119), loads the refresh timers where it is the first (R147) and sets the status timer as R176 says; nothing outside
the drive and tracking blocks changes else.  What sensors, joints and band take from new tables is in TableChangesFollowOn. -/
def Obligations.PassedCommitAppliesItsRows : Prop :=
  ∀ (s : State) (f : Flight), s.flight = some f →
    let taken := s.buffer.take f.taken
    let es := taken.map BufferEntry.clamped
    structuralFault (touches es) (s.tables.layAll es) = none →
    (s.governor = .hold ∨ (touchesRow es 1 1 = false ∧ (touches es 2 = true ∨ touches es 3 = true →
      geometry s = .tracking ∧ s.extension ≤ Rig.retractTolerance s.tables.rig ∧ s.sequencer = .idle))) →
    ∃ t, exec .commitCompletion s = .next t ∧
      let rig := t.tables.rig
      let period := Rig.statusPeriod rig
      Kept { s with
        tables := s.tables.layAll es, buffer := s.buffer.drop f.taken, flight := none, earlierMap := t.earlierMap
        channel := if touches es 1 then channelOf t.tables else s.channel
        replies := s.replies ++ [statusReply t 3 (if taken.any BufferEntry.adjusted then .adjusted else .ok) .none 255 255
          f.taken]
        statusTimer := if touches es 1 = false then s.statusTimer
          else if period = 0 then none
          else if s.tables.rig.valid = false ∨ Rig.statusPeriod s.tables.rig = 0 then some period
          else s.statusTimer } t ∧
      SameCounts s t ∧ t.machineFault = s.machineFault ∧
      (touches es 1 = true → t.backoff = 1000 ∧ t.stallTimer = none ∧ t.recoveryTimer = none) ∧
      (touches es 1 = true → s.tables.rig.valid = false → ∀ a, (t.delivery a).refresh = some (Rig.refreshPeriod rig)) ∧
      (touches es 1 = false → t.backoff = s.backoff ∧ t.stallTimer = s.stallTimer ∧ t.recoveryTimer = s.recoveryTimer ∧
        t.sensors = s.sensors) ∧
      (touches es 2 = false → touches es 3 = false → touches es 4 = false → touchesRow es 1 1 = false →
        t.joints = s.joints ∧ t.extension = s.extension ∧ t.band = s.band ∧ t.axes = s.axes ∧
        t.sequencer = s.sequencer ∧ t.keyTravel = s.keyTravel ∧ t.barFault = s.barFault)

/-- What follows on a commit (R169).  Sensor remapping, of a rig profile commit in HOLD (R46): where a rig profile was valid
before, the record of a quantity whose channel changes becomes ABSENT and no other changes; a change from FRESH or STALE
evaluates every axis (R44), one of ANGLE from FRESH clears the angle reference (R73), and one from FRESH raises SENSOR_STALE
with REMAPPED.  (Where several raise it, they stand in quantity order: the model's choice, log 35.)  A bar profile or pocket
table commit (R69, R85): A becomes 0 and every joint in use FREE on a bar that TRACKING shows closed, else UNKNOWN; TRACKING
allocates, HELD divides the extension in force, clamped to the new total stroke, among the joints, innermost (highest number)
first, and with no bar profile only A changes.  A bore plan commit makes the lookup of R96 and R97.  Report levels and
tolerances are read from the new tables (log 20). -/
def Obligations.TableChangesFollowOn : Prop :=
  ∀ (s : State) (f : Flight), s.flight = some f →
    let taken := s.buffer.take f.taken
    let es := taken.map BufferEntry.clamped
    let u := { s with tables := s.tables.layAll es, buffer := s.buffer.drop f.taken, flight := none }
    structuralFault (touches es) (s.tables.layAll es) = none →
    (s.governor = .hold → touches es 1 = true → ∃ t, exec .commitCompletion s = .next t ∧
      let changed (q : Quantity) := s.tables.rig.valid = true ∧
        u8At (s.tables.rig.row 1) q.code ≠ u8At (u.tables.rig.row 1) q.code
      (∀ q, changed q → t.sensor q = ⟨.absent, none, none, none, none, none⟩) ∧
      (∀ q, ¬changed q → t.sensor q = s.sensor q) ∧
      (∀ q a, changed q → (s.sensor q).state ≠ .absent → (t.axis a).lastEval = some s.millis) ∧
      (changed .angle → (s.sensor .angle).state = .fresh → t.angleRef = none) ∧
      (¬(changed .angle ∧ (s.sensor .angle).state = .fresh) → t.angleRef = s.angleRef) ∧
      (∀ q, changed q → (s.sensor q).state = .fresh → (∀ r, r ≠ q → changed r → (s.sensor r).state ≠ .fresh) →
        reportsAfter u .sensorStale q.code 2 <+: t.reports)) ∧
    (let answer := s.replies ++ [statusReply s 3 (if taken.any BufferEntry.adjusted then .adjusted else .ok) .none 255 255
        f.taken]
    let closed := geometry s = .tracking ∧ s.extension ≤ Rig.retractTolerance s.tables.rig ∧ s.sequencer = .idle
    let bar := u.tables.bar
    let used := (List.range (min (Bar.sections bar - 1) 4)).map (· + 1)
    touches es 1 = false →
    ((touches es 2 = true ∨ touches es 3 = true) → touches es 4 = false → (s.governor = .hold ∨ closed) →
      let lock : LockState := if s.tables.bar.valid = true ∧ geometry u = .tracking ∧
        s.extension ≤ Rig.retractTolerance s.tables.rig then .free else .unknown
      let rebuilt := used.map (fun j => match s.joints[j - 1]? with
        | some r => { r with lock := lock, lockedRow := none }
        | none => { offset := 0, lock := lock, lockedRow := none, nearest := 0, aligned := false })
      let e := clamp 0 ((used.map (Bar.stroke bar)).sum) s.extension
      let divided := used.map (fun j =>
        let outer := ((used.filter (fun k => j < k)).map (Bar.stroke bar)).sum
        let offset := clamp 0 (Bar.stroke bar j) (e - outer)
        ({ offset := offset, lock := .unknown, lockedRow := none, nearest := nearestRow u.tables j offset
           aligned := isAligned u.tables j offset } : Joint))
      (geometry u = .tracking → exec .commitCompletion s =
        .next { allocate { u with joints := rebuilt, keyTravel := 0 } with replies := answer }) ∧
      (geometry u = .held → exec .commitCompletion s =
        .next { u with joints := divided, extension := e, keyTravel := 0, replies := answer }) ∧
      (geometry u = .none → exec .commitCompletion s = .next { u with keyTravel := 0, replies := answer })) ∧
    (touches es 2 = false → touches es 3 = false → touches es 4 = true →
      exec .commitCompletion s = .next { bandCommit u es with replies := answer }))

/-- READ (R170): a row is shown in three data replies, of request kind 4 and parts 0x10, 0x11 and 0x12, that carry bytes 0 to 5, 6 to
11 and 12 to 15, and a status reply whose detail says what was shown; the PENDING view shows the newest row of the load buffer
for the place.  Bytes that the row's layout does not list are 0 (R173).  An unknown row, view, or PENDING view of a state table
is refused; the detail 0 of those replies, and the table and row they carry, are the model's reading (log 14), and so is that
an unknown row is BAD_ROW whatever the view (log 38).  A joint row of an unknown mode is shown whole (log 41). -/
def Obligations.ReadShowsTheWholeRow : Prop :=
  ∀ (s : State) (table row view : Byte), servesManagement s →
    let u := heard s .operator
    let active := listedRow table.toNat row.toNat ((s.tables.get table.toNat).row row.toNat)
    let place (e : BufferEntry) := e.table = table.toNat ∧ e.row = row.toNat
    let data (part : List Byte) : Frame := ⟨false, false, 9 * 128 + s.channel.toNat, 1 + part.length, 4 :: part⟩
    let shows (bytes : Row) (detail : Nat) : Prop := bytes.length = 16 ∧ exec (.read table row view) s = .next { u with
      replies := [data (0x10 :: bytes.take 6), data (0x11 :: (bytes.drop 6).take 6), data (0x12 :: bytes.drop 12),
        statusReply s 4 .ok .none table.toNat row.toNat detail] }
    let refuses (c : StatusCode) (w : ReplyCause) : Prop := exec (.read table row view) s = .next { u with
      replies := [statusReply s 4 c w table.toNat row.toNat 0] }
    (row.toNat < rowCount table.toNat →
      (view = 0 → shows active (if (s.tables.get table.toNat).present row.toNat then 0 else 3)) ∧
      (view = 1 → ∀ before e after, s.buffer = before ++ e :: after → place e → (∀ x ∈ after, ¬place x) →
        shows (listedRow table.toNat row.toNat e.bytes) 1) ∧
      (view = 1 → (∀ e ∈ s.buffer, ¬place e) → shows active 2) ∧
      (view ≠ 0 → view ≠ 1 → refuses .refused .structure_)) ∧
    (rowCount table.toNat ≤ row.toNat → row.toNat < stateRowCount table.toNat →
      (view = 0 → shows (stateRow u table.toNat row.toNat) 0) ∧
      (view = 1 → refuses .refused .conflict) ∧
      (view ≠ 0 → view ≠ 1 → refuses .refused .structure_)) ∧
    (rowCount table.toNat ≤ row.toNat → stateRowCount table.toNat ≤ row.toNat → refuses .badRow .none)

/-- The 46 rows of the seven state tables, field by field (R173, "State-table rows"): what each byte of a row carries, the bytes not
listed 0, and each row 16 bytes.  Multi-byte fields are little-endian, signed ones in two's complement.  Where a field's item
is absent the row shows R173's code of none for its width (log 15), a value that a rule says is shown as 0 as 0, and an idle
timer as 0 ms left; the tool depth held, the fields of an empty fault record that have no such code, and the codes of the
select state are the model's choices (log 37, log 40), as is the limit set while no rig profile has been committed (log 42).
The cap group among equal caps is log 28. -/
def Obligations.StateRowsShowTheirBytes : Prop :=
  ∀ s : State,
    let carries (table row long : Nat) (fields : List (Nat × Nat × Int)) : Prop :=
      let bytes := stateRow s table row
      bytes.length = 16 ∧ (∀ f ∈ fields, (bytes.drop f.1).take f.2.1 = leBytes f.2.1 f.2.2) ∧
      (∀ i, long ≤ i → u8At bytes i = 0)
    let left (t : Timer) : Int := (t.getD 0 : Nat)
    let byteOf (x : Option Nat) : Int := (x.getD 255 : Nat)
    let bit (b : Bool) (n : Nat) : Int := if b then n else 0
    let bits (l : List Bool) : Int := (l.foldr (fun b n => (if b then 1 else 0) + 2 * n) (0 : Nat) : Nat)
    let status (p : Port) : Int := if 255 < (s.port p).txErrors then 2
      else if 127 < (s.port p).txErrors ∨ 127 < (s.port p).rxErrors then 1 else 0
    let entry (i : Nat) : List (Nat × Nat × Int) :=
      [(2 * (i % 8), 1, byteOf (s.buffer[i]?.map BufferEntry.table)),
        (2 * (i % 8) + 1, 1, byteOf (s.buffer[i]?.map BufferEntry.row))]
    let limits (a : Axis) (up : Bool) : List (Nat × Nat × Int) :=
      let cap := leastCap (capsOf s a up)
      [(5, 2, cap.2), (7, 1, cap.1.code)] ++ match limitOf s a up with
        | some l => [(0, 2, l.value), (2, 2, (l.value * Rig.knee s.tables.rig a).tdiv 1000), (4, 1, l.term.code)]
        | none => [(0, 2, 0xFFFF), (2, 2, 0xFFFF), (4, 1, 0)]
    let counters (l : List Nat) : List (Nat × Nat × Int) := l.zipIdx.map (fun p => (2 * p.2, 2, (p.1 : Int)))
    let record (r : Option FaultRecord) : List (Nat × Nat × Int) := match r with
      | some r => [(0, 1, 1), (1, 1, r.kind.code), (2, 1, r.subject), (3, 4, r.depth.getD (-0x80000000)), (7, 4, r.extension),
        (11, 2, r.stamp.toNat), (13, 1, r.lost)]
      | none => [(0, 1, 0), (1, 1, 255), (2, 1, 255), (3, 4, -0x80000000), (7, 4, 0), (11, 2, 0xFFFF), (13, 1, 0)]
    let c := s.counters;
    carries 0x10 0 15 [(0, 1, s.governor.code), (1, 2, left s.quiet), (3, 1, s.channel.toNat), (4, 1, status .operator),
      (5, 1, min (s.port .operator).txErrors 255), (6, 1, min (s.port .operator).rxErrors 255), (7, 1, status .machine),
      (8, 1, min (s.port .machine).txErrors 255), (9, 1, min (s.port .machine).rxErrors 255), (10, 1, s.sequencer.code),
      (11, 2, left s.sequenceTimer), (13, 2, s.aborts.toNat)] ∧
    (∀ a : Axis, let r := s.axis a;
      carries 0x10 (1 + a.code) 14 [(0, 1, r.state.code), (1, 2, r.demand.getD (-0x8000)), (3, 1, byteOf r.lastAlive),
        (4, 2, r.governed), (6, 1, r.cause.code), (7, 2, left r.freshness), (9, 2, left r.ramp), (11, 1, r.exits.toNat),
        (12, 2, match r.lastEval with | some t => (t.toNat : Int) | none => 0xFFFF)]) ∧
    (∀ a : Axis, let d := s.delivery a;
      carries 0x10 (4 + a.code) 14 [(0, 1, d.state.code), (1, 1, d.sequence), (2, 2, d.value), (4, 1, d.mode.code),
        (5, 1, d.retry), (6, 1, d.missStreak), (7, 2, d.lastDelivered), (9, 1, byteOf (d.lastEcho.map (fun e => e.1.code))),
        (10, 2, (d.lastEcho.map Prod.snd).getD (-0x8000)), (12, 1, left d.echo), (13, 1, left d.refresh)]) ∧
    (∀ q : Quantity, let r := s.sensor q;
      carries 0x11 q.code 12 [(0, 1, r.state.code), (1, 4, r.value.getD 0),
        (5, 2, if r.value = none then 0 else if q = .angle then r.secondary.getD (-0x8000) else -0x8000),
        (7, 1, byteOf r.lastAlive), (8, 2, (r.stamp.getD 0).toNat), (10, 2, left r.timer)]) ∧
    carries 0x12 0 15 [(0, 1, (geometry s).code), (1, 1, bit s.mismatch 1), (2, 4, s.extension), (6, 4, remainingStroke s),
      (10, 2, s.keyTravel), (12, 2, s.angleRef.getD 0xFFFF),
      (14, 1, bits (s.joints.map (fun j => j.aligned && j.lock != .locked)))] ∧
    (∀ i < 4, carries 0x12 (i + 1) 6 (match s.joints[i]? with
      | some j => [(0, 2, j.offset), (2, 1, j.lock.code), (3, 1, byteOf j.lockedRow), (4, 1, j.nearest), (5, 1, bit j.aligned 1)]
      | none => [(0, 2, 0xFFFF), (2, 1, 255), (3, 1, 255), (4, 1, 255), (5, 1, 255)])) ∧
    carries 0x12 5 5 [(0, 4, s.depthHeld.getD 0), (4, 1, bit s.depthHeld.isSome 1)] ∧
    (∀ p ∈ [(0, Axis.rotary, true), (1, .rotary, false), (2, .crowd, true), (3, .crowd, false), (4, .hoist, false),
        (5, .hoist, true)], carries 0x13 p.1 8 (limits p.2.1 p.2.2)) ∧
    carries 0x13 6 9 [(0, 2, s.backoff), (2, 1, bit s.stallTimer.isSome 1), (3, 2, left s.stallTimer),
      (5, 2, left s.recoveryTimer), (7, 1, byteOf s.band), (8, 1, (bandInForce s).ground)] ∧
    (let p := c.port.operator;
      carries 0x14 0 16 (counters [p.forwarded, p.drops, p.foreign, p.format, p.busOff, c.part.skippedSegments,
        c.part.reportsLost, c.part.stalls])) ∧
    (let p := c.port.machine;
      carries 0x14 1 12 (counters [p.forwarded, p.drops, p.foreign, p.format, p.busOff, c.part.managementDrops])) ∧
    (∀ a : Axis, let x := c.axis.get a
      let d := c.delivery.get a;
      carries 0x14 (2 + 2 * a.code) 16 (counters [x.accepted, x.checkFailures, x.duplicates, x.gaps, x.clamped, x.notCentred,
        d.superseded, d.retries]) ∧
      carries 0x14 (3 + 2 * a.code) 8 (counters [d.misses, d.lateEchoes, d.driverNeutral, d.checkFailures])) ∧
    (∀ q : Quantity, let x := c.quantity.get q;
      carries 0x14 (8 + q.code) 12 (counters [x.accepted, x.checkFailures, x.duplicates, x.gaps, x.rangeErrors, x.degraded])) ∧
    carries 0x15 0 14 (record s.machineFault) ∧ carries 0x15 1 14 (record s.barFault) ∧
    carries 0x16 0 10 [(0, 1, bit s.selection.isSome 1), (1, 1, byteOf (s.selection.map Selection.table)),
      (2, 1, byteOf (s.selection.map Selection.row)), (3, 1, byteOf (s.selection.map (fun x => x.check.toNat))),
      (4, 1, byteOf (s.selection.map Selection.next)), (5, 1, s.loadFlags.toNat), (6, 1, s.buffer.length),
      (7, 1, bit s.flight.isSome 1), (8, 1, ((s.flight.map Flight.taken).getD 0 : Nat)),
      (9, 1, bits [s.tables.rig.valid, s.tables.bar.valid, s.tables.pocket.valid, s.tables.bore.valid])] ∧
    (∀ i < 8, carries 0x16 1 16 (entry i) ∧ carries 0x16 2 16 (entry (8 + i))) ∧
    carries 0x16 3 6 [(0, 6, bits ((List.range 10).map s.tables.rig.present ++ (List.range 5).map s.tables.bar.present ++
      (List.range 8).map s.tables.pocket.present ++ (List.range 25).map s.tables.bore.present))]

/-- CLEAR_FAULTS (R132, R161, R178): every axis in FAULT goes to NEUTRAL at 0, the exit-cause sets, miss streaks, abort-cause set and
both fault records are emptied, and OK answers; the drive of an axis that leaves FAULT gets 0 and NEUTRAL; nothing else
changes. -/
def Obligations.ClearFaultsEmptiesTheFaults : Prop :=
  ∀ s : State, servesManagement s →
    let cleared (a : Axis) : DeliveryRecord := { s.delivery a with missStreak := 0 }
    ∃ t, exec .clearFaults s = .next t ∧
      (∀ a, (s.axis a).state = .fault →
        t.axis a = { s.axis a with state := .neutral, governed := 0, ramp := none, exits := 0 } ∧
        t.delivery a = (if isBusOff s .machine then cleared a else (cleared a).handed 0 .neutral)) ∧
      (∀ a, (s.axis a).state ≠ .fault → t.axis a = { s.axis a with exits := 0 } ∧ t.delivery a = cleared a) ∧
      t.aborts = 0 ∧ t.sequencer = s.sequencer ∧ t.sequenceTimer = s.sequenceTimer ∧ SameCounts s t ∧
      SameTracking { heard s .operator with
        machineFault := none, barFault := none
        replies := [statusReply s 5 .ok .none 255 255 s.governor.code] } t

/-! ## Timers -/

/-- The status timer composes pages A, B and C of the state at that moment in the status slot, replaces the set that waits, and is
loaded again, idle for a period of 0 (R176); a page of the old set in transmission removes nothing from the new one, and any
other transmission stays (log 27).  The three depth bytes of page B are 0 while the tool depth held is undefined: the model's
choice (log 37). -/
def Obligations.StatusExpiryComposesThePages : Prop :=
  ∀ s : State, s.resetLow = false → s.statusTimer = some 0 →
    let page (data : List Byte) : Frame := ⟨false, false, 10 * 128 + s.channel.toNat, 8, data⟩
    let bit (b : Bool) (n : Nat) : Nat := if b then n else 0
    ∃ a b c : List Byte, exec .statusTimerExpiry s = .next { s with
        statusSlot := [page a, page b, page c]
        statusTimer := if Rig.statusPeriod s.tables.rig = 0 then none else some (Rig.statusPeriod s.tables.rig)
        ports := { s.ports with operator := { s.ports.operator with
          sending := s.ports.operator.sending.map
            (fun x => if x.source = .status then { x with source := .replaced } else x) } } } ∧
      a.length = 8 ∧ b.length = 8 ∧ c.length = 8 ∧
      u8At a 0 = 1 ∧ u8At a 1 = s.governor.code ∧
      (∀ x : Axis, u8At a (2 + x.code) = (s.axis x).state.code + 8 * (s.axis x).cause.code) ∧
      u8At a 5 = s.band.getD 255 % 256 ∧ u8At a 6 = (bandInForce s).ground % 256 ∧ u8At a 7 = 0 ∧
      u8At b 0 = 2 + bit s.depthHeld.isNone 16 + bit (!s.tables.bar.valid) 32 ∧
      (∀ z, s.depthHeld = some z → -8388608 ≤ z → z < 8388608 → s24At b 1 = z) ∧
      (s.depthHeld = none → s24At b 1 = 0) ∧
      (-8388608 ≤ s.extension → s.extension < 8388608 → s24At b 4 = s.extension) ∧
      (∀ i < 8, (u8At b 7).testBit i = (s.joints[i]?).any (fun j => j.aligned && j.lock != .locked)) ∧
      u8At c 0 = 3 ∧
      (∀ i < 4, (s.joints[i]? = none → u8At c (i + 1) = 0) ∧
        ∀ j, s.joints[i]? = some j → u8At c (i + 1) = (j.lock.code + 4 * j.lockedRow.getD 0) % 256) ∧
      (u16At c 5 : Int) = s.backoff % 65536 ∧
      u8At c 7 = (geometry s).code + bit s.mismatch 4 + bit s.flight.isSome 8 + bit (s.loadFlags != 0) 16 +
        32 * s.sequencer.code

/-- The operator freshness timer and the ramp timer (R128): ACTIVE at G not 0 enters RAMPDOWN; ACTIVE at 0 and a ramp that reaches 0
enter NEUTRAL with STALE; a ramp step lowers the magnitude of G by the ramp step, hands the new G over, and is no evaluation.
The step that brings G to 0 hands 0 over with mode ACTIVE, and the entry into NEUTRAL hands it over with mode NEUTRAL (R121). -/
def Obligations.StaleOperatorRampsDown : Prop :=
  ∀ (s : State) (a : Axis), s.resetLow = false →
    let r := s.axis a
    let step := Rig.rampStep s.tables.rig
    let neutral : AxisRecord :=
      { r with state := .neutral, governed := 0, ramp := none, exits := addExit r.exits .stale }
    (r.freshness = some 0 →
      (r.state ≠ .active → exec (.operatorFreshnessExpiry a) s = .next (s.setAxis a { r with freshness := none })) ∧
      (r.state = .active → r.governed ≠ 0 → exec (.operatorFreshnessExpiry a) s = .next
        (report (s.setAxis a { r with
          state := .rampdown, freshness := none, ramp := some (Rig.rampPeriod s.tables.rig) }) .axisState a.code 2)) ∧
      (r.state = .active → r.governed = 0 → exec (.operatorFreshnessExpiry a) s = .next
        (produce (report (s.setAxis a { neutral with freshness := none }) .axisState a.code 0) a 0 .neutral false))) ∧
    (r.ramp = some 0 → r.state = .rampdown →
      (step < |r.governed| → ∃ g, |g| = |r.governed| - step ∧ 0 < g * r.governed ∧
        exec (.rampTimerExpiry a) s = .next (produce (s.setAxis a { r with
          governed := g, ramp := some (Rig.rampPeriod s.tables.rig) }) a g .active false)) ∧
      (|r.governed| ≤ step →
        let stepped := produce (s.setAxis a { r with governed := 0, ramp := none }) a 0 .active false
        exec (.rampTimerExpiry a) s = .next
          (produce (report (stepped.setAxis a neutral) .axisState a.code 0) a 0 .neutral false)))

/-- The stall timer (R116): the backoff factor falls to its level or to the floor, the stall is counted and reported, both timers are
loaded, and CROWD alone is evaluated.  The recovery timer (R117): the factor rises by the step, at most to 1000, where
BACKOFF_RECOVERED is raised and the timer stays idle. -/
def Obligations.StallAndRecoveryMoveTheBackoff : Prop :=
  ∀ s : State, s.resetLow = false →
    let b := max ((s.backoff * Rig.backoffLevel s.tables.rig).tdiv 1000) (Rig.backoffFloor s.tables.rig)
    let c := min 1000 (s.backoff + Rig.recoveryStep s.tables.rig)
    let v := evaluated { s with backoff := b } .crowd
    (s.stallTimer = some 0 → ∃ t, exec .stallTimerExpiry s = .next t ∧
      SameSequence { s with
        backoff := b, recoveryTimer := some (Rig.recoveryPeriod s.tables.rig)
        stallTimer := some (Rig.stallTime s.tables.rig) } t ∧
      SameCounts (s.countPart (fun c => { c with stalls := bump c.stalls })) t ∧
      t.reports = reportsAfter s .stall (bandIndex s) b ∧
      t.axis .crowd = { s.axis .crowd with governed := v.1, cause := v.2, lastEval := some s.millis } ∧
      t.delivery .crowd = (produce s .crowd v.1 (s.axis .crowd).state.mode false).delivery .crowd ∧
      (∀ a, a ≠ .crowd → t.axis a = s.axis a ∧ t.delivery a = s.delivery a)) ∧
    (s.recoveryTimer = some 0 → c < 1000 → exec .recoveryTimerExpiry s = .next { s with
      backoff := c, recoveryTimer := some (Rig.recoveryPeriod s.tables.rig) }) ∧
    (s.recoveryTimer = some 0 → c = 1000 → exec .recoveryTimerExpiry s = .next
      (report { s with backoff := 1000, recoveryTimer := none } .backoffRecovered 0 1000))

/-- The sequence timer (R160): the running sequence aborts with TIMEOUT and ROTARY is handed back with stored demand 0, to ACTIVE at 0,
or to NEUTRAL with STALE where its operator is stale (R129); that the NEUTRAL too stores the demand is the model's reading
(log 30). -/
def Obligations.SequenceTimeoutHandsRotaryBack : Prop :=
  ∀ s : State, s.resetLow = false → s.sequenceTimer = some 0 → s.sequencer ≠ .idle →
    ∃ t, exec .sequenceTimerExpiry s = .next t ∧ t.sequencer = .idle ∧ t.sequenceTimer = none ∧
      t.aborts = addAbort s.aborts .timeout ∧ HandedBackAtZero s t ∧
      (∀ a, a ≠ .rotary → t.axis a = s.axis a ∧ t.delivery a = s.delivery a) ∧
      reportsAfter s .autoAborted (if s.sequencer = .releasing then 1 else 0) 6 <+: t.reports ∧ SameTracking s t ∧
      SameCounts s t

/-! ## Reports and fault records -/

/-- An event handed over is dropped at level 0, becomes a REPORT frame at the tail of the queue, or is lost at a queue of 16 (R174,
R175); nothing else changes.  A fault fills an empty record and counts at a filled one (R177). -/
def Obligations.EventsAndFaultsAreRecorded : Prop :=
  (∀ (s : State) (k : EventKind) (subject : Nat) (detail : Int),
    let level := if s.tables.rig.valid then Rig.reportLevel s.tables.rig k.code
      else if k = .stopSeen ∨ k = .axisFault ∨ k = .lockSlip ∨ k = .busState then 3 else 1
    (level = 0 → report s k subject detail = s) ∧
    (level ≠ 0 → s.reports.length < 16 → report s k subject detail = { s with
      reports := s.reports ++ [⟨false, false, (8 - level) * 128 + s.channel.toNat, 6,
        [BitVec.ofNat 8 k.code, BitVec.ofNat 8 subject] ++ byte2 detail ++ byte2 s.millis.toNat⟩] }) ∧
    (level ≠ 0 → 16 ≤ s.reports.length → report s k subject detail = { s with
      counters := { s.counters with
        part := { s.counters.part with reportsLost := bump s.counters.part.reportsLost } } })) ∧
  (∀ (s : State) (k : FaultKind) (subject : Nat),
    let fresh : FaultRecord := ⟨k, subject, s.depthHeld, if s.tables.bar.valid then s.extension else 0, s.millis, 0⟩
    let machine := k = .driverLost ∨ k = .driverFault ∨ k = .busOff
    (machine → s.machineFault = none → capture s k subject = { s with machineFault := some fresh }) ∧
    (¬machine → s.barFault = none → capture s k subject = { s with barFault := some fresh }) ∧
    (∀ r, machine → s.machineFault = some r →
      capture s k subject = { s with machineFault := some { r with lost := if r.lost < 255 then r.lost + 1 else 255 } }) ∧
    (∀ r, ¬machine → s.barFault = some r →
      capture s k subject = { s with barFault := some { r with lost := if r.lost < 255 then r.lost + 1 else 255 } }))

/-! ## Geometry, locks and bands -/

/-- The nearest row (R54, R55). -/
def Obligations.NearestRowIsNearest : Prop :=
  (∀ (first pitch e : Int) (rows : Nat), 0 < pitch → 1 ≤ rows →
    (nearestUniform first pitch rows e : Int) =
      clamp 0 (rows - 1) (if e < first then 0 else (e - first + pitch / 2) / pitch) ∧
    (∀ k : Nat, k + 1 < rows → 2 ∣ pitch → nearestUniform first pitch rows (first + k * pitch + pitch / 2) = k + 1) ∧
    (e ≤ first → nearestUniform first pitch rows e = 0) ∧
    (first + (rows - 1) * pitch ≤ e → nearestUniform first pitch rows e = rows - 1)) ∧
  nearestUniform 2000 3000 4 800 = 0 ∧ nearestUniform 2000 3000 4 6400 = 1 ∧ nearestUniform 2000 3000 4 11000 = 3 ∧
  (∀ (position : Nat → Int) (rows : Nat) (e : Int), 1 ≤ rows →
    nearestListed position rows e < rows ∧
    (∀ k < rows, |position (nearestListed position rows e) - e| ≤ |position k - e|) ∧
    (∀ k < nearestListed position rows e, |position (nearestListed position rows e) - e| < |position k - e|)) ∧
  nearestListed (fun k => [1200, 4500, 8000, 11500].getD k 0) 4 4380 = 1

/-- Key travel at an accepted ANGLE sample (R74, R75).  In TRACKING the first sample gives the reference; a later one adds the
rotation the shorter way round, clamped, replaces the reference, and makes the lock test and then the release test (R77); in
HELD and NONE it replaces the reference and nothing else changes.  The lock test makes a lock event where A has reached the
lock angle and a joint that is not LOCKED is aligned; else the release test makes a release event where A has reached minus the
release angle and a joint is not FREE. -/
def Obligations.RotationIsCountedTheShorterWay : Prop :=
  (∀ s : State,
    let angle := sensorValue s .angle
    (geometry s ≠ .tracking → kellyAngle s = { s with angleRef := some angle }) ∧
    (geometry s = .tracking → s.angleRef = none → kellyAngle s = { s with angleRef := some angle }) ∧
    (∀ r, geometry s = .tracking → s.angleRef = some r → ∃ turn, kellyAngle s =
        keyTests { s with keyTravel := clamp (-3600) 3600 (s.keyTravel + turn), angleRef := some angle } ∧
      -1800 ≤ turn ∧ turn ≤ 1799 ∧ (3600 : Int) ∣ angle - r - turn)) ∧
  (∀ s : State,
    let locks := Bar.lockAngle s.tables.bar ≤ s.keyTravel ∧ ∃ j ∈ s.joints, j.aligned = true ∧ j.lock ≠ .locked
    let releases := s.keyTravel ≤ - Bar.releaseAngle s.tables.bar ∧ ∃ j ∈ s.joints, j.lock ≠ .free
    (locks → keyTests s = lockEvent s) ∧ (¬locks → releases → keyTests s = releaseEvent s) ∧
    (¬locks → ¬releases → keyTests s = s)) ∧
  rotation 3550 50 = 100 ∧ rotation 50 3550 = -100

/-- One allocation, from any state whose CROWD is not in AUTO, which it never is.  E_raw is tested against the range and clamped (R58, R62).  A free extension
below minus the slip tolerance is a lock slip (R63, R83): LOCKED joints become UNKNOWN, LOCK_SLIP goes to the reports and the
bar fault record, and CROWD enters FAULT and is evaluated (R130, R134; log 25).  MISMATCH is decided by the range and the
over-extension test, with its event and fault on entry and its event on leaving (R60).  The free extension is given to the
joints that are not LOCKED, innermost first, and the offsets sum to the extension in force (R64, R65).  At the retract
tolerance or less every joint becomes FREE at 0, with JOINTS_RELEASED where one was not, and RELEASING completes (R66, R159).
Nearest rows and aligned flags follow the offsets; a change of the aligned set clears key travel, and one that empties it
aborts LOCKING (R67, R160).  The events stand in this order (R68, R84).  (In NEUTRAL of a hand-back log 30.) -/
def Obligations.AllocationFollowsItsSteps : Prop :=
  ∀ s : State,
    let t := allocate s
    let rig := s.tables.rig
    let bar := s.tables.bar
    -- steps 1 to 3: the raw extension, the range test, and the lock slip
    let tolerance := Rig.geometryTolerance rig
    let slip := Rig.slipTolerance rig
    let total := ((List.range (min (Bar.sections bar - 1) 4)).map (fun i => Bar.stroke bar (i + 1))).sum
    let raw := (s.sensor .payout).value.getD 0 - Rig.ropeOffset rig + (s.sensor .head).value.getD 0 - Bar.retracted bar
    let range := raw < - tolerance ∨ total + tolerance < raw
    let held (js : List Joint) : Int := (js.map (fun j => if j.lock = .locked then j.offset else 0)).sum
    let deficit := held s.joints - clamp 0 total raw
    let slips := slip < deficit
    let js := if slips
      then s.joints.map (fun j => if j.lock = .locked then { j with lock := .unknown, lockedRow := none } else j)
      else s.joints
    -- steps 4 to 6: the over-extension test and the division; `room i` is what the joint of index `i` can be given
    let room (i : Nat) : Int := if (js[i]?).any (fun j => j.lock != .locked) then Bar.stroke bar (i + 1) else 0
    let reach := ((List.range js.length).map room).sum
    let free := clamp 0 total raw - held js
    let given := clamp 0 reach free
    let inner (i : Nat) := (((List.range js.length).filter (fun k => i < k)).map room).sum
    let beyond := reach + slip < free
    let mismatch := range ∨ beyond
    -- step 7: the retraction reset
    let closes := held js + given ≤ Rig.retractTolerance rig
    let offset (i : Nat) (j : Joint) : Int :=
      if closes then 0 else if j.lock = .locked then j.offset else clamp 0 (room i) (given - inner i)
    let set (l : List Joint) := l.map (fun j => j.aligned && j.lock != .locked)
    t.joints.length = s.joints.length ∧
    (∀ (i : Nat) (j : Joint), js[i]? = some j →
      let o := offset i j
      let row := nearestRow s.tables (i + 1) o
      t.joints[i]? = some
        { offset := o, lock := if closes then .free else j.lock, lockedRow := if closes then none else j.lockedRow
          nearest := row
          aligned := decide (Rig.retractTolerance rig < o ∧ |o - rowPosition s.tables (i + 1) row| ≤ Bar.rowTolerance bar) }) ∧
    t.extension = (if closes then 0 else held js + given) ∧ (t.joints.map Joint.offset).sum = t.extension ∧
    t.mismatch = decide mismatch ∧
    t.keyTravel = (if slips ∨ closes ∨ set t.joints ≠ set s.joints then 0 else s.keyTravel) ∧
    ((s.axis .crowd).state ≠ .auto →
      let crowd := s.axis .crowd
      let slipped := s.joints.countP (fun j => j.lock == .locked)
      let freed := js.countP (fun j => j.lock != .free)
      let subject := if range then 0 else 1
      let distance := if raw < - tolerance then - tolerance - raw
        else if total + tolerance < raw then raw - (total + tolerance) else free - (reach + slip)
      let slipTold := report s .lockSlip slipped (min deficit 32767)
      let faulted := if ¬slips then s
        else if crowd.state = .fault ∧ hasExit crowd.exits .lockSlip = true then slipTold
        else report slipTold .axisFault 1 6
      let decided := if mismatch ∧ s.mismatch = false then report faulted .geometryMismatch subject (min distance 32767)
        else if ¬mismatch ∧ s.mismatch = true then report faulted .geometryRestored 0 0 else faulted
      let told := if closes ∧ freed ≠ 0 then report decided .jointsReleased 1 freed else decided
      let record := if slips then FaultRecord.offer s.barFault (freshFault s .lockSlip slipped) else s.barFault
      let done := s.sequencer = .releasing ∧ closes
      let lost := s.sequencer = .locking ∧ set t.joints ≠ set s.joints ∧ ∀ b ∈ set t.joints, b = false
      t.barFault = (if mismatch ∧ s.mismatch = false
        then FaultRecord.offer record (freshFault s .geometryMismatch subject) else record) ∧
      (slips → t.axis .crowd = { crowd with
          state := .fault, governed := 0, cause := .none, lastEval := some s.millis
          ramp := if crowd.state = .fault then crowd.ramp else none, exits := addExit crowd.exits .lockSlip } ∧
        t.delivery .crowd = (produce s .crowd 0 .neutral false).delivery .crowd) ∧
      (¬slips → t.axis .crowd = crowd ∧ t.delivery .crowd = s.delivery .crowd) ∧
      t.axis .hoist = s.axis .hoist ∧ t.delivery .hoist = s.delivery .hoist ∧
      (done → t.sequencer = .idle ∧ t.sequenceTimer = none ∧ t.aborts = s.aborts ∧ HandedBackAtZero s t ∧
        reportsAfter told .autoDone 1 freed <+: t.reports) ∧
      (lost → t.sequencer = .idle ∧ t.sequenceTimer = none ∧ t.aborts = addAbort s.aborts .alignmentLost ∧
        HandedBackAtZero s t ∧ reportsAfter told .autoAborted 0 5 <+: t.reports) ∧
      (¬done → ¬lost → t.sequencer = s.sequencer ∧ t.sequenceTimer = s.sequenceTimer ∧ t.aborts = s.aborts ∧
        t.axis .rotary = s.axis .rotary ∧ t.delivery .rotary = s.delivery .rotary ∧ t.reports = told.reports) ∧
      SameTracking { s with
        joints := t.joints, extension := t.extension, mismatch := t.mismatch, keyTravel := t.keyTravel
        barFault := t.barFault } t ∧
      SameCounts s t)

/-- A lock event locks every joint of the aligned set at its nearest row, with its offset at that row, and no other joint; A becomes
0, the offsets sum to the extension in force, and JOINT_LOCKED is raised for each, in ascending joint number (R78).  In LOCKING
it completes the sequence (R79, R159): AUTO_DONE with the number of joints, and ROTARY is handed back with demand 0 (R129; in
NEUTRAL log 30); else it changes no axis. -/
def Obligations.LockEventLocksTheAlignedSet : Prop :=
  ∀ s : State,
    let t := lockEvent s
    let locks (p : Nat × Joint) : Bool := p.2.aligned && p.2.lock != .locked
    let set := (numbered s.joints).filter locks
    let told := set.foldl (fun u p => report u .jointLocked p.1 p.2.nearest) s
    t.keyTravel = 0 ∧ t.extension = (t.joints.map Joint.offset).sum ∧ t.joints.length = s.joints.length ∧
    (∀ (i : Nat) (r : Joint), s.joints[i]? = some r → r.aligned = true ∧ r.lock ≠ .locked →
      ∃ u, t.joints[i]? = some u ∧ u.lock = .locked ∧ u.lockedRow = some r.nearest ∧
        u.offset = rowPosition s.tables (i + 1) r.nearest) ∧
    (∀ (i : Nat) (r : Joint), s.joints[i]? = some r → ¬(r.aligned = true ∧ r.lock ≠ .locked) →
      ∃ u, t.joints[i]? = some u ∧ u.lock = r.lock ∧ u.lockedRow = r.lockedRow ∧ u.offset = r.offset) ∧
    (s.sequencer = .locking → t.sequencer = .idle ∧ t.sequenceTimer = none ∧ HandedBackAtZero s t ∧
      reportsAfter told .autoDone 0 set.length <+: t.reports) ∧
    (s.sequencer ≠ .locking → t.sequencer = s.sequencer ∧ t.sequenceTimer = s.sequenceTimer ∧ t.axes = s.axes ∧
      t.deliveries = s.deliveries ∧ t.reports = told.reports) ∧
    SameTracking { s with joints := t.joints, extension := t.extension, keyTravel := 0 } t ∧ t.aborts = s.aborts ∧
    (∀ a, a ≠ .rotary → t.axis a = s.axis a ∧ t.delivery a = s.delivery a) ∧ SameCounts s t

/-- A release event makes every joint FREE, with no locked row and its offset kept; A becomes 0 and JOINTS_RELEASED names how many
were LOCKED or UNKNOWN (R80).  CROWD is evaluated (R81), and in RELEASING the sequence completes: AUTO_DONE with that number,
and ROTARY is handed back with demand 0 (R129, R159; in NEUTRAL log 30).  The order of the two is free (log 10). -/
def Obligations.ReleaseEventFreesEveryJoint : Prop :=
  ∀ s : State,
    let t := releaseEvent s
    let n := s.joints.countP (fun j => j.lock != .free)
    let u := { s with joints := t.joints, keyTravel := 0, choices := t.choices }
    t.joints.length = s.joints.length ∧
    (∀ (i : Nat) (r : Joint), s.joints[i]? = some r → t.joints[i]? = some
      { offset := r.offset, lock := .free, lockedRow := none, nearest := nearestRow s.tables (i + 1) r.offset
        aligned := isAligned s.tables (i + 1) r.offset }) ∧
    SameTracking u t ∧ SameCounts s t ∧ t.aborts = s.aborts ∧
    t.axis .hoist = s.axis .hoist ∧ t.delivery .hoist = s.delivery .hoist ∧
    t.axis .crowd = { s.axis .crowd with
      governed := (t.axis .crowd).governed, cause := (t.axis .crowd).cause, lastEval := some s.millis } ∧
    (s.sequencer ≠ .releasing → t.sequencer = s.sequencer ∧ t.sequenceTimer = s.sequenceTimer ∧
      t.choices = s.choices ∧ t.reports = reportsAfter s .jointsReleased 0 n ∧ EvaluatedIn u s t .crowd ∧
      t.axis .rotary = s.axis .rotary ∧ t.delivery .rotary = s.delivery .rotary) ∧
    (s.sequencer = .releasing → t.sequencer = .idle ∧ t.sequenceTimer = none ∧ HandedBackAtZero s t ∧
      reportsAfter (report s .jointsReleased 0 n) .autoDone 1 n <+: t.reports)

/-- A lookup at a sample keeps a plan band to h beyond its bounds, and otherwise finds the first band in use that contains the depth,
which from the default band must also pass its entry test (R94).  A bore plan commit looks up the depth of a FRESH PAYOUT, else
the depth held, in the plan without hysteresis (R96).  A change of the band in force, and at a commit the same plan band with
its row applied, raises BAND_ENTERED with the index and class (255 for the default band) and evaluates every axis (R97); else
nothing changes. -/
def Obligations.BandLookupHasHysteresis : Prop :=
  (∀ (ts : Tables) (z : Int), ts.bore.valid = true →
    let h := Rig.hysteresis ts.rig
    let inside (k : Nat) := Bore.top ts.bore k ≤ z ∧ z < Bore.bottom ts.bore k
    let first (k : Nat) := k < Bore.count ts.bore ∧ inside k ∧ ∀ j < k, ¬inside j
    let enters (k : Nat) := if (Bore.bottom ts.bore k - Bore.top ts.bore k) / 2 < h then inside k
      else Bore.top ts.bore k + h ≤ z ∧ z < Bore.bottom ts.bore k - h
    (∀ i, Bore.top ts.bore i - h ≤ z → z < Bore.bottom ts.bore i + h → lookupBand ts (some i) z = some i) ∧
    (∀ i, ¬(Bore.top ts.bore i - h ≤ z ∧ z < Bore.bottom ts.bore i + h) →
      (∀ k, lookupBand ts (some i) z = some k ↔ first k)) ∧
    (∀ k, lookupBand ts none z = some k ↔ first k ∧ enters k)) ∧
  (∀ (s : State) (es : List BufferEntry),
    let entered (band : Option Nat) : State :=
      let class_ := match band with
        | none => u8At (s.tables.rig.row 9) 0
        | some i => u8At (s.tables.bore.row (i + 1)) 6
      evaluateAll (report { s with band := band } .bandEntered (band.getD 255) class_)
    let z := (s.sensor .payout).value.getD 0 - Rig.ropeOffset s.tables.rig
    let sampled := lookupBand s.tables s.band z
    let depth := if s.tables.rig.valid = true then (if (s.sensor .payout).state = .fresh then some z else s.depthHeld) else none
    let bore := s.tables.bore
    let found (k : Nat) := ∃ x, depth = some x ∧ k < Bore.count bore ∧ Bore.top bore k ≤ x ∧ x < Bore.bottom bore k ∧
      ∀ j < k, ¬(Bore.top bore j ≤ x ∧ x < Bore.bottom bore j)
    let applied (k : Nat) := ∃ e ∈ es, e.table = 4 ∧ e.row = k + 1
    (s.tables.rig.valid = true → sampled ≠ s.band → bandPayout s = entered sampled) ∧
    (s.tables.rig.valid = false ∨ sampled = s.band → bandPayout s = s) ∧
    (∀ k, found k → s.band ≠ some k ∨ applied k → bandCommit s es = entered (some k)) ∧
    (∀ k, found k → s.band = some k → ¬applied k → bandCommit s es = s) ∧
    ((∀ k, ¬found k) → bandCommit s es = if s.band = none then s else entered none))

/-! ## The drive envelope -/

/-- The band in force (R93) and the limits (R102 to R105, R112).  The ROTARY torque limit is the least of the torque ratings of the
joints drawn out past the retract tolerance, derated in the overlap zone (R53), the band's torque cap and the rig's maximum;
its reverse is scaled by the reverse factor.  The CROWD pull-down limit is the least of the capacities of the joints drawn out,
in HELD of every joint's friction capacity besides, the band's crowd cap and the rig's maximum, times b, and where b is from 0
to 1000 it never exceeds one of them.  Of equal terms JOINT goes before BAND before RIG, and BACKOFF is named where b lowers the
least (R112).  The directed load is the measured value along the motion, not below 0 (R102, R108).  That the terms of a rig
profile not yet committed read as 0 is the model's choice (log 42). -/
def Obligations.LimitsAreTheLeastOfTheirTerms : Prop :=
  ∀ s : State,
    let rig := s.tables.rig
    let bar := s.tables.bar
    let bore := s.tables.bore
    let band := bandInForce s
    let out (p : Nat × Joint) := p ∈ numbered s.joints ∧ Rig.retractTolerance rig < p.2.offset
    let torque (c : LimitCause) (v : Int) :=
      (c = .joint ∧ ∃ p, out p ∧ v = if Bar.stroke bar p.1 - Bar.overlapZone bar p.1 ≤ p.2.offset
        then (Bar.torqueRating bar p.1 * Bar.overlapDerate bar).tdiv 1000 else Bar.torqueRating bar p.1) ∨
      (c = .band ∧ v = band.torqueCap) ∨ (c = .rig ∧ v = Rig.torqueMax rig)
    let crowd (c : LimitCause) (v : Int) :=
      (c = .joint ∧ geometry s ≠ .none ∧ ∃ p, out p ∧ v = if p.2.lock = .locked
        then rowCapacity s.tables p.1 (p.2.lockedRow.getD 0) else Bar.friction bar p.1) ∨
      (c = .joint ∧ geometry s = .held ∧ ∃ j, 1 ≤ j ∧ j ≤ 4 ∧ j < Bar.sections bar ∧ v = Bar.friction bar j) ∨
      (c = .band ∧ v = band.crowdCap) ∨ (c = .rig ∧ v = Rig.crowdDownMax rig)
    let rank (c : LimitCause) : Nat := if c = .joint then 0 else if c = .band then 1 else 2
    let least (term : LimitCause → Int → Prop) (c : LimitCause) (v : Int) :=
      term c v ∧ ∀ c' v', term c' v' → v < v' ∨ (v = v' ∧ rank c ≤ rank c')
    let load (up : Bool) (m : Int) : Int := max 0 (if up then m else - m)
    (s.band = none → band = ⟨u8At (rig.row 9) 0, u16At (rig.row 7) 0, u16At (rig.row 7) 2, u16At (rig.row 7) 4,
      u16At (rig.row 7) 6, u8At (rig.row 7) 8 == 1⟩) ∧
    (∀ i, s.band = some i → band = ⟨u8At (bore.row (i + 1)) 6, u16At (bore.row (i + 1)) 7, u16At (bore.row (i + 1)) 9,
      u16At (bore.row (i + 1)) 11, u16At (bore.row (i + 1)) 13, u8At (bore.row (i + 1)) 15 == 1⟩) ∧
    (∃ c l, least torque c l ∧ limitOf s .rotary true = some ⟨l, c, c⟩ ∧
      limitOf s .rotary false = some ⟨(l * Rig.reverseFactor rig).tdiv 1000, c, c⟩) ∧
    (∃ c l, least crowd c l ∧
      let down := (l * s.backoff).tdiv 1000
      limitOf s .crowd true = some ⟨down, c, if s.backoff < 1000 ∧ down < l then .backoff else c⟩ ∧
      (0 ≤ s.backoff → s.backoff ≤ 1000 → ∀ c' v, crowd c' v → down ≤ v)) ∧
    limitOf s .crowd false = some ⟨Rig.crowdUpMax rig, .rig, .rig⟩ ∧ limitOf s .hoist true = none ∧
    limitOf s .hoist false = some ⟨Rig.ropeMax rig, .rig, .rig⟩ ∧
    (∀ up, directedLoad s .rotary up = if (s.sensor .torque).state = .fresh
      then some (load up ((s.sensor .torque).value.getD 0)) else none) ∧
    (∀ up, directedLoad s .crowd up = if (s.sensor .force).state = .fresh
      then some (load up ((s.sensor .force).value.getD 0)) else none) ∧
    (∀ up, directedLoad s .hoist up = if (s.sensor .rope).state = .fresh
      then some (load up (- (s.sensor .rope).value.getD 0)) else none)

/-- The caps that apply to an axis in a direction, `up` for the positive one, which for HOIST is lowering (R106, R107); the cap C is
the least of them, and 1000 where none applies; that the first group of R106 names it among equals is the model's reading
(log 28), and that the caps of a rig profile not yet committed read as 0 its choice (log 42).  The knee scale (R108) is 1000
without limit or load and at a load up to the knee point, 0 at a limit of 0 and at a load at the limit, and falls between.  The
limit cause (R111) is none at a demand met in full, else the first group of R106 with a cap below the demand, else the knee's
limit, else SLEW; a demand from -1000 to 1000 that is not met in full has a cause. -/
def Obligations.CapsKneeAndCause : Prop :=
  (∀ (s : State) (a : Axis) (up : Bool),
    let rig := s.tables.rig
    let fresh (q : Quantity) := (s.sensor q).state = .fresh
    let caps := capsOf s a up
    let c := leastCap caps
    let sequenced := a ≠ .rotary ∧ s.sequencer ≠ .idle
    let lowering := a = .hoist ∧ up = true
    let slips := s.axes.crowd.state = .fault ∧ hasExit s.axes.crowd.exits .lockSlip = true
    let remaining := ((numbered s.joints).map (fun p =>
      if p.2.lock = .locked then 0 else Bar.stroke s.tables.bar p.1 - p.2.offset)).sum
    (∀ g v, (g, v) ∈ caps ↔
      (g = .auto ∧ v = 0 ∧ sequenced) ∨
      (g = .slip ∧ v = 0 ∧ lowering ∧ slips) ∨
      (g = .degraded ∧
        ((a = .rotary ∧ v = Rig.blindRotaryCap rig ∧ ¬(fresh .torque ∧ fresh .angle)) ∨
        (a = .crowd ∧ v = Rig.blindCrowdCap rig ∧ ¬fresh .force) ∨
        (a = .hoist ∧ v = Rig.creepCap rig ∧ (¬fresh .rope ∨ (lowering ∧ (geometry s ≠ .tracking ∨ s.mismatch = true)))))) ∨
      (g = .slack ∧ v = 0 ∧ lowering ∧ fresh .rope ∧ (s.sensor .rope).value.getD 0 < Rig.slackThreshold rig) ∨
      (g = .strokeEnd ∧ v = (1000 * remaining).tdiv (Rig.endZone rig) ∧ lowering ∧ s.tables.bar.valid = true ∧
        remaining < Rig.endZone rig) ∨
      (g = .bandCap ∧ ((a = .rotary ∧ v = (bandInForce s).rotaryCap) ∨ (lowering ∧ v = (bandInForce s).hoistCap)))) ∧
    (caps = [] → c = (.none, 1000)) ∧
    (caps ≠ [] → c ∈ caps ∧ ∀ x ∈ caps, c.2 < x.2 ∨ (c.2 = x.2 ∧ c.1.code ≤ x.1.code))) ∧
  (∀ (l k m : Int) (load : Option Int),
    let kp := (l * k).tdiv 1000
    kneeScale none k load = 1000 ∧ kneeScale (some 0) k load = 0 ∧
    (l ≠ 0 → kneeScale (some l) k none = 1000) ∧
    (l ≠ 0 → m ≤ kp → kneeScale (some l) k (some m) = 1000) ∧
    (kp < m → l ≤ m → kneeScale (some l) k (some m) = 0) ∧
    (l ≠ 0 → kp < m → m < l → kneeScale (some l) k (some m) = ((l - m) * 1000).tdiv (l - kp) ∧
      0 ≤ kneeScale (some l) k (some m) ∧ kneeScale (some l) k (some m) ≤ 1000)) ∧
  (∀ (s : State) (a : Axis) (d : Int),
    let up := decide (0 < d)
    let caps := capsOf s a up
    let g := kneeScale ((limitOf s a up).map Limit.value) (Rig.knee s.tables.rig a) (directedLoad s a up)
    let raw := scaledDemand (cappedDemand d (leastCap caps).2) g
    let v := governedValue s a d
    let free := ∀ x ∈ caps, |d| ≤ x.2
    (d = 0 → v = (0, .none)) ∧ (|v.1| = |d| → v.2 = .none) ∧
    (|v.1| ≠ |d| → ¬free → ∃ x ∈ caps, x.2 < |d| ∧ v.2 = x.1 ∧ ∀ y ∈ caps, y.2 < |d| → x.1.code ≤ y.1.code) ∧
    (|v.1| ≠ |d| → free → g < 1000 → ∃ l, limitOf s a up = some l ∧ v.2 = l.cause) ∧
    (|v.1| ≠ |d| → free → 1000 ≤ g → v.2 = if |v.1| < |raw| then .slew else .none) ∧
    (|v.1| ≠ |d| → |d| ≤ 1000 → v.2 ≠ .none))

/-- The capped demand and the scaled demand (R109), the slew (R110), and the governed value that a run of the arithmetic makes of
them for a demand other than 0. -/
def Obligations.CapScaleAndSlewStayWithinTheDemand : Prop :=
  (∀ d c g : Int, 0 ≤ c → 0 ≤ g → g ≤ 1000 →
    let d' := cappedDemand d c
    let raw := scaledDemand d' g
    |d'| = min |d| c ∧ 0 ≤ d' * d ∧ raw = (d' * g).tdiv 1000 ∧ |raw| * 1000 ≤ |d'| * g ∧ (g = 1000 → raw = d') ∧
    0 ≤ raw * d ∧ |raw| ≤ |d|) ∧
  (∀ prev raw slew elapsed : Int,
    let step := slewStep slew elapsed
    let g := slewed prev raw step
    step = max 1 ((slew * elapsed).tdiv 10) ∧
    (prev * raw < 0 → g = 0) ∧
    (0 ≤ prev * raw → |raw| ≤ |prev| → g = raw) ∧
    (0 ≤ prev * raw → |prev| < |raw| → g = prev + raw.sign * min (|raw| - |prev|) step ∧ 0 < g * raw) ∧
    |g| ≤ |raw| ∧ 0 ≤ g * raw ∧ (elapsed = 0 → step = 1)) ∧
  (∀ (s : State) (a : Axis), 0 ≤ elapsedTime s a ∧ elapsedTime s a ≤ 100 ∧
    ((s.axis a).lastEval = some s.millis → elapsedTime s a = 0)) ∧
  (∀ (s : State) (a : Axis) (d : Int), d ≠ 0 →
    let up := decide (0 < d)
    let c := (leastCap (capsOf s a up)).2
    let g := kneeScale ((limitOf s a up).map Limit.value) (Rig.knee s.tables.rig a) (directedLoad s a up)
    (governedValue s a d).1 = slewed (s.axis a).governed (scaledDemand (cappedDemand d c) g)
      (slewStep (Rig.slew s.tables.rig a) (elapsedTime s a)))

/-- The governing arithmetic never gives more than its demand, nor the opposite sign (R109, R110, R135), where the joints lie within
their strokes (JointsStayWithinStroke). -/
def Obligations.GovernedValueStaysWithinTheDemand : Prop :=
  ∀ (s : State) (a : Axis) (d : Int), JointsWithinStroke s →
    |(governedValue s a d).1| ≤ |d| ∧ 0 ≤ (governedValue s a d).1 * d

/-! ## Invariants -/

/-- The state after power-on reset meets every invariant below. -/
def Obligations.InvariantsHoldAfterReset : Prop :=
  WithinCapacity State.reset ∧ NeutralOutOfService State.reset ∧ AutoOnlyInSequence State.reset ∧
  RegistersInRange State.reset ∧ JointsWithinStroke State.reset ∧ WithinOperatorDemand State.reset ∧
  WithinSequenceDemand State.reset

/-- No step takes a list of the part beyond its capacity (R10, R164, R166, R167, R175, R176). -/
def Obligations.StepsKeepEveryListWithinCapacity : Prop :=
  ∀ s t : State, WithinCapacity s → step s = .next t → WithinCapacity t

/-- No step gives an axis out of service a governed value, nor leaves service running outside GOVERN (R25, R26, R30, R128, R130,
R135, R149). -/
def Obligations.StepsKeepAxesOutOfServiceNeutral : Prop :=
  ∀ s t : State, NeutralOutOfService s → step s = .next t → NeutralOutOfService t

/-- ROTARY is in AUTO exactly while a sequence runs, whatever step is taken (R121, R153, R156, R159, R160). -/
def Obligations.StepsKeepAutoWithTheSequencer : Prop :=
  ∀ s t : State, AutoOnlyInSequence s → step s = .next t → AutoOnlyInSequence t

/-- Every step keeps key travel, stored demands, sequence numbers, miss streaks, error counts and lost counts in range (R14, R73,
R121, R123, R139, R146, R177), the backoff parameters of a rig profile row 6 that is present within 100 to 900 and in order
(R100, R168), and with a valid rig profile the backoff factor between the floor in force and 1000 (R114, R116, R117, R119). -/
def Obligations.StepsKeepRegistersInRange : Prop :=
  ∀ s t : State, RegistersInRange s → step s = .next t → RegistersInRange t

/-- Every step keeps each joint within its stroke, each LOCKED joint at its locked row with no row at the others, each nearest row
a row of its joint, and the offsets summing to the extension in force, under every commit, allocation, lock and reset (R51,
R65, R69, R72, R78). -/
def Obligations.JointsStayWithinStroke : Prop :=
  ∀ s t : State, JointsWithinStroke s → step s = .next t → JointsWithinStroke t

/-- Outside an automatic sequence no step makes a governed value exceed the stored demand or oppose it, and while one runs CROWD
and HOIST hold 0 and ROTARY stays within the creep demand, and of its sign (R107, R135, R156, R157).  The joints lie within
their strokes, no axis out of service moves, and ROTARY is in AUTO just while a sequence runs (all kept by every step).  A
commit that would change the creep demand of a running sequence does not complete (R162; log 39). -/
def Obligations.GovernedValuesStayWithinTheirDemands : Prop :=
  (∀ s t : State, JointsWithinStroke s → NeutralOutOfService s → WithinOperatorDemand s → step s = .next t →
    WithinOperatorDemand t) ∧
  (∀ s t : State, JointsWithinStroke s → NeutralOutOfService s → AutoOnlyInSequence s → WithinSequenceDemand s →
    step s = .next t → WithinSequenceDemand t)

end Statements
end

