-- ==== Sys2Proof/Laws/State.lean ====
section
/-! SUPPORT. One lemma per field per update, true by `rfl`: what each shared update of the state leaves and what it writes, so
that no proof unfolds a record update. -/

namespace Sys2Proof.Machine

open Sys2Proof

/-! ## Families of like records -/

@[simp] theorem PerPort.get_set_same {α : Type} (v : PerPort α) (i : Port) (x : α) : (v.set i x).get i = x := by
  cases i <;> rfl

@[simp] theorem PerPort.get_set_other {α : Type} (v : PerPort α) (i j : Port) (x : α) (h : j ≠ i) :
    (v.set i x).get j = v.get j := by
  cases i <;> cases j <;> first | rfl | exact absurd rfl h

@[simp] theorem PerPort.set_get_same {α : Type} (v : PerPort α) (i : Port) : v.set i (v.get i) = v := by
  cases i <;> rfl

/-- Two families with the same items are one. -/
theorem PerPort.ext_get {α : Type} {v w : PerPort α} (h : ∀ i, v.get i = w.get i) : v = w := by

  cases v; cases w
  have hoperator := h .operator
  have hmachine := h .machine
  simp only [PerPort.get] at hoperator hmachine
  simp only [hoperator, hmachine]

@[simp] theorem PerPort.get_operator {α : Type} (v : PerPort α) : v.get .operator = v.operator := rfl
@[simp] theorem PerPort.set_operator_operator {α : Type} (v : PerPort α) (x : α) : (v.set .operator x).operator = x := rfl
@[simp] theorem PerPort.set_operator_machine {α : Type} (v : PerPort α) (x : α) : (v.set .operator x).machine = v.machine := rfl
@[simp] theorem PerPort.get_machine {α : Type} (v : PerPort α) : v.get .machine = v.machine := rfl
@[simp] theorem PerPort.set_machine_operator {α : Type} (v : PerPort α) (x : α) : (v.set .machine x).operator = v.operator := rfl
@[simp] theorem PerPort.set_machine_machine {α : Type} (v : PerPort α) (x : α) : (v.set .machine x).machine = x := rfl

@[simp] theorem PerAxis.get_set_same {α : Type} (v : PerAxis α) (i : Axis) (x : α) : (v.set i x).get i = x := by
  cases i <;> rfl

@[simp] theorem PerAxis.get_set_other {α : Type} (v : PerAxis α) (i j : Axis) (x : α) (h : j ≠ i) :
    (v.set i x).get j = v.get j := by
  cases i <;> cases j <;> first | rfl | exact absurd rfl h

@[simp] theorem PerAxis.set_get_same {α : Type} (v : PerAxis α) (i : Axis) : v.set i (v.get i) = v := by
  cases i <;> rfl

/-- Two families with the same items are one. -/
theorem PerAxis.ext_get {α : Type} {v w : PerAxis α} (h : ∀ i, v.get i = w.get i) : v = w := by

  cases v; cases w
  have hrotary := h .rotary
  have hcrowd := h .crowd
  have hhoist := h .hoist
  simp only [PerAxis.get] at hrotary hcrowd hhoist
  simp only [hrotary, hcrowd, hhoist]

@[simp] theorem PerAxis.get_rotary {α : Type} (v : PerAxis α) : v.get .rotary = v.rotary := rfl
@[simp] theorem PerAxis.set_rotary_rotary {α : Type} (v : PerAxis α) (x : α) : (v.set .rotary x).rotary = x := rfl
@[simp] theorem PerAxis.set_rotary_crowd {α : Type} (v : PerAxis α) (x : α) : (v.set .rotary x).crowd = v.crowd := rfl
@[simp] theorem PerAxis.set_rotary_hoist {α : Type} (v : PerAxis α) (x : α) : (v.set .rotary x).hoist = v.hoist := rfl
@[simp] theorem PerAxis.get_crowd {α : Type} (v : PerAxis α) : v.get .crowd = v.crowd := rfl
@[simp] theorem PerAxis.set_crowd_rotary {α : Type} (v : PerAxis α) (x : α) : (v.set .crowd x).rotary = v.rotary := rfl
@[simp] theorem PerAxis.set_crowd_crowd {α : Type} (v : PerAxis α) (x : α) : (v.set .crowd x).crowd = x := rfl
@[simp] theorem PerAxis.set_crowd_hoist {α : Type} (v : PerAxis α) (x : α) : (v.set .crowd x).hoist = v.hoist := rfl
@[simp] theorem PerAxis.get_hoist {α : Type} (v : PerAxis α) : v.get .hoist = v.hoist := rfl
@[simp] theorem PerAxis.set_hoist_rotary {α : Type} (v : PerAxis α) (x : α) : (v.set .hoist x).rotary = v.rotary := rfl
@[simp] theorem PerAxis.set_hoist_crowd {α : Type} (v : PerAxis α) (x : α) : (v.set .hoist x).crowd = v.crowd := rfl
@[simp] theorem PerAxis.set_hoist_hoist {α : Type} (v : PerAxis α) (x : α) : (v.set .hoist x).hoist = x := rfl

@[simp] theorem PerQuantity.get_set_same {α : Type} (v : PerQuantity α) (i : Quantity) (x : α) : (v.set i x).get i = x := by
  cases i <;> rfl

@[simp] theorem PerQuantity.get_set_other {α : Type} (v : PerQuantity α) (i j : Quantity) (x : α) (h : j ≠ i) :
    (v.set i x).get j = v.get j := by
  cases i <;> cases j <;> first | rfl | exact absurd rfl h

@[simp] theorem PerQuantity.set_get_same {α : Type} (v : PerQuantity α) (i : Quantity) : v.set i (v.get i) = v := by
  cases i <;> rfl

/-- Two families with the same items are one. -/
theorem PerQuantity.ext_get {α : Type} {v w : PerQuantity α} (h : ∀ i, v.get i = w.get i) : v = w := by

  cases v; cases w
  have hpayout := h .payout
  have hhead := h .head
  have hangle := h .angle
  have htorque := h .torque
  have hforce := h .force
  have hrope := h .rope
  simp only [PerQuantity.get] at hpayout hhead hangle htorque hforce hrope
  simp only [hpayout, hhead, hangle, htorque, hforce, hrope]

@[simp] theorem PerQuantity.get_payout {α : Type} (v : PerQuantity α) : v.get .payout = v.payout := rfl
@[simp] theorem PerQuantity.set_payout_payout {α : Type} (v : PerQuantity α) (x : α) : (v.set .payout x).payout = x := rfl
@[simp] theorem PerQuantity.set_payout_head {α : Type} (v : PerQuantity α) (x : α) : (v.set .payout x).head = v.head := rfl
@[simp] theorem PerQuantity.set_payout_angle {α : Type} (v : PerQuantity α) (x : α) : (v.set .payout x).angle = v.angle := rfl
@[simp] theorem PerQuantity.set_payout_torque {α : Type} (v : PerQuantity α) (x : α) : (v.set .payout x).torque = v.torque := rfl
@[simp] theorem PerQuantity.set_payout_force {α : Type} (v : PerQuantity α) (x : α) : (v.set .payout x).force = v.force := rfl
@[simp] theorem PerQuantity.set_payout_rope {α : Type} (v : PerQuantity α) (x : α) : (v.set .payout x).rope = v.rope := rfl
@[simp] theorem PerQuantity.get_head {α : Type} (v : PerQuantity α) : v.get .head = v.head := rfl
@[simp] theorem PerQuantity.set_head_payout {α : Type} (v : PerQuantity α) (x : α) : (v.set .head x).payout = v.payout := rfl
@[simp] theorem PerQuantity.set_head_head {α : Type} (v : PerQuantity α) (x : α) : (v.set .head x).head = x := rfl
@[simp] theorem PerQuantity.set_head_angle {α : Type} (v : PerQuantity α) (x : α) : (v.set .head x).angle = v.angle := rfl
@[simp] theorem PerQuantity.set_head_torque {α : Type} (v : PerQuantity α) (x : α) : (v.set .head x).torque = v.torque := rfl
@[simp] theorem PerQuantity.set_head_force {α : Type} (v : PerQuantity α) (x : α) : (v.set .head x).force = v.force := rfl
@[simp] theorem PerQuantity.set_head_rope {α : Type} (v : PerQuantity α) (x : α) : (v.set .head x).rope = v.rope := rfl
@[simp] theorem PerQuantity.get_angle {α : Type} (v : PerQuantity α) : v.get .angle = v.angle := rfl
@[simp] theorem PerQuantity.set_angle_payout {α : Type} (v : PerQuantity α) (x : α) : (v.set .angle x).payout = v.payout := rfl
@[simp] theorem PerQuantity.set_angle_head {α : Type} (v : PerQuantity α) (x : α) : (v.set .angle x).head = v.head := rfl
@[simp] theorem PerQuantity.set_angle_angle {α : Type} (v : PerQuantity α) (x : α) : (v.set .angle x).angle = x := rfl
@[simp] theorem PerQuantity.set_angle_torque {α : Type} (v : PerQuantity α) (x : α) : (v.set .angle x).torque = v.torque := rfl
@[simp] theorem PerQuantity.set_angle_force {α : Type} (v : PerQuantity α) (x : α) : (v.set .angle x).force = v.force := rfl
@[simp] theorem PerQuantity.set_angle_rope {α : Type} (v : PerQuantity α) (x : α) : (v.set .angle x).rope = v.rope := rfl
@[simp] theorem PerQuantity.get_torque {α : Type} (v : PerQuantity α) : v.get .torque = v.torque := rfl
@[simp] theorem PerQuantity.set_torque_payout {α : Type} (v : PerQuantity α) (x : α) : (v.set .torque x).payout = v.payout := rfl
@[simp] theorem PerQuantity.set_torque_head {α : Type} (v : PerQuantity α) (x : α) : (v.set .torque x).head = v.head := rfl
@[simp] theorem PerQuantity.set_torque_angle {α : Type} (v : PerQuantity α) (x : α) : (v.set .torque x).angle = v.angle := rfl
@[simp] theorem PerQuantity.set_torque_torque {α : Type} (v : PerQuantity α) (x : α) : (v.set .torque x).torque = x := rfl
@[simp] theorem PerQuantity.set_torque_force {α : Type} (v : PerQuantity α) (x : α) : (v.set .torque x).force = v.force := rfl
@[simp] theorem PerQuantity.set_torque_rope {α : Type} (v : PerQuantity α) (x : α) : (v.set .torque x).rope = v.rope := rfl
@[simp] theorem PerQuantity.get_force {α : Type} (v : PerQuantity α) : v.get .force = v.force := rfl
@[simp] theorem PerQuantity.set_force_payout {α : Type} (v : PerQuantity α) (x : α) : (v.set .force x).payout = v.payout := rfl
@[simp] theorem PerQuantity.set_force_head {α : Type} (v : PerQuantity α) (x : α) : (v.set .force x).head = v.head := rfl
@[simp] theorem PerQuantity.set_force_angle {α : Type} (v : PerQuantity α) (x : α) : (v.set .force x).angle = v.angle := rfl
@[simp] theorem PerQuantity.set_force_torque {α : Type} (v : PerQuantity α) (x : α) : (v.set .force x).torque = v.torque := rfl
@[simp] theorem PerQuantity.set_force_force {α : Type} (v : PerQuantity α) (x : α) : (v.set .force x).force = x := rfl
@[simp] theorem PerQuantity.set_force_rope {α : Type} (v : PerQuantity α) (x : α) : (v.set .force x).rope = v.rope := rfl
@[simp] theorem PerQuantity.get_rope {α : Type} (v : PerQuantity α) : v.get .rope = v.rope := rfl
@[simp] theorem PerQuantity.set_rope_payout {α : Type} (v : PerQuantity α) (x : α) : (v.set .rope x).payout = v.payout := rfl
@[simp] theorem PerQuantity.set_rope_head {α : Type} (v : PerQuantity α) (x : α) : (v.set .rope x).head = v.head := rfl
@[simp] theorem PerQuantity.set_rope_angle {α : Type} (v : PerQuantity α) (x : α) : (v.set .rope x).angle = v.angle := rfl
@[simp] theorem PerQuantity.set_rope_torque {α : Type} (v : PerQuantity α) (x : α) : (v.set .rope x).torque = v.torque := rfl
@[simp] theorem PerQuantity.set_rope_force {α : Type} (v : PerQuantity α) (x : α) : (v.set .rope x).force = v.force := rfl
@[simp] theorem PerQuantity.set_rope_rope {α : Type} (v : PerQuantity α) (x : α) : (v.set .rope x).rope = x := rfl

/-! ## `State.setPort` -/

@[simp] theorem State.setPort_pending (s : State) (p : Port) (r : PortRecord) : (s.setPort p r).pending = s.pending := rfl
@[simp] theorem State.setPort_resetLow (s : State) (p : Port) (r : PortRecord) : (s.setPort p r).resetLow = s.resetLow := rfl
@[simp] theorem State.setPort_bitRate (s : State) (p : Port) (r : PortRecord) : (s.setPort p r).bitRate = s.bitRate := rfl
@[simp] theorem State.setPort_millis (s : State) (p : Port) (r : PortRecord) : (s.setPort p r).millis = s.millis := rfl
@[simp] theorem State.setPort_ports (s : State) (p : Port) (r : PortRecord) : (s.setPort p r).ports = s.ports.set p r := rfl
@[simp] theorem State.setPort_channel (s : State) (p : Port) (r : PortRecord) : (s.setPort p r).channel = s.channel := rfl
@[simp] theorem State.setPort_governor (s : State) (p : Port) (r : PortRecord) : (s.setPort p r).governor = s.governor := rfl
@[simp] theorem State.setPort_quiet (s : State) (p : Port) (r : PortRecord) : (s.setPort p r).quiet = s.quiet := rfl
@[simp] theorem State.setPort_sensors (s : State) (p : Port) (r : PortRecord) : (s.setPort p r).sensors = s.sensors := rfl
@[simp] theorem State.setPort_earlierMap (s : State) (p : Port) (r : PortRecord) : (s.setPort p r).earlierMap = s.earlierMap := rfl
@[simp] theorem State.setPort_joints (s : State) (p : Port) (r : PortRecord) : (s.setPort p r).joints = s.joints := rfl
@[simp] theorem State.setPort_extension (s : State) (p : Port) (r : PortRecord) : (s.setPort p r).extension = s.extension := rfl
@[simp] theorem State.setPort_mismatch (s : State) (p : Port) (r : PortRecord) : (s.setPort p r).mismatch = s.mismatch := rfl
@[simp] theorem State.setPort_depthHeld (s : State) (p : Port) (r : PortRecord) : (s.setPort p r).depthHeld = s.depthHeld := rfl
@[simp] theorem State.setPort_keyTravel (s : State) (p : Port) (r : PortRecord) : (s.setPort p r).keyTravel = s.keyTravel := rfl
@[simp] theorem State.setPort_angleRef (s : State) (p : Port) (r : PortRecord) : (s.setPort p r).angleRef = s.angleRef := rfl
@[simp] theorem State.setPort_band (s : State) (p : Port) (r : PortRecord) : (s.setPort p r).band = s.band := rfl
@[simp] theorem State.setPort_backoff (s : State) (p : Port) (r : PortRecord) : (s.setPort p r).backoff = s.backoff := rfl
@[simp] theorem State.setPort_stallTimer (s : State) (p : Port) (r : PortRecord) : (s.setPort p r).stallTimer = s.stallTimer := rfl
@[simp] theorem State.setPort_recoveryTimer (s : State) (p : Port) (r : PortRecord) : (s.setPort p r).recoveryTimer = s.recoveryTimer := rfl
@[simp] theorem State.setPort_axes (s : State) (p : Port) (r : PortRecord) : (s.setPort p r).axes = s.axes := rfl
@[simp] theorem State.setPort_deliveries (s : State) (p : Port) (r : PortRecord) : (s.setPort p r).deliveries = s.deliveries := rfl
@[simp] theorem State.setPort_sequencer (s : State) (p : Port) (r : PortRecord) : (s.setPort p r).sequencer = s.sequencer := rfl
@[simp] theorem State.setPort_sequenceTimer (s : State) (p : Port) (r : PortRecord) : (s.setPort p r).sequenceTimer = s.sequenceTimer := rfl
@[simp] theorem State.setPort_aborts (s : State) (p : Port) (r : PortRecord) : (s.setPort p r).aborts = s.aborts := rfl
@[simp] theorem State.setPort_tables (s : State) (p : Port) (r : PortRecord) : (s.setPort p r).tables = s.tables := rfl
@[simp] theorem State.setPort_selection (s : State) (p : Port) (r : PortRecord) : (s.setPort p r).selection = s.selection := rfl
@[simp] theorem State.setPort_loadFlags (s : State) (p : Port) (r : PortRecord) : (s.setPort p r).loadFlags = s.loadFlags := rfl
@[simp] theorem State.setPort_buffer (s : State) (p : Port) (r : PortRecord) : (s.setPort p r).buffer = s.buffer := rfl
@[simp] theorem State.setPort_flight (s : State) (p : Port) (r : PortRecord) : (s.setPort p r).flight = s.flight := rfl
@[simp] theorem State.setPort_replies (s : State) (p : Port) (r : PortRecord) : (s.setPort p r).replies = s.replies := rfl
@[simp] theorem State.setPort_restarting (s : State) (p : Port) (r : PortRecord) : (s.setPort p r).restarting = s.restarting := rfl
@[simp] theorem State.setPort_reports (s : State) (p : Port) (r : PortRecord) : (s.setPort p r).reports = s.reports := rfl
@[simp] theorem State.setPort_statusSlot (s : State) (p : Port) (r : PortRecord) : (s.setPort p r).statusSlot = s.statusSlot := rfl
@[simp] theorem State.setPort_statusTimer (s : State) (p : Port) (r : PortRecord) : (s.setPort p r).statusTimer = s.statusTimer := rfl
@[simp] theorem State.setPort_machineFault (s : State) (p : Port) (r : PortRecord) : (s.setPort p r).machineFault = s.machineFault := rfl
@[simp] theorem State.setPort_barFault (s : State) (p : Port) (r : PortRecord) : (s.setPort p r).barFault = s.barFault := rfl
@[simp] theorem State.setPort_counters (s : State) (p : Port) (r : PortRecord) : (s.setPort p r).counters = s.counters := rfl
@[simp] theorem State.setPort_choices (s : State) (p : Port) (r : PortRecord) : (s.setPort p r).choices = s.choices := rfl

/-! ## `State.setAxis` -/

@[simp] theorem State.setAxis_pending (s : State) (a : Axis) (r : AxisRecord) : (s.setAxis a r).pending = s.pending := rfl
@[simp] theorem State.setAxis_resetLow (s : State) (a : Axis) (r : AxisRecord) : (s.setAxis a r).resetLow = s.resetLow := rfl
@[simp] theorem State.setAxis_bitRate (s : State) (a : Axis) (r : AxisRecord) : (s.setAxis a r).bitRate = s.bitRate := rfl
@[simp] theorem State.setAxis_millis (s : State) (a : Axis) (r : AxisRecord) : (s.setAxis a r).millis = s.millis := rfl
@[simp] theorem State.setAxis_ports (s : State) (a : Axis) (r : AxisRecord) : (s.setAxis a r).ports = s.ports := rfl
@[simp] theorem State.setAxis_channel (s : State) (a : Axis) (r : AxisRecord) : (s.setAxis a r).channel = s.channel := rfl
@[simp] theorem State.setAxis_governor (s : State) (a : Axis) (r : AxisRecord) : (s.setAxis a r).governor = s.governor := rfl
@[simp] theorem State.setAxis_quiet (s : State) (a : Axis) (r : AxisRecord) : (s.setAxis a r).quiet = s.quiet := rfl
@[simp] theorem State.setAxis_sensors (s : State) (a : Axis) (r : AxisRecord) : (s.setAxis a r).sensors = s.sensors := rfl
@[simp] theorem State.setAxis_earlierMap (s : State) (a : Axis) (r : AxisRecord) : (s.setAxis a r).earlierMap = s.earlierMap := rfl
@[simp] theorem State.setAxis_joints (s : State) (a : Axis) (r : AxisRecord) : (s.setAxis a r).joints = s.joints := rfl
@[simp] theorem State.setAxis_extension (s : State) (a : Axis) (r : AxisRecord) : (s.setAxis a r).extension = s.extension := rfl
@[simp] theorem State.setAxis_mismatch (s : State) (a : Axis) (r : AxisRecord) : (s.setAxis a r).mismatch = s.mismatch := rfl
@[simp] theorem State.setAxis_depthHeld (s : State) (a : Axis) (r : AxisRecord) : (s.setAxis a r).depthHeld = s.depthHeld := rfl
@[simp] theorem State.setAxis_keyTravel (s : State) (a : Axis) (r : AxisRecord) : (s.setAxis a r).keyTravel = s.keyTravel := rfl
@[simp] theorem State.setAxis_angleRef (s : State) (a : Axis) (r : AxisRecord) : (s.setAxis a r).angleRef = s.angleRef := rfl
@[simp] theorem State.setAxis_band (s : State) (a : Axis) (r : AxisRecord) : (s.setAxis a r).band = s.band := rfl
@[simp] theorem State.setAxis_backoff (s : State) (a : Axis) (r : AxisRecord) : (s.setAxis a r).backoff = s.backoff := rfl
@[simp] theorem State.setAxis_stallTimer (s : State) (a : Axis) (r : AxisRecord) : (s.setAxis a r).stallTimer = s.stallTimer := rfl
@[simp] theorem State.setAxis_recoveryTimer (s : State) (a : Axis) (r : AxisRecord) : (s.setAxis a r).recoveryTimer = s.recoveryTimer := rfl
@[simp] theorem State.setAxis_axes (s : State) (a : Axis) (r : AxisRecord) : (s.setAxis a r).axes = s.axes.set a r := rfl
@[simp] theorem State.setAxis_deliveries (s : State) (a : Axis) (r : AxisRecord) : (s.setAxis a r).deliveries = s.deliveries := rfl
@[simp] theorem State.setAxis_sequencer (s : State) (a : Axis) (r : AxisRecord) : (s.setAxis a r).sequencer = s.sequencer := rfl
@[simp] theorem State.setAxis_sequenceTimer (s : State) (a : Axis) (r : AxisRecord) : (s.setAxis a r).sequenceTimer = s.sequenceTimer := rfl
@[simp] theorem State.setAxis_aborts (s : State) (a : Axis) (r : AxisRecord) : (s.setAxis a r).aborts = s.aborts := rfl
@[simp] theorem State.setAxis_tables (s : State) (a : Axis) (r : AxisRecord) : (s.setAxis a r).tables = s.tables := rfl
@[simp] theorem State.setAxis_selection (s : State) (a : Axis) (r : AxisRecord) : (s.setAxis a r).selection = s.selection := rfl
@[simp] theorem State.setAxis_loadFlags (s : State) (a : Axis) (r : AxisRecord) : (s.setAxis a r).loadFlags = s.loadFlags := rfl
@[simp] theorem State.setAxis_buffer (s : State) (a : Axis) (r : AxisRecord) : (s.setAxis a r).buffer = s.buffer := rfl
@[simp] theorem State.setAxis_flight (s : State) (a : Axis) (r : AxisRecord) : (s.setAxis a r).flight = s.flight := rfl
@[simp] theorem State.setAxis_replies (s : State) (a : Axis) (r : AxisRecord) : (s.setAxis a r).replies = s.replies := rfl
@[simp] theorem State.setAxis_restarting (s : State) (a : Axis) (r : AxisRecord) : (s.setAxis a r).restarting = s.restarting := rfl
@[simp] theorem State.setAxis_reports (s : State) (a : Axis) (r : AxisRecord) : (s.setAxis a r).reports = s.reports := rfl
@[simp] theorem State.setAxis_statusSlot (s : State) (a : Axis) (r : AxisRecord) : (s.setAxis a r).statusSlot = s.statusSlot := rfl
@[simp] theorem State.setAxis_statusTimer (s : State) (a : Axis) (r : AxisRecord) : (s.setAxis a r).statusTimer = s.statusTimer := rfl
@[simp] theorem State.setAxis_machineFault (s : State) (a : Axis) (r : AxisRecord) : (s.setAxis a r).machineFault = s.machineFault := rfl
@[simp] theorem State.setAxis_barFault (s : State) (a : Axis) (r : AxisRecord) : (s.setAxis a r).barFault = s.barFault := rfl
@[simp] theorem State.setAxis_counters (s : State) (a : Axis) (r : AxisRecord) : (s.setAxis a r).counters = s.counters := rfl
@[simp] theorem State.setAxis_choices (s : State) (a : Axis) (r : AxisRecord) : (s.setAxis a r).choices = s.choices := rfl

/-! ## `State.setDelivery` -/

@[simp] theorem State.setDelivery_pending (s : State) (a : Axis) (r : DeliveryRecord) : (s.setDelivery a r).pending = s.pending := rfl
@[simp] theorem State.setDelivery_resetLow (s : State) (a : Axis) (r : DeliveryRecord) : (s.setDelivery a r).resetLow = s.resetLow := rfl
@[simp] theorem State.setDelivery_bitRate (s : State) (a : Axis) (r : DeliveryRecord) : (s.setDelivery a r).bitRate = s.bitRate := rfl
@[simp] theorem State.setDelivery_millis (s : State) (a : Axis) (r : DeliveryRecord) : (s.setDelivery a r).millis = s.millis := rfl
@[simp] theorem State.setDelivery_ports (s : State) (a : Axis) (r : DeliveryRecord) : (s.setDelivery a r).ports = s.ports := rfl
@[simp] theorem State.setDelivery_channel (s : State) (a : Axis) (r : DeliveryRecord) : (s.setDelivery a r).channel = s.channel := rfl
@[simp] theorem State.setDelivery_governor (s : State) (a : Axis) (r : DeliveryRecord) : (s.setDelivery a r).governor = s.governor := rfl
@[simp] theorem State.setDelivery_quiet (s : State) (a : Axis) (r : DeliveryRecord) : (s.setDelivery a r).quiet = s.quiet := rfl
@[simp] theorem State.setDelivery_sensors (s : State) (a : Axis) (r : DeliveryRecord) : (s.setDelivery a r).sensors = s.sensors := rfl
@[simp] theorem State.setDelivery_earlierMap (s : State) (a : Axis) (r : DeliveryRecord) : (s.setDelivery a r).earlierMap = s.earlierMap := rfl
@[simp] theorem State.setDelivery_joints (s : State) (a : Axis) (r : DeliveryRecord) : (s.setDelivery a r).joints = s.joints := rfl
@[simp] theorem State.setDelivery_extension (s : State) (a : Axis) (r : DeliveryRecord) : (s.setDelivery a r).extension = s.extension := rfl
@[simp] theorem State.setDelivery_mismatch (s : State) (a : Axis) (r : DeliveryRecord) : (s.setDelivery a r).mismatch = s.mismatch := rfl
@[simp] theorem State.setDelivery_depthHeld (s : State) (a : Axis) (r : DeliveryRecord) : (s.setDelivery a r).depthHeld = s.depthHeld := rfl
@[simp] theorem State.setDelivery_keyTravel (s : State) (a : Axis) (r : DeliveryRecord) : (s.setDelivery a r).keyTravel = s.keyTravel := rfl
@[simp] theorem State.setDelivery_angleRef (s : State) (a : Axis) (r : DeliveryRecord) : (s.setDelivery a r).angleRef = s.angleRef := rfl
@[simp] theorem State.setDelivery_band (s : State) (a : Axis) (r : DeliveryRecord) : (s.setDelivery a r).band = s.band := rfl
@[simp] theorem State.setDelivery_backoff (s : State) (a : Axis) (r : DeliveryRecord) : (s.setDelivery a r).backoff = s.backoff := rfl
@[simp] theorem State.setDelivery_stallTimer (s : State) (a : Axis) (r : DeliveryRecord) : (s.setDelivery a r).stallTimer = s.stallTimer := rfl
@[simp] theorem State.setDelivery_recoveryTimer (s : State) (a : Axis) (r : DeliveryRecord) : (s.setDelivery a r).recoveryTimer = s.recoveryTimer := rfl
@[simp] theorem State.setDelivery_axes (s : State) (a : Axis) (r : DeliveryRecord) : (s.setDelivery a r).axes = s.axes := rfl
@[simp] theorem State.setDelivery_deliveries (s : State) (a : Axis) (r : DeliveryRecord) : (s.setDelivery a r).deliveries = s.deliveries.set a r := rfl
@[simp] theorem State.setDelivery_sequencer (s : State) (a : Axis) (r : DeliveryRecord) : (s.setDelivery a r).sequencer = s.sequencer := rfl
@[simp] theorem State.setDelivery_sequenceTimer (s : State) (a : Axis) (r : DeliveryRecord) : (s.setDelivery a r).sequenceTimer = s.sequenceTimer := rfl
@[simp] theorem State.setDelivery_aborts (s : State) (a : Axis) (r : DeliveryRecord) : (s.setDelivery a r).aborts = s.aborts := rfl
@[simp] theorem State.setDelivery_tables (s : State) (a : Axis) (r : DeliveryRecord) : (s.setDelivery a r).tables = s.tables := rfl
@[simp] theorem State.setDelivery_selection (s : State) (a : Axis) (r : DeliveryRecord) : (s.setDelivery a r).selection = s.selection := rfl
@[simp] theorem State.setDelivery_loadFlags (s : State) (a : Axis) (r : DeliveryRecord) : (s.setDelivery a r).loadFlags = s.loadFlags := rfl
@[simp] theorem State.setDelivery_buffer (s : State) (a : Axis) (r : DeliveryRecord) : (s.setDelivery a r).buffer = s.buffer := rfl
@[simp] theorem State.setDelivery_flight (s : State) (a : Axis) (r : DeliveryRecord) : (s.setDelivery a r).flight = s.flight := rfl
@[simp] theorem State.setDelivery_replies (s : State) (a : Axis) (r : DeliveryRecord) : (s.setDelivery a r).replies = s.replies := rfl
@[simp] theorem State.setDelivery_restarting (s : State) (a : Axis) (r : DeliveryRecord) : (s.setDelivery a r).restarting = s.restarting := rfl
@[simp] theorem State.setDelivery_reports (s : State) (a : Axis) (r : DeliveryRecord) : (s.setDelivery a r).reports = s.reports := rfl
@[simp] theorem State.setDelivery_statusSlot (s : State) (a : Axis) (r : DeliveryRecord) : (s.setDelivery a r).statusSlot = s.statusSlot := rfl
@[simp] theorem State.setDelivery_statusTimer (s : State) (a : Axis) (r : DeliveryRecord) : (s.setDelivery a r).statusTimer = s.statusTimer := rfl
@[simp] theorem State.setDelivery_machineFault (s : State) (a : Axis) (r : DeliveryRecord) : (s.setDelivery a r).machineFault = s.machineFault := rfl
@[simp] theorem State.setDelivery_barFault (s : State) (a : Axis) (r : DeliveryRecord) : (s.setDelivery a r).barFault = s.barFault := rfl
@[simp] theorem State.setDelivery_counters (s : State) (a : Axis) (r : DeliveryRecord) : (s.setDelivery a r).counters = s.counters := rfl
@[simp] theorem State.setDelivery_choices (s : State) (a : Axis) (r : DeliveryRecord) : (s.setDelivery a r).choices = s.choices := rfl

/-! ## `State.setSensor` -/

@[simp] theorem State.setSensor_pending (s : State) (q : Quantity) (r : SensorRecord) : (s.setSensor q r).pending = s.pending := rfl
@[simp] theorem State.setSensor_resetLow (s : State) (q : Quantity) (r : SensorRecord) : (s.setSensor q r).resetLow = s.resetLow := rfl
@[simp] theorem State.setSensor_bitRate (s : State) (q : Quantity) (r : SensorRecord) : (s.setSensor q r).bitRate = s.bitRate := rfl
@[simp] theorem State.setSensor_millis (s : State) (q : Quantity) (r : SensorRecord) : (s.setSensor q r).millis = s.millis := rfl
@[simp] theorem State.setSensor_ports (s : State) (q : Quantity) (r : SensorRecord) : (s.setSensor q r).ports = s.ports := rfl
@[simp] theorem State.setSensor_channel (s : State) (q : Quantity) (r : SensorRecord) : (s.setSensor q r).channel = s.channel := rfl
@[simp] theorem State.setSensor_governor (s : State) (q : Quantity) (r : SensorRecord) : (s.setSensor q r).governor = s.governor := rfl
@[simp] theorem State.setSensor_quiet (s : State) (q : Quantity) (r : SensorRecord) : (s.setSensor q r).quiet = s.quiet := rfl
@[simp] theorem State.setSensor_sensors (s : State) (q : Quantity) (r : SensorRecord) : (s.setSensor q r).sensors = s.sensors.set q r := rfl
@[simp] theorem State.setSensor_earlierMap (s : State) (q : Quantity) (r : SensorRecord) : (s.setSensor q r).earlierMap = s.earlierMap := rfl
@[simp] theorem State.setSensor_joints (s : State) (q : Quantity) (r : SensorRecord) : (s.setSensor q r).joints = s.joints := rfl
@[simp] theorem State.setSensor_extension (s : State) (q : Quantity) (r : SensorRecord) : (s.setSensor q r).extension = s.extension := rfl
@[simp] theorem State.setSensor_mismatch (s : State) (q : Quantity) (r : SensorRecord) : (s.setSensor q r).mismatch = s.mismatch := rfl
@[simp] theorem State.setSensor_depthHeld (s : State) (q : Quantity) (r : SensorRecord) : (s.setSensor q r).depthHeld = s.depthHeld := rfl
@[simp] theorem State.setSensor_keyTravel (s : State) (q : Quantity) (r : SensorRecord) : (s.setSensor q r).keyTravel = s.keyTravel := rfl
@[simp] theorem State.setSensor_angleRef (s : State) (q : Quantity) (r : SensorRecord) : (s.setSensor q r).angleRef = s.angleRef := rfl
@[simp] theorem State.setSensor_band (s : State) (q : Quantity) (r : SensorRecord) : (s.setSensor q r).band = s.band := rfl
@[simp] theorem State.setSensor_backoff (s : State) (q : Quantity) (r : SensorRecord) : (s.setSensor q r).backoff = s.backoff := rfl
@[simp] theorem State.setSensor_stallTimer (s : State) (q : Quantity) (r : SensorRecord) : (s.setSensor q r).stallTimer = s.stallTimer := rfl
@[simp] theorem State.setSensor_recoveryTimer (s : State) (q : Quantity) (r : SensorRecord) : (s.setSensor q r).recoveryTimer = s.recoveryTimer := rfl
@[simp] theorem State.setSensor_axes (s : State) (q : Quantity) (r : SensorRecord) : (s.setSensor q r).axes = s.axes := rfl
@[simp] theorem State.setSensor_deliveries (s : State) (q : Quantity) (r : SensorRecord) : (s.setSensor q r).deliveries = s.deliveries := rfl
@[simp] theorem State.setSensor_sequencer (s : State) (q : Quantity) (r : SensorRecord) : (s.setSensor q r).sequencer = s.sequencer := rfl
@[simp] theorem State.setSensor_sequenceTimer (s : State) (q : Quantity) (r : SensorRecord) : (s.setSensor q r).sequenceTimer = s.sequenceTimer := rfl
@[simp] theorem State.setSensor_aborts (s : State) (q : Quantity) (r : SensorRecord) : (s.setSensor q r).aborts = s.aborts := rfl
@[simp] theorem State.setSensor_tables (s : State) (q : Quantity) (r : SensorRecord) : (s.setSensor q r).tables = s.tables := rfl
@[simp] theorem State.setSensor_selection (s : State) (q : Quantity) (r : SensorRecord) : (s.setSensor q r).selection = s.selection := rfl
@[simp] theorem State.setSensor_loadFlags (s : State) (q : Quantity) (r : SensorRecord) : (s.setSensor q r).loadFlags = s.loadFlags := rfl
@[simp] theorem State.setSensor_buffer (s : State) (q : Quantity) (r : SensorRecord) : (s.setSensor q r).buffer = s.buffer := rfl
@[simp] theorem State.setSensor_flight (s : State) (q : Quantity) (r : SensorRecord) : (s.setSensor q r).flight = s.flight := rfl
@[simp] theorem State.setSensor_replies (s : State) (q : Quantity) (r : SensorRecord) : (s.setSensor q r).replies = s.replies := rfl
@[simp] theorem State.setSensor_restarting (s : State) (q : Quantity) (r : SensorRecord) : (s.setSensor q r).restarting = s.restarting := rfl
@[simp] theorem State.setSensor_reports (s : State) (q : Quantity) (r : SensorRecord) : (s.setSensor q r).reports = s.reports := rfl
@[simp] theorem State.setSensor_statusSlot (s : State) (q : Quantity) (r : SensorRecord) : (s.setSensor q r).statusSlot = s.statusSlot := rfl
@[simp] theorem State.setSensor_statusTimer (s : State) (q : Quantity) (r : SensorRecord) : (s.setSensor q r).statusTimer = s.statusTimer := rfl
@[simp] theorem State.setSensor_machineFault (s : State) (q : Quantity) (r : SensorRecord) : (s.setSensor q r).machineFault = s.machineFault := rfl
@[simp] theorem State.setSensor_barFault (s : State) (q : Quantity) (r : SensorRecord) : (s.setSensor q r).barFault = s.barFault := rfl
@[simp] theorem State.setSensor_counters (s : State) (q : Quantity) (r : SensorRecord) : (s.setSensor q r).counters = s.counters := rfl
@[simp] theorem State.setSensor_choices (s : State) (q : Quantity) (r : SensorRecord) : (s.setSensor q r).choices = s.choices := rfl

/-! ## `State.countPort` -/

@[simp] theorem State.countPort_pending (s : State) (p : Port) (f : PortCounters → PortCounters) : (s.countPort p f).pending = s.pending := rfl
@[simp] theorem State.countPort_resetLow (s : State) (p : Port) (f : PortCounters → PortCounters) : (s.countPort p f).resetLow = s.resetLow := rfl
@[simp] theorem State.countPort_bitRate (s : State) (p : Port) (f : PortCounters → PortCounters) : (s.countPort p f).bitRate = s.bitRate := rfl
@[simp] theorem State.countPort_millis (s : State) (p : Port) (f : PortCounters → PortCounters) : (s.countPort p f).millis = s.millis := rfl
@[simp] theorem State.countPort_ports (s : State) (p : Port) (f : PortCounters → PortCounters) : (s.countPort p f).ports = s.ports := rfl
@[simp] theorem State.countPort_channel (s : State) (p : Port) (f : PortCounters → PortCounters) : (s.countPort p f).channel = s.channel := rfl
@[simp] theorem State.countPort_governor (s : State) (p : Port) (f : PortCounters → PortCounters) : (s.countPort p f).governor = s.governor := rfl
@[simp] theorem State.countPort_quiet (s : State) (p : Port) (f : PortCounters → PortCounters) : (s.countPort p f).quiet = s.quiet := rfl
@[simp] theorem State.countPort_sensors (s : State) (p : Port) (f : PortCounters → PortCounters) : (s.countPort p f).sensors = s.sensors := rfl
@[simp] theorem State.countPort_earlierMap (s : State) (p : Port) (f : PortCounters → PortCounters) : (s.countPort p f).earlierMap = s.earlierMap := rfl
@[simp] theorem State.countPort_joints (s : State) (p : Port) (f : PortCounters → PortCounters) : (s.countPort p f).joints = s.joints := rfl
@[simp] theorem State.countPort_extension (s : State) (p : Port) (f : PortCounters → PortCounters) : (s.countPort p f).extension = s.extension := rfl
@[simp] theorem State.countPort_mismatch (s : State) (p : Port) (f : PortCounters → PortCounters) : (s.countPort p f).mismatch = s.mismatch := rfl
@[simp] theorem State.countPort_depthHeld (s : State) (p : Port) (f : PortCounters → PortCounters) : (s.countPort p f).depthHeld = s.depthHeld := rfl
@[simp] theorem State.countPort_keyTravel (s : State) (p : Port) (f : PortCounters → PortCounters) : (s.countPort p f).keyTravel = s.keyTravel := rfl
@[simp] theorem State.countPort_angleRef (s : State) (p : Port) (f : PortCounters → PortCounters) : (s.countPort p f).angleRef = s.angleRef := rfl
@[simp] theorem State.countPort_band (s : State) (p : Port) (f : PortCounters → PortCounters) : (s.countPort p f).band = s.band := rfl
@[simp] theorem State.countPort_backoff (s : State) (p : Port) (f : PortCounters → PortCounters) : (s.countPort p f).backoff = s.backoff := rfl
@[simp] theorem State.countPort_stallTimer (s : State) (p : Port) (f : PortCounters → PortCounters) : (s.countPort p f).stallTimer = s.stallTimer := rfl
@[simp] theorem State.countPort_recoveryTimer (s : State) (p : Port) (f : PortCounters → PortCounters) : (s.countPort p f).recoveryTimer = s.recoveryTimer := rfl
@[simp] theorem State.countPort_axes (s : State) (p : Port) (f : PortCounters → PortCounters) : (s.countPort p f).axes = s.axes := rfl
@[simp] theorem State.countPort_deliveries (s : State) (p : Port) (f : PortCounters → PortCounters) : (s.countPort p f).deliveries = s.deliveries := rfl
@[simp] theorem State.countPort_sequencer (s : State) (p : Port) (f : PortCounters → PortCounters) : (s.countPort p f).sequencer = s.sequencer := rfl
@[simp] theorem State.countPort_sequenceTimer (s : State) (p : Port) (f : PortCounters → PortCounters) : (s.countPort p f).sequenceTimer = s.sequenceTimer := rfl
@[simp] theorem State.countPort_aborts (s : State) (p : Port) (f : PortCounters → PortCounters) : (s.countPort p f).aborts = s.aborts := rfl
@[simp] theorem State.countPort_tables (s : State) (p : Port) (f : PortCounters → PortCounters) : (s.countPort p f).tables = s.tables := rfl
@[simp] theorem State.countPort_selection (s : State) (p : Port) (f : PortCounters → PortCounters) : (s.countPort p f).selection = s.selection := rfl
@[simp] theorem State.countPort_loadFlags (s : State) (p : Port) (f : PortCounters → PortCounters) : (s.countPort p f).loadFlags = s.loadFlags := rfl
@[simp] theorem State.countPort_buffer (s : State) (p : Port) (f : PortCounters → PortCounters) : (s.countPort p f).buffer = s.buffer := rfl
@[simp] theorem State.countPort_flight (s : State) (p : Port) (f : PortCounters → PortCounters) : (s.countPort p f).flight = s.flight := rfl
@[simp] theorem State.countPort_replies (s : State) (p : Port) (f : PortCounters → PortCounters) : (s.countPort p f).replies = s.replies := rfl
@[simp] theorem State.countPort_restarting (s : State) (p : Port) (f : PortCounters → PortCounters) : (s.countPort p f).restarting = s.restarting := rfl
@[simp] theorem State.countPort_reports (s : State) (p : Port) (f : PortCounters → PortCounters) : (s.countPort p f).reports = s.reports := rfl
@[simp] theorem State.countPort_statusSlot (s : State) (p : Port) (f : PortCounters → PortCounters) : (s.countPort p f).statusSlot = s.statusSlot := rfl
@[simp] theorem State.countPort_statusTimer (s : State) (p : Port) (f : PortCounters → PortCounters) : (s.countPort p f).statusTimer = s.statusTimer := rfl
@[simp] theorem State.countPort_machineFault (s : State) (p : Port) (f : PortCounters → PortCounters) : (s.countPort p f).machineFault = s.machineFault := rfl
@[simp] theorem State.countPort_barFault (s : State) (p : Port) (f : PortCounters → PortCounters) : (s.countPort p f).barFault = s.barFault := rfl
@[simp] theorem State.countPort_choices (s : State) (p : Port) (f : PortCounters → PortCounters) : (s.countPort p f).choices = s.choices := rfl

/-! ## `State.countAxis` -/

@[simp] theorem State.countAxis_pending (s : State) (a : Axis) (f : AxisCounters → AxisCounters) : (s.countAxis a f).pending = s.pending := rfl
@[simp] theorem State.countAxis_resetLow (s : State) (a : Axis) (f : AxisCounters → AxisCounters) : (s.countAxis a f).resetLow = s.resetLow := rfl
@[simp] theorem State.countAxis_bitRate (s : State) (a : Axis) (f : AxisCounters → AxisCounters) : (s.countAxis a f).bitRate = s.bitRate := rfl
@[simp] theorem State.countAxis_millis (s : State) (a : Axis) (f : AxisCounters → AxisCounters) : (s.countAxis a f).millis = s.millis := rfl
@[simp] theorem State.countAxis_ports (s : State) (a : Axis) (f : AxisCounters → AxisCounters) : (s.countAxis a f).ports = s.ports := rfl
@[simp] theorem State.countAxis_channel (s : State) (a : Axis) (f : AxisCounters → AxisCounters) : (s.countAxis a f).channel = s.channel := rfl
@[simp] theorem State.countAxis_governor (s : State) (a : Axis) (f : AxisCounters → AxisCounters) : (s.countAxis a f).governor = s.governor := rfl
@[simp] theorem State.countAxis_quiet (s : State) (a : Axis) (f : AxisCounters → AxisCounters) : (s.countAxis a f).quiet = s.quiet := rfl
@[simp] theorem State.countAxis_sensors (s : State) (a : Axis) (f : AxisCounters → AxisCounters) : (s.countAxis a f).sensors = s.sensors := rfl
@[simp] theorem State.countAxis_earlierMap (s : State) (a : Axis) (f : AxisCounters → AxisCounters) : (s.countAxis a f).earlierMap = s.earlierMap := rfl
@[simp] theorem State.countAxis_joints (s : State) (a : Axis) (f : AxisCounters → AxisCounters) : (s.countAxis a f).joints = s.joints := rfl
@[simp] theorem State.countAxis_extension (s : State) (a : Axis) (f : AxisCounters → AxisCounters) : (s.countAxis a f).extension = s.extension := rfl
@[simp] theorem State.countAxis_mismatch (s : State) (a : Axis) (f : AxisCounters → AxisCounters) : (s.countAxis a f).mismatch = s.mismatch := rfl
@[simp] theorem State.countAxis_depthHeld (s : State) (a : Axis) (f : AxisCounters → AxisCounters) : (s.countAxis a f).depthHeld = s.depthHeld := rfl
@[simp] theorem State.countAxis_keyTravel (s : State) (a : Axis) (f : AxisCounters → AxisCounters) : (s.countAxis a f).keyTravel = s.keyTravel := rfl
@[simp] theorem State.countAxis_angleRef (s : State) (a : Axis) (f : AxisCounters → AxisCounters) : (s.countAxis a f).angleRef = s.angleRef := rfl
@[simp] theorem State.countAxis_band (s : State) (a : Axis) (f : AxisCounters → AxisCounters) : (s.countAxis a f).band = s.band := rfl
@[simp] theorem State.countAxis_backoff (s : State) (a : Axis) (f : AxisCounters → AxisCounters) : (s.countAxis a f).backoff = s.backoff := rfl
@[simp] theorem State.countAxis_stallTimer (s : State) (a : Axis) (f : AxisCounters → AxisCounters) : (s.countAxis a f).stallTimer = s.stallTimer := rfl
@[simp] theorem State.countAxis_recoveryTimer (s : State) (a : Axis) (f : AxisCounters → AxisCounters) : (s.countAxis a f).recoveryTimer = s.recoveryTimer := rfl
@[simp] theorem State.countAxis_axes (s : State) (a : Axis) (f : AxisCounters → AxisCounters) : (s.countAxis a f).axes = s.axes := rfl
@[simp] theorem State.countAxis_deliveries (s : State) (a : Axis) (f : AxisCounters → AxisCounters) : (s.countAxis a f).deliveries = s.deliveries := rfl
@[simp] theorem State.countAxis_sequencer (s : State) (a : Axis) (f : AxisCounters → AxisCounters) : (s.countAxis a f).sequencer = s.sequencer := rfl
@[simp] theorem State.countAxis_sequenceTimer (s : State) (a : Axis) (f : AxisCounters → AxisCounters) : (s.countAxis a f).sequenceTimer = s.sequenceTimer := rfl
@[simp] theorem State.countAxis_aborts (s : State) (a : Axis) (f : AxisCounters → AxisCounters) : (s.countAxis a f).aborts = s.aborts := rfl
@[simp] theorem State.countAxis_tables (s : State) (a : Axis) (f : AxisCounters → AxisCounters) : (s.countAxis a f).tables = s.tables := rfl
@[simp] theorem State.countAxis_selection (s : State) (a : Axis) (f : AxisCounters → AxisCounters) : (s.countAxis a f).selection = s.selection := rfl
@[simp] theorem State.countAxis_loadFlags (s : State) (a : Axis) (f : AxisCounters → AxisCounters) : (s.countAxis a f).loadFlags = s.loadFlags := rfl
@[simp] theorem State.countAxis_buffer (s : State) (a : Axis) (f : AxisCounters → AxisCounters) : (s.countAxis a f).buffer = s.buffer := rfl
@[simp] theorem State.countAxis_flight (s : State) (a : Axis) (f : AxisCounters → AxisCounters) : (s.countAxis a f).flight = s.flight := rfl
@[simp] theorem State.countAxis_replies (s : State) (a : Axis) (f : AxisCounters → AxisCounters) : (s.countAxis a f).replies = s.replies := rfl
@[simp] theorem State.countAxis_restarting (s : State) (a : Axis) (f : AxisCounters → AxisCounters) : (s.countAxis a f).restarting = s.restarting := rfl
@[simp] theorem State.countAxis_reports (s : State) (a : Axis) (f : AxisCounters → AxisCounters) : (s.countAxis a f).reports = s.reports := rfl
@[simp] theorem State.countAxis_statusSlot (s : State) (a : Axis) (f : AxisCounters → AxisCounters) : (s.countAxis a f).statusSlot = s.statusSlot := rfl
@[simp] theorem State.countAxis_statusTimer (s : State) (a : Axis) (f : AxisCounters → AxisCounters) : (s.countAxis a f).statusTimer = s.statusTimer := rfl
@[simp] theorem State.countAxis_machineFault (s : State) (a : Axis) (f : AxisCounters → AxisCounters) : (s.countAxis a f).machineFault = s.machineFault := rfl
@[simp] theorem State.countAxis_barFault (s : State) (a : Axis) (f : AxisCounters → AxisCounters) : (s.countAxis a f).barFault = s.barFault := rfl
@[simp] theorem State.countAxis_choices (s : State) (a : Axis) (f : AxisCounters → AxisCounters) : (s.countAxis a f).choices = s.choices := rfl

/-! ## `State.countDelivery` -/

@[simp] theorem State.countDelivery_pending (s : State) (a : Axis) (f : DeliveryCounters → DeliveryCounters) : (s.countDelivery a f).pending = s.pending := rfl
@[simp] theorem State.countDelivery_resetLow (s : State) (a : Axis) (f : DeliveryCounters → DeliveryCounters) : (s.countDelivery a f).resetLow = s.resetLow := rfl
@[simp] theorem State.countDelivery_bitRate (s : State) (a : Axis) (f : DeliveryCounters → DeliveryCounters) : (s.countDelivery a f).bitRate = s.bitRate := rfl
@[simp] theorem State.countDelivery_millis (s : State) (a : Axis) (f : DeliveryCounters → DeliveryCounters) : (s.countDelivery a f).millis = s.millis := rfl
@[simp] theorem State.countDelivery_ports (s : State) (a : Axis) (f : DeliveryCounters → DeliveryCounters) : (s.countDelivery a f).ports = s.ports := rfl
@[simp] theorem State.countDelivery_channel (s : State) (a : Axis) (f : DeliveryCounters → DeliveryCounters) : (s.countDelivery a f).channel = s.channel := rfl
@[simp] theorem State.countDelivery_governor (s : State) (a : Axis) (f : DeliveryCounters → DeliveryCounters) : (s.countDelivery a f).governor = s.governor := rfl
@[simp] theorem State.countDelivery_quiet (s : State) (a : Axis) (f : DeliveryCounters → DeliveryCounters) : (s.countDelivery a f).quiet = s.quiet := rfl
@[simp] theorem State.countDelivery_sensors (s : State) (a : Axis) (f : DeliveryCounters → DeliveryCounters) : (s.countDelivery a f).sensors = s.sensors := rfl
@[simp] theorem State.countDelivery_earlierMap (s : State) (a : Axis) (f : DeliveryCounters → DeliveryCounters) : (s.countDelivery a f).earlierMap = s.earlierMap := rfl
@[simp] theorem State.countDelivery_joints (s : State) (a : Axis) (f : DeliveryCounters → DeliveryCounters) : (s.countDelivery a f).joints = s.joints := rfl
@[simp] theorem State.countDelivery_extension (s : State) (a : Axis) (f : DeliveryCounters → DeliveryCounters) : (s.countDelivery a f).extension = s.extension := rfl
@[simp] theorem State.countDelivery_mismatch (s : State) (a : Axis) (f : DeliveryCounters → DeliveryCounters) : (s.countDelivery a f).mismatch = s.mismatch := rfl
@[simp] theorem State.countDelivery_depthHeld (s : State) (a : Axis) (f : DeliveryCounters → DeliveryCounters) : (s.countDelivery a f).depthHeld = s.depthHeld := rfl
@[simp] theorem State.countDelivery_keyTravel (s : State) (a : Axis) (f : DeliveryCounters → DeliveryCounters) : (s.countDelivery a f).keyTravel = s.keyTravel := rfl
@[simp] theorem State.countDelivery_angleRef (s : State) (a : Axis) (f : DeliveryCounters → DeliveryCounters) : (s.countDelivery a f).angleRef = s.angleRef := rfl
@[simp] theorem State.countDelivery_band (s : State) (a : Axis) (f : DeliveryCounters → DeliveryCounters) : (s.countDelivery a f).band = s.band := rfl
@[simp] theorem State.countDelivery_backoff (s : State) (a : Axis) (f : DeliveryCounters → DeliveryCounters) : (s.countDelivery a f).backoff = s.backoff := rfl
@[simp] theorem State.countDelivery_stallTimer (s : State) (a : Axis) (f : DeliveryCounters → DeliveryCounters) : (s.countDelivery a f).stallTimer = s.stallTimer := rfl
@[simp] theorem State.countDelivery_recoveryTimer (s : State) (a : Axis) (f : DeliveryCounters → DeliveryCounters) : (s.countDelivery a f).recoveryTimer = s.recoveryTimer := rfl
@[simp] theorem State.countDelivery_axes (s : State) (a : Axis) (f : DeliveryCounters → DeliveryCounters) : (s.countDelivery a f).axes = s.axes := rfl
@[simp] theorem State.countDelivery_deliveries (s : State) (a : Axis) (f : DeliveryCounters → DeliveryCounters) : (s.countDelivery a f).deliveries = s.deliveries := rfl
@[simp] theorem State.countDelivery_sequencer (s : State) (a : Axis) (f : DeliveryCounters → DeliveryCounters) : (s.countDelivery a f).sequencer = s.sequencer := rfl
@[simp] theorem State.countDelivery_sequenceTimer (s : State) (a : Axis) (f : DeliveryCounters → DeliveryCounters) : (s.countDelivery a f).sequenceTimer = s.sequenceTimer := rfl
@[simp] theorem State.countDelivery_aborts (s : State) (a : Axis) (f : DeliveryCounters → DeliveryCounters) : (s.countDelivery a f).aborts = s.aborts := rfl
@[simp] theorem State.countDelivery_tables (s : State) (a : Axis) (f : DeliveryCounters → DeliveryCounters) : (s.countDelivery a f).tables = s.tables := rfl
@[simp] theorem State.countDelivery_selection (s : State) (a : Axis) (f : DeliveryCounters → DeliveryCounters) : (s.countDelivery a f).selection = s.selection := rfl
@[simp] theorem State.countDelivery_loadFlags (s : State) (a : Axis) (f : DeliveryCounters → DeliveryCounters) : (s.countDelivery a f).loadFlags = s.loadFlags := rfl
@[simp] theorem State.countDelivery_buffer (s : State) (a : Axis) (f : DeliveryCounters → DeliveryCounters) : (s.countDelivery a f).buffer = s.buffer := rfl
@[simp] theorem State.countDelivery_flight (s : State) (a : Axis) (f : DeliveryCounters → DeliveryCounters) : (s.countDelivery a f).flight = s.flight := rfl
@[simp] theorem State.countDelivery_replies (s : State) (a : Axis) (f : DeliveryCounters → DeliveryCounters) : (s.countDelivery a f).replies = s.replies := rfl
@[simp] theorem State.countDelivery_restarting (s : State) (a : Axis) (f : DeliveryCounters → DeliveryCounters) : (s.countDelivery a f).restarting = s.restarting := rfl
@[simp] theorem State.countDelivery_reports (s : State) (a : Axis) (f : DeliveryCounters → DeliveryCounters) : (s.countDelivery a f).reports = s.reports := rfl
@[simp] theorem State.countDelivery_statusSlot (s : State) (a : Axis) (f : DeliveryCounters → DeliveryCounters) : (s.countDelivery a f).statusSlot = s.statusSlot := rfl
@[simp] theorem State.countDelivery_statusTimer (s : State) (a : Axis) (f : DeliveryCounters → DeliveryCounters) : (s.countDelivery a f).statusTimer = s.statusTimer := rfl
@[simp] theorem State.countDelivery_machineFault (s : State) (a : Axis) (f : DeliveryCounters → DeliveryCounters) : (s.countDelivery a f).machineFault = s.machineFault := rfl
@[simp] theorem State.countDelivery_barFault (s : State) (a : Axis) (f : DeliveryCounters → DeliveryCounters) : (s.countDelivery a f).barFault = s.barFault := rfl
@[simp] theorem State.countDelivery_choices (s : State) (a : Axis) (f : DeliveryCounters → DeliveryCounters) : (s.countDelivery a f).choices = s.choices := rfl

/-! ## `State.countQuantity` -/

@[simp] theorem State.countQuantity_pending (s : State) (q : Quantity) (f : QuantityCounters → QuantityCounters) : (s.countQuantity q f).pending = s.pending := rfl
@[simp] theorem State.countQuantity_resetLow (s : State) (q : Quantity) (f : QuantityCounters → QuantityCounters) : (s.countQuantity q f).resetLow = s.resetLow := rfl
@[simp] theorem State.countQuantity_bitRate (s : State) (q : Quantity) (f : QuantityCounters → QuantityCounters) : (s.countQuantity q f).bitRate = s.bitRate := rfl
@[simp] theorem State.countQuantity_millis (s : State) (q : Quantity) (f : QuantityCounters → QuantityCounters) : (s.countQuantity q f).millis = s.millis := rfl
@[simp] theorem State.countQuantity_ports (s : State) (q : Quantity) (f : QuantityCounters → QuantityCounters) : (s.countQuantity q f).ports = s.ports := rfl
@[simp] theorem State.countQuantity_channel (s : State) (q : Quantity) (f : QuantityCounters → QuantityCounters) : (s.countQuantity q f).channel = s.channel := rfl
@[simp] theorem State.countQuantity_governor (s : State) (q : Quantity) (f : QuantityCounters → QuantityCounters) : (s.countQuantity q f).governor = s.governor := rfl
@[simp] theorem State.countQuantity_quiet (s : State) (q : Quantity) (f : QuantityCounters → QuantityCounters) : (s.countQuantity q f).quiet = s.quiet := rfl
@[simp] theorem State.countQuantity_sensors (s : State) (q : Quantity) (f : QuantityCounters → QuantityCounters) : (s.countQuantity q f).sensors = s.sensors := rfl
@[simp] theorem State.countQuantity_earlierMap (s : State) (q : Quantity) (f : QuantityCounters → QuantityCounters) : (s.countQuantity q f).earlierMap = s.earlierMap := rfl
@[simp] theorem State.countQuantity_joints (s : State) (q : Quantity) (f : QuantityCounters → QuantityCounters) : (s.countQuantity q f).joints = s.joints := rfl
@[simp] theorem State.countQuantity_extension (s : State) (q : Quantity) (f : QuantityCounters → QuantityCounters) : (s.countQuantity q f).extension = s.extension := rfl
@[simp] theorem State.countQuantity_mismatch (s : State) (q : Quantity) (f : QuantityCounters → QuantityCounters) : (s.countQuantity q f).mismatch = s.mismatch := rfl
@[simp] theorem State.countQuantity_depthHeld (s : State) (q : Quantity) (f : QuantityCounters → QuantityCounters) : (s.countQuantity q f).depthHeld = s.depthHeld := rfl
@[simp] theorem State.countQuantity_keyTravel (s : State) (q : Quantity) (f : QuantityCounters → QuantityCounters) : (s.countQuantity q f).keyTravel = s.keyTravel := rfl
@[simp] theorem State.countQuantity_angleRef (s : State) (q : Quantity) (f : QuantityCounters → QuantityCounters) : (s.countQuantity q f).angleRef = s.angleRef := rfl
@[simp] theorem State.countQuantity_band (s : State) (q : Quantity) (f : QuantityCounters → QuantityCounters) : (s.countQuantity q f).band = s.band := rfl
@[simp] theorem State.countQuantity_backoff (s : State) (q : Quantity) (f : QuantityCounters → QuantityCounters) : (s.countQuantity q f).backoff = s.backoff := rfl
@[simp] theorem State.countQuantity_stallTimer (s : State) (q : Quantity) (f : QuantityCounters → QuantityCounters) : (s.countQuantity q f).stallTimer = s.stallTimer := rfl
@[simp] theorem State.countQuantity_recoveryTimer (s : State) (q : Quantity) (f : QuantityCounters → QuantityCounters) : (s.countQuantity q f).recoveryTimer = s.recoveryTimer := rfl
@[simp] theorem State.countQuantity_axes (s : State) (q : Quantity) (f : QuantityCounters → QuantityCounters) : (s.countQuantity q f).axes = s.axes := rfl
@[simp] theorem State.countQuantity_deliveries (s : State) (q : Quantity) (f : QuantityCounters → QuantityCounters) : (s.countQuantity q f).deliveries = s.deliveries := rfl
@[simp] theorem State.countQuantity_sequencer (s : State) (q : Quantity) (f : QuantityCounters → QuantityCounters) : (s.countQuantity q f).sequencer = s.sequencer := rfl
@[simp] theorem State.countQuantity_sequenceTimer (s : State) (q : Quantity) (f : QuantityCounters → QuantityCounters) : (s.countQuantity q f).sequenceTimer = s.sequenceTimer := rfl
@[simp] theorem State.countQuantity_aborts (s : State) (q : Quantity) (f : QuantityCounters → QuantityCounters) : (s.countQuantity q f).aborts = s.aborts := rfl
@[simp] theorem State.countQuantity_tables (s : State) (q : Quantity) (f : QuantityCounters → QuantityCounters) : (s.countQuantity q f).tables = s.tables := rfl
@[simp] theorem State.countQuantity_selection (s : State) (q : Quantity) (f : QuantityCounters → QuantityCounters) : (s.countQuantity q f).selection = s.selection := rfl
@[simp] theorem State.countQuantity_loadFlags (s : State) (q : Quantity) (f : QuantityCounters → QuantityCounters) : (s.countQuantity q f).loadFlags = s.loadFlags := rfl
@[simp] theorem State.countQuantity_buffer (s : State) (q : Quantity) (f : QuantityCounters → QuantityCounters) : (s.countQuantity q f).buffer = s.buffer := rfl
@[simp] theorem State.countQuantity_flight (s : State) (q : Quantity) (f : QuantityCounters → QuantityCounters) : (s.countQuantity q f).flight = s.flight := rfl
@[simp] theorem State.countQuantity_replies (s : State) (q : Quantity) (f : QuantityCounters → QuantityCounters) : (s.countQuantity q f).replies = s.replies := rfl
@[simp] theorem State.countQuantity_restarting (s : State) (q : Quantity) (f : QuantityCounters → QuantityCounters) : (s.countQuantity q f).restarting = s.restarting := rfl
@[simp] theorem State.countQuantity_reports (s : State) (q : Quantity) (f : QuantityCounters → QuantityCounters) : (s.countQuantity q f).reports = s.reports := rfl
@[simp] theorem State.countQuantity_statusSlot (s : State) (q : Quantity) (f : QuantityCounters → QuantityCounters) : (s.countQuantity q f).statusSlot = s.statusSlot := rfl
@[simp] theorem State.countQuantity_statusTimer (s : State) (q : Quantity) (f : QuantityCounters → QuantityCounters) : (s.countQuantity q f).statusTimer = s.statusTimer := rfl
@[simp] theorem State.countQuantity_machineFault (s : State) (q : Quantity) (f : QuantityCounters → QuantityCounters) : (s.countQuantity q f).machineFault = s.machineFault := rfl
@[simp] theorem State.countQuantity_barFault (s : State) (q : Quantity) (f : QuantityCounters → QuantityCounters) : (s.countQuantity q f).barFault = s.barFault := rfl
@[simp] theorem State.countQuantity_choices (s : State) (q : Quantity) (f : QuantityCounters → QuantityCounters) : (s.countQuantity q f).choices = s.choices := rfl

/-! ## `State.countPart` -/

@[simp] theorem State.countPart_pending (s : State) (f : PartCounters → PartCounters) : (s.countPart f).pending = s.pending := rfl
@[simp] theorem State.countPart_resetLow (s : State) (f : PartCounters → PartCounters) : (s.countPart f).resetLow = s.resetLow := rfl
@[simp] theorem State.countPart_bitRate (s : State) (f : PartCounters → PartCounters) : (s.countPart f).bitRate = s.bitRate := rfl
@[simp] theorem State.countPart_millis (s : State) (f : PartCounters → PartCounters) : (s.countPart f).millis = s.millis := rfl
@[simp] theorem State.countPart_ports (s : State) (f : PartCounters → PartCounters) : (s.countPart f).ports = s.ports := rfl
@[simp] theorem State.countPart_channel (s : State) (f : PartCounters → PartCounters) : (s.countPart f).channel = s.channel := rfl
@[simp] theorem State.countPart_governor (s : State) (f : PartCounters → PartCounters) : (s.countPart f).governor = s.governor := rfl
@[simp] theorem State.countPart_quiet (s : State) (f : PartCounters → PartCounters) : (s.countPart f).quiet = s.quiet := rfl
@[simp] theorem State.countPart_sensors (s : State) (f : PartCounters → PartCounters) : (s.countPart f).sensors = s.sensors := rfl
@[simp] theorem State.countPart_earlierMap (s : State) (f : PartCounters → PartCounters) : (s.countPart f).earlierMap = s.earlierMap := rfl
@[simp] theorem State.countPart_joints (s : State) (f : PartCounters → PartCounters) : (s.countPart f).joints = s.joints := rfl
@[simp] theorem State.countPart_extension (s : State) (f : PartCounters → PartCounters) : (s.countPart f).extension = s.extension := rfl
@[simp] theorem State.countPart_mismatch (s : State) (f : PartCounters → PartCounters) : (s.countPart f).mismatch = s.mismatch := rfl
@[simp] theorem State.countPart_depthHeld (s : State) (f : PartCounters → PartCounters) : (s.countPart f).depthHeld = s.depthHeld := rfl
@[simp] theorem State.countPart_keyTravel (s : State) (f : PartCounters → PartCounters) : (s.countPart f).keyTravel = s.keyTravel := rfl
@[simp] theorem State.countPart_angleRef (s : State) (f : PartCounters → PartCounters) : (s.countPart f).angleRef = s.angleRef := rfl
@[simp] theorem State.countPart_band (s : State) (f : PartCounters → PartCounters) : (s.countPart f).band = s.band := rfl
@[simp] theorem State.countPart_backoff (s : State) (f : PartCounters → PartCounters) : (s.countPart f).backoff = s.backoff := rfl
@[simp] theorem State.countPart_stallTimer (s : State) (f : PartCounters → PartCounters) : (s.countPart f).stallTimer = s.stallTimer := rfl
@[simp] theorem State.countPart_recoveryTimer (s : State) (f : PartCounters → PartCounters) : (s.countPart f).recoveryTimer = s.recoveryTimer := rfl
@[simp] theorem State.countPart_axes (s : State) (f : PartCounters → PartCounters) : (s.countPart f).axes = s.axes := rfl
@[simp] theorem State.countPart_deliveries (s : State) (f : PartCounters → PartCounters) : (s.countPart f).deliveries = s.deliveries := rfl
@[simp] theorem State.countPart_sequencer (s : State) (f : PartCounters → PartCounters) : (s.countPart f).sequencer = s.sequencer := rfl
@[simp] theorem State.countPart_sequenceTimer (s : State) (f : PartCounters → PartCounters) : (s.countPart f).sequenceTimer = s.sequenceTimer := rfl
@[simp] theorem State.countPart_aborts (s : State) (f : PartCounters → PartCounters) : (s.countPart f).aborts = s.aborts := rfl
@[simp] theorem State.countPart_tables (s : State) (f : PartCounters → PartCounters) : (s.countPart f).tables = s.tables := rfl
@[simp] theorem State.countPart_selection (s : State) (f : PartCounters → PartCounters) : (s.countPart f).selection = s.selection := rfl
@[simp] theorem State.countPart_loadFlags (s : State) (f : PartCounters → PartCounters) : (s.countPart f).loadFlags = s.loadFlags := rfl
@[simp] theorem State.countPart_buffer (s : State) (f : PartCounters → PartCounters) : (s.countPart f).buffer = s.buffer := rfl
@[simp] theorem State.countPart_flight (s : State) (f : PartCounters → PartCounters) : (s.countPart f).flight = s.flight := rfl
@[simp] theorem State.countPart_replies (s : State) (f : PartCounters → PartCounters) : (s.countPart f).replies = s.replies := rfl
@[simp] theorem State.countPart_restarting (s : State) (f : PartCounters → PartCounters) : (s.countPart f).restarting = s.restarting := rfl
@[simp] theorem State.countPart_reports (s : State) (f : PartCounters → PartCounters) : (s.countPart f).reports = s.reports := rfl
@[simp] theorem State.countPart_statusSlot (s : State) (f : PartCounters → PartCounters) : (s.countPart f).statusSlot = s.statusSlot := rfl
@[simp] theorem State.countPart_statusTimer (s : State) (f : PartCounters → PartCounters) : (s.countPart f).statusTimer = s.statusTimer := rfl
@[simp] theorem State.countPart_machineFault (s : State) (f : PartCounters → PartCounters) : (s.countPart f).machineFault = s.machineFault := rfl
@[simp] theorem State.countPart_barFault (s : State) (f : PartCounters → PartCounters) : (s.countPart f).barFault = s.barFault := rfl
@[simp] theorem State.countPart_choices (s : State) (f : PartCounters → PartCounters) : (s.countPart f).choices = s.choices := rfl

/-! ## `report` -/

@[simp] theorem report_pending (s : State) (k : EventKind) (i : Nat) (d : Int) : (report s k i d).pending = s.pending := rfl
@[simp] theorem report_resetLow (s : State) (k : EventKind) (i : Nat) (d : Int) : (report s k i d).resetLow = s.resetLow := rfl
@[simp] theorem report_bitRate (s : State) (k : EventKind) (i : Nat) (d : Int) : (report s k i d).bitRate = s.bitRate := rfl
@[simp] theorem report_millis (s : State) (k : EventKind) (i : Nat) (d : Int) : (report s k i d).millis = s.millis := rfl
@[simp] theorem report_ports (s : State) (k : EventKind) (i : Nat) (d : Int) : (report s k i d).ports = s.ports := rfl
@[simp] theorem report_channel (s : State) (k : EventKind) (i : Nat) (d : Int) : (report s k i d).channel = s.channel := rfl
@[simp] theorem report_governor (s : State) (k : EventKind) (i : Nat) (d : Int) : (report s k i d).governor = s.governor := rfl
@[simp] theorem report_quiet (s : State) (k : EventKind) (i : Nat) (d : Int) : (report s k i d).quiet = s.quiet := rfl
@[simp] theorem report_sensors (s : State) (k : EventKind) (i : Nat) (d : Int) : (report s k i d).sensors = s.sensors := rfl
@[simp] theorem report_earlierMap (s : State) (k : EventKind) (i : Nat) (d : Int) : (report s k i d).earlierMap = s.earlierMap := rfl
@[simp] theorem report_joints (s : State) (k : EventKind) (i : Nat) (d : Int) : (report s k i d).joints = s.joints := rfl
@[simp] theorem report_extension (s : State) (k : EventKind) (i : Nat) (d : Int) : (report s k i d).extension = s.extension := rfl
@[simp] theorem report_mismatch (s : State) (k : EventKind) (i : Nat) (d : Int) : (report s k i d).mismatch = s.mismatch := rfl
@[simp] theorem report_depthHeld (s : State) (k : EventKind) (i : Nat) (d : Int) : (report s k i d).depthHeld = s.depthHeld := rfl
@[simp] theorem report_keyTravel (s : State) (k : EventKind) (i : Nat) (d : Int) : (report s k i d).keyTravel = s.keyTravel := rfl
@[simp] theorem report_angleRef (s : State) (k : EventKind) (i : Nat) (d : Int) : (report s k i d).angleRef = s.angleRef := rfl
@[simp] theorem report_band (s : State) (k : EventKind) (i : Nat) (d : Int) : (report s k i d).band = s.band := rfl
@[simp] theorem report_backoff (s : State) (k : EventKind) (i : Nat) (d : Int) : (report s k i d).backoff = s.backoff := rfl
@[simp] theorem report_stallTimer (s : State) (k : EventKind) (i : Nat) (d : Int) : (report s k i d).stallTimer = s.stallTimer := rfl
@[simp] theorem report_recoveryTimer (s : State) (k : EventKind) (i : Nat) (d : Int) : (report s k i d).recoveryTimer = s.recoveryTimer := rfl
@[simp] theorem report_axes (s : State) (k : EventKind) (i : Nat) (d : Int) : (report s k i d).axes = s.axes := rfl
@[simp] theorem report_deliveries (s : State) (k : EventKind) (i : Nat) (d : Int) : (report s k i d).deliveries = s.deliveries := rfl
@[simp] theorem report_sequencer (s : State) (k : EventKind) (i : Nat) (d : Int) : (report s k i d).sequencer = s.sequencer := rfl
@[simp] theorem report_sequenceTimer (s : State) (k : EventKind) (i : Nat) (d : Int) : (report s k i d).sequenceTimer = s.sequenceTimer := rfl
@[simp] theorem report_aborts (s : State) (k : EventKind) (i : Nat) (d : Int) : (report s k i d).aborts = s.aborts := rfl
@[simp] theorem report_tables (s : State) (k : EventKind) (i : Nat) (d : Int) : (report s k i d).tables = s.tables := rfl
@[simp] theorem report_selection (s : State) (k : EventKind) (i : Nat) (d : Int) : (report s k i d).selection = s.selection := rfl
@[simp] theorem report_loadFlags (s : State) (k : EventKind) (i : Nat) (d : Int) : (report s k i d).loadFlags = s.loadFlags := rfl
@[simp] theorem report_buffer (s : State) (k : EventKind) (i : Nat) (d : Int) : (report s k i d).buffer = s.buffer := rfl
@[simp] theorem report_flight (s : State) (k : EventKind) (i : Nat) (d : Int) : (report s k i d).flight = s.flight := rfl
@[simp] theorem report_replies (s : State) (k : EventKind) (i : Nat) (d : Int) : (report s k i d).replies = s.replies := rfl
@[simp] theorem report_restarting (s : State) (k : EventKind) (i : Nat) (d : Int) : (report s k i d).restarting = s.restarting := rfl
@[simp] theorem report_reports (s : State) (k : EventKind) (i : Nat) (d : Int) : (report s k i d).reports = reportsAfter s k i d := rfl
@[simp] theorem report_statusSlot (s : State) (k : EventKind) (i : Nat) (d : Int) : (report s k i d).statusSlot = s.statusSlot := rfl
@[simp] theorem report_statusTimer (s : State) (k : EventKind) (i : Nat) (d : Int) : (report s k i d).statusTimer = s.statusTimer := rfl
@[simp] theorem report_machineFault (s : State) (k : EventKind) (i : Nat) (d : Int) : (report s k i d).machineFault = s.machineFault := rfl
@[simp] theorem report_barFault (s : State) (k : EventKind) (i : Nat) (d : Int) : (report s k i d).barFault = s.barFault := rfl
@[simp] theorem report_choices (s : State) (k : EventKind) (i : Nat) (d : Int) : (report s k i d).choices = s.choices := rfl

/-! ## `capture` -/

@[simp] theorem capture_pending (s : State) (k : FaultKind) (i : Nat) : (capture s k i).pending = s.pending := rfl
@[simp] theorem capture_resetLow (s : State) (k : FaultKind) (i : Nat) : (capture s k i).resetLow = s.resetLow := rfl
@[simp] theorem capture_bitRate (s : State) (k : FaultKind) (i : Nat) : (capture s k i).bitRate = s.bitRate := rfl
@[simp] theorem capture_millis (s : State) (k : FaultKind) (i : Nat) : (capture s k i).millis = s.millis := rfl
@[simp] theorem capture_ports (s : State) (k : FaultKind) (i : Nat) : (capture s k i).ports = s.ports := rfl
@[simp] theorem capture_channel (s : State) (k : FaultKind) (i : Nat) : (capture s k i).channel = s.channel := rfl
@[simp] theorem capture_governor (s : State) (k : FaultKind) (i : Nat) : (capture s k i).governor = s.governor := rfl
@[simp] theorem capture_quiet (s : State) (k : FaultKind) (i : Nat) : (capture s k i).quiet = s.quiet := rfl
@[simp] theorem capture_sensors (s : State) (k : FaultKind) (i : Nat) : (capture s k i).sensors = s.sensors := rfl
@[simp] theorem capture_earlierMap (s : State) (k : FaultKind) (i : Nat) : (capture s k i).earlierMap = s.earlierMap := rfl
@[simp] theorem capture_joints (s : State) (k : FaultKind) (i : Nat) : (capture s k i).joints = s.joints := rfl
@[simp] theorem capture_extension (s : State) (k : FaultKind) (i : Nat) : (capture s k i).extension = s.extension := rfl
@[simp] theorem capture_mismatch (s : State) (k : FaultKind) (i : Nat) : (capture s k i).mismatch = s.mismatch := rfl
@[simp] theorem capture_depthHeld (s : State) (k : FaultKind) (i : Nat) : (capture s k i).depthHeld = s.depthHeld := rfl
@[simp] theorem capture_keyTravel (s : State) (k : FaultKind) (i : Nat) : (capture s k i).keyTravel = s.keyTravel := rfl
@[simp] theorem capture_angleRef (s : State) (k : FaultKind) (i : Nat) : (capture s k i).angleRef = s.angleRef := rfl
@[simp] theorem capture_band (s : State) (k : FaultKind) (i : Nat) : (capture s k i).band = s.band := rfl
@[simp] theorem capture_backoff (s : State) (k : FaultKind) (i : Nat) : (capture s k i).backoff = s.backoff := rfl
@[simp] theorem capture_stallTimer (s : State) (k : FaultKind) (i : Nat) : (capture s k i).stallTimer = s.stallTimer := rfl
@[simp] theorem capture_recoveryTimer (s : State) (k : FaultKind) (i : Nat) : (capture s k i).recoveryTimer = s.recoveryTimer := rfl
@[simp] theorem capture_axes (s : State) (k : FaultKind) (i : Nat) : (capture s k i).axes = s.axes := rfl
@[simp] theorem capture_deliveries (s : State) (k : FaultKind) (i : Nat) : (capture s k i).deliveries = s.deliveries := rfl
@[simp] theorem capture_sequencer (s : State) (k : FaultKind) (i : Nat) : (capture s k i).sequencer = s.sequencer := rfl
@[simp] theorem capture_sequenceTimer (s : State) (k : FaultKind) (i : Nat) : (capture s k i).sequenceTimer = s.sequenceTimer := rfl
@[simp] theorem capture_aborts (s : State) (k : FaultKind) (i : Nat) : (capture s k i).aborts = s.aborts := rfl
@[simp] theorem capture_tables (s : State) (k : FaultKind) (i : Nat) : (capture s k i).tables = s.tables := rfl
@[simp] theorem capture_selection (s : State) (k : FaultKind) (i : Nat) : (capture s k i).selection = s.selection := rfl
@[simp] theorem capture_loadFlags (s : State) (k : FaultKind) (i : Nat) : (capture s k i).loadFlags = s.loadFlags := rfl
@[simp] theorem capture_buffer (s : State) (k : FaultKind) (i : Nat) : (capture s k i).buffer = s.buffer := rfl
@[simp] theorem capture_flight (s : State) (k : FaultKind) (i : Nat) : (capture s k i).flight = s.flight := rfl
@[simp] theorem capture_replies (s : State) (k : FaultKind) (i : Nat) : (capture s k i).replies = s.replies := rfl
@[simp] theorem capture_restarting (s : State) (k : FaultKind) (i : Nat) : (capture s k i).restarting = s.restarting := rfl
@[simp] theorem capture_reports (s : State) (k : FaultKind) (i : Nat) : (capture s k i).reports = s.reports := rfl
@[simp] theorem capture_statusSlot (s : State) (k : FaultKind) (i : Nat) : (capture s k i).statusSlot = s.statusSlot := rfl
@[simp] theorem capture_statusTimer (s : State) (k : FaultKind) (i : Nat) : (capture s k i).statusTimer = s.statusTimer := rfl
@[simp] theorem capture_counters (s : State) (k : FaultKind) (i : Nat) : (capture s k i).counters = s.counters := rfl
@[simp] theorem capture_choices (s : State) (k : FaultKind) (i : Nat) : (capture s k i).choices = s.choices := rfl

/-! ## `reply` -/

@[simp] theorem reply_pending (s : State) (k : Nat) (c : StatusCode) (w : ReplyCause) (t r d : Nat) : (reply s k c w t r d).pending = s.pending := rfl
@[simp] theorem reply_resetLow (s : State) (k : Nat) (c : StatusCode) (w : ReplyCause) (t r d : Nat) : (reply s k c w t r d).resetLow = s.resetLow := rfl
@[simp] theorem reply_bitRate (s : State) (k : Nat) (c : StatusCode) (w : ReplyCause) (t r d : Nat) : (reply s k c w t r d).bitRate = s.bitRate := rfl
@[simp] theorem reply_millis (s : State) (k : Nat) (c : StatusCode) (w : ReplyCause) (t r d : Nat) : (reply s k c w t r d).millis = s.millis := rfl
@[simp] theorem reply_ports (s : State) (k : Nat) (c : StatusCode) (w : ReplyCause) (t r d : Nat) : (reply s k c w t r d).ports = s.ports := rfl
@[simp] theorem reply_channel (s : State) (k : Nat) (c : StatusCode) (w : ReplyCause) (t r d : Nat) : (reply s k c w t r d).channel = s.channel := rfl
@[simp] theorem reply_governor (s : State) (k : Nat) (c : StatusCode) (w : ReplyCause) (t r d : Nat) : (reply s k c w t r d).governor = s.governor := rfl
@[simp] theorem reply_quiet (s : State) (k : Nat) (c : StatusCode) (w : ReplyCause) (t r d : Nat) : (reply s k c w t r d).quiet = s.quiet := rfl
@[simp] theorem reply_sensors (s : State) (k : Nat) (c : StatusCode) (w : ReplyCause) (t r d : Nat) : (reply s k c w t r d).sensors = s.sensors := rfl
@[simp] theorem reply_earlierMap (s : State) (k : Nat) (c : StatusCode) (w : ReplyCause) (t r d : Nat) : (reply s k c w t r d).earlierMap = s.earlierMap := rfl
@[simp] theorem reply_joints (s : State) (k : Nat) (c : StatusCode) (w : ReplyCause) (t r d : Nat) : (reply s k c w t r d).joints = s.joints := rfl
@[simp] theorem reply_extension (s : State) (k : Nat) (c : StatusCode) (w : ReplyCause) (t r d : Nat) : (reply s k c w t r d).extension = s.extension := rfl
@[simp] theorem reply_mismatch (s : State) (k : Nat) (c : StatusCode) (w : ReplyCause) (t r d : Nat) : (reply s k c w t r d).mismatch = s.mismatch := rfl
@[simp] theorem reply_depthHeld (s : State) (k : Nat) (c : StatusCode) (w : ReplyCause) (t r d : Nat) : (reply s k c w t r d).depthHeld = s.depthHeld := rfl
@[simp] theorem reply_keyTravel (s : State) (k : Nat) (c : StatusCode) (w : ReplyCause) (t r d : Nat) : (reply s k c w t r d).keyTravel = s.keyTravel := rfl
@[simp] theorem reply_angleRef (s : State) (k : Nat) (c : StatusCode) (w : ReplyCause) (t r d : Nat) : (reply s k c w t r d).angleRef = s.angleRef := rfl
@[simp] theorem reply_band (s : State) (k : Nat) (c : StatusCode) (w : ReplyCause) (t r d : Nat) : (reply s k c w t r d).band = s.band := rfl
@[simp] theorem reply_backoff (s : State) (k : Nat) (c : StatusCode) (w : ReplyCause) (t r d : Nat) : (reply s k c w t r d).backoff = s.backoff := rfl
@[simp] theorem reply_stallTimer (s : State) (k : Nat) (c : StatusCode) (w : ReplyCause) (t r d : Nat) : (reply s k c w t r d).stallTimer = s.stallTimer := rfl
@[simp] theorem reply_recoveryTimer (s : State) (k : Nat) (c : StatusCode) (w : ReplyCause) (t r d : Nat) : (reply s k c w t r d).recoveryTimer = s.recoveryTimer := rfl
@[simp] theorem reply_axes (s : State) (k : Nat) (c : StatusCode) (w : ReplyCause) (t r d : Nat) : (reply s k c w t r d).axes = s.axes := rfl
@[simp] theorem reply_deliveries (s : State) (k : Nat) (c : StatusCode) (w : ReplyCause) (t r d : Nat) : (reply s k c w t r d).deliveries = s.deliveries := rfl
@[simp] theorem reply_sequencer (s : State) (k : Nat) (c : StatusCode) (w : ReplyCause) (t r d : Nat) : (reply s k c w t r d).sequencer = s.sequencer := rfl
@[simp] theorem reply_sequenceTimer (s : State) (k : Nat) (c : StatusCode) (w : ReplyCause) (t r d : Nat) : (reply s k c w t r d).sequenceTimer = s.sequenceTimer := rfl
@[simp] theorem reply_aborts (s : State) (k : Nat) (c : StatusCode) (w : ReplyCause) (t r d : Nat) : (reply s k c w t r d).aborts = s.aborts := rfl
@[simp] theorem reply_tables (s : State) (k : Nat) (c : StatusCode) (w : ReplyCause) (t r d : Nat) : (reply s k c w t r d).tables = s.tables := rfl
@[simp] theorem reply_selection (s : State) (k : Nat) (c : StatusCode) (w : ReplyCause) (t r d : Nat) : (reply s k c w t r d).selection = s.selection := rfl
@[simp] theorem reply_loadFlags (s : State) (k : Nat) (c : StatusCode) (w : ReplyCause) (t r d : Nat) : (reply s k c w t r d).loadFlags = s.loadFlags := rfl
@[simp] theorem reply_buffer (s : State) (k : Nat) (c : StatusCode) (w : ReplyCause) (t r d : Nat) : (reply s k c w t r d).buffer = s.buffer := rfl
@[simp] theorem reply_flight (s : State) (k : Nat) (c : StatusCode) (w : ReplyCause) (t r d : Nat) : (reply s k c w t r d).flight = s.flight := rfl
@[simp] theorem reply_replies (s : State) (k : Nat) (c : StatusCode) (w : ReplyCause) (t r d : Nat) : (reply s k c w t r d).replies = s.replies ++ [statusReply s k c w t r d] := rfl
@[simp] theorem reply_restarting (s : State) (k : Nat) (c : StatusCode) (w : ReplyCause) (t r d : Nat) : (reply s k c w t r d).restarting = s.restarting := rfl
@[simp] theorem reply_reports (s : State) (k : Nat) (c : StatusCode) (w : ReplyCause) (t r d : Nat) : (reply s k c w t r d).reports = s.reports := rfl
@[simp] theorem reply_statusSlot (s : State) (k : Nat) (c : StatusCode) (w : ReplyCause) (t r d : Nat) : (reply s k c w t r d).statusSlot = s.statusSlot := rfl
@[simp] theorem reply_statusTimer (s : State) (k : Nat) (c : StatusCode) (w : ReplyCause) (t r d : Nat) : (reply s k c w t r d).statusTimer = s.statusTimer := rfl
@[simp] theorem reply_machineFault (s : State) (k : Nat) (c : StatusCode) (w : ReplyCause) (t r d : Nat) : (reply s k c w t r d).machineFault = s.machineFault := rfl
@[simp] theorem reply_barFault (s : State) (k : Nat) (c : StatusCode) (w : ReplyCause) (t r d : Nat) : (reply s k c w t r d).barFault = s.barFault := rfl
@[simp] theorem reply_counters (s : State) (k : Nat) (c : StatusCode) (w : ReplyCause) (t r d : Nat) : (reply s k c w t r d).counters = s.counters := rfl
@[simp] theorem reply_choices (s : State) (k : Nat) (c : StatusCode) (w : ReplyCause) (t r d : Nat) : (reply s k c w t r d).choices = s.choices := rfl

/-! ## `madeChoices` -/

@[simp] theorem madeChoices_pending (s : State) (n : Nat) : (madeChoices s n).pending = s.pending := rfl
@[simp] theorem madeChoices_resetLow (s : State) (n : Nat) : (madeChoices s n).resetLow = s.resetLow := rfl
@[simp] theorem madeChoices_bitRate (s : State) (n : Nat) : (madeChoices s n).bitRate = s.bitRate := rfl
@[simp] theorem madeChoices_millis (s : State) (n : Nat) : (madeChoices s n).millis = s.millis := rfl
@[simp] theorem madeChoices_ports (s : State) (n : Nat) : (madeChoices s n).ports = s.ports := rfl
@[simp] theorem madeChoices_channel (s : State) (n : Nat) : (madeChoices s n).channel = s.channel := rfl
@[simp] theorem madeChoices_governor (s : State) (n : Nat) : (madeChoices s n).governor = s.governor := rfl
@[simp] theorem madeChoices_quiet (s : State) (n : Nat) : (madeChoices s n).quiet = s.quiet := rfl
@[simp] theorem madeChoices_sensors (s : State) (n : Nat) : (madeChoices s n).sensors = s.sensors := rfl
@[simp] theorem madeChoices_earlierMap (s : State) (n : Nat) : (madeChoices s n).earlierMap = s.earlierMap := rfl
@[simp] theorem madeChoices_joints (s : State) (n : Nat) : (madeChoices s n).joints = s.joints := rfl
@[simp] theorem madeChoices_extension (s : State) (n : Nat) : (madeChoices s n).extension = s.extension := rfl
@[simp] theorem madeChoices_mismatch (s : State) (n : Nat) : (madeChoices s n).mismatch = s.mismatch := rfl
@[simp] theorem madeChoices_depthHeld (s : State) (n : Nat) : (madeChoices s n).depthHeld = s.depthHeld := rfl
@[simp] theorem madeChoices_keyTravel (s : State) (n : Nat) : (madeChoices s n).keyTravel = s.keyTravel := rfl
@[simp] theorem madeChoices_angleRef (s : State) (n : Nat) : (madeChoices s n).angleRef = s.angleRef := rfl
@[simp] theorem madeChoices_band (s : State) (n : Nat) : (madeChoices s n).band = s.band := rfl
@[simp] theorem madeChoices_backoff (s : State) (n : Nat) : (madeChoices s n).backoff = s.backoff := rfl
@[simp] theorem madeChoices_stallTimer (s : State) (n : Nat) : (madeChoices s n).stallTimer = s.stallTimer := rfl
@[simp] theorem madeChoices_recoveryTimer (s : State) (n : Nat) : (madeChoices s n).recoveryTimer = s.recoveryTimer := rfl
@[simp] theorem madeChoices_axes (s : State) (n : Nat) : (madeChoices s n).axes = s.axes := rfl
@[simp] theorem madeChoices_deliveries (s : State) (n : Nat) : (madeChoices s n).deliveries = s.deliveries := rfl
@[simp] theorem madeChoices_sequencer (s : State) (n : Nat) : (madeChoices s n).sequencer = s.sequencer := rfl
@[simp] theorem madeChoices_sequenceTimer (s : State) (n : Nat) : (madeChoices s n).sequenceTimer = s.sequenceTimer := rfl
@[simp] theorem madeChoices_aborts (s : State) (n : Nat) : (madeChoices s n).aborts = s.aborts := rfl
@[simp] theorem madeChoices_tables (s : State) (n : Nat) : (madeChoices s n).tables = s.tables := rfl
@[simp] theorem madeChoices_selection (s : State) (n : Nat) : (madeChoices s n).selection = s.selection := rfl
@[simp] theorem madeChoices_loadFlags (s : State) (n : Nat) : (madeChoices s n).loadFlags = s.loadFlags := rfl
@[simp] theorem madeChoices_buffer (s : State) (n : Nat) : (madeChoices s n).buffer = s.buffer := rfl
@[simp] theorem madeChoices_flight (s : State) (n : Nat) : (madeChoices s n).flight = s.flight := rfl
@[simp] theorem madeChoices_replies (s : State) (n : Nat) : (madeChoices s n).replies = s.replies := rfl
@[simp] theorem madeChoices_restarting (s : State) (n : Nat) : (madeChoices s n).restarting = s.restarting := rfl
@[simp] theorem madeChoices_reports (s : State) (n : Nat) : (madeChoices s n).reports = s.reports := rfl
@[simp] theorem madeChoices_statusSlot (s : State) (n : Nat) : (madeChoices s n).statusSlot = s.statusSlot := rfl
@[simp] theorem madeChoices_statusTimer (s : State) (n : Nat) : (madeChoices s n).statusTimer = s.statusTimer := rfl
@[simp] theorem madeChoices_machineFault (s : State) (n : Nat) : (madeChoices s n).machineFault = s.machineFault := rfl
@[simp] theorem madeChoices_barFault (s : State) (n : Nat) : (madeChoices s n).barFault = s.barFault := rfl
@[simp] theorem madeChoices_counters (s : State) (n : Nat) : (madeChoices s n).counters = s.counters := rfl
@[simp] theorem madeChoices_choices (s : State) (n : Nat) : (madeChoices s n).choices = s.choices + n := rfl

/-! ## The records of a state after an update of one -/

@[simp] theorem State.port_setPort_same (s : State) (i : Port) (r : PortRecord) : (s.setPort i r).port i = r := by
  cases i <;> rfl
@[simp] theorem State.port_setPort_other (s : State) (i j : Port) (r : PortRecord) (h : j ≠ i) : (s.setPort i r).port j = s.port j := by
  cases i <;> cases j <;> first | rfl | exact absurd rfl h
@[simp] theorem State.axis_setAxis_same (s : State) (i : Axis) (r : AxisRecord) : (s.setAxis i r).axis i = r := by
  cases i <;> rfl
@[simp] theorem State.axis_setAxis_other (s : State) (i j : Axis) (r : AxisRecord) (h : j ≠ i) : (s.setAxis i r).axis j = s.axis j := by
  cases i <;> cases j <;> first | rfl | exact absurd rfl h
@[simp] theorem State.delivery_setDelivery_same (s : State) (i : Axis) (r : DeliveryRecord) : (s.setDelivery i r).delivery i = r := by
  cases i <;> rfl
@[simp] theorem State.delivery_setDelivery_other (s : State) (i j : Axis) (r : DeliveryRecord) (h : j ≠ i) : (s.setDelivery i r).delivery j = s.delivery j := by
  cases i <;> cases j <;> first | rfl | exact absurd rfl h
@[simp] theorem State.sensor_setSensor_same (s : State) (i : Quantity) (r : SensorRecord) : (s.setSensor i r).sensor i = r := by
  cases i <;> rfl
@[simp] theorem State.sensor_setSensor_other (s : State) (i j : Quantity) (r : SensorRecord) (h : j ≠ i) : (s.setSensor i r).sensor j = s.sensor j := by
  cases i <;> cases j <;> first | rfl | exact absurd rfl h
@[simp] theorem State.setPort_axis (s : State) (p : Port) (r : PortRecord) (x : Axis) : (s.setPort p r).axis x = s.axis x := rfl
@[simp] theorem State.setPort_delivery (s : State) (p : Port) (r : PortRecord) (x : Axis) : (s.setPort p r).delivery x = s.delivery x := rfl
@[simp] theorem State.setPort_sensor (s : State) (p : Port) (r : PortRecord) (x : Quantity) : (s.setPort p r).sensor x = s.sensor x := rfl
@[simp] theorem State.setAxis_port (s : State) (a : Axis) (r : AxisRecord) (x : Port) : (s.setAxis a r).port x = s.port x := rfl
@[simp] theorem State.setAxis_delivery (s : State) (a : Axis) (r : AxisRecord) (x : Axis) : (s.setAxis a r).delivery x = s.delivery x := rfl
@[simp] theorem State.setAxis_sensor (s : State) (a : Axis) (r : AxisRecord) (x : Quantity) : (s.setAxis a r).sensor x = s.sensor x := rfl
@[simp] theorem State.setDelivery_port (s : State) (a : Axis) (r : DeliveryRecord) (x : Port) : (s.setDelivery a r).port x = s.port x := rfl
@[simp] theorem State.setDelivery_axis (s : State) (a : Axis) (r : DeliveryRecord) (x : Axis) : (s.setDelivery a r).axis x = s.axis x := rfl
@[simp] theorem State.setDelivery_sensor (s : State) (a : Axis) (r : DeliveryRecord) (x : Quantity) : (s.setDelivery a r).sensor x = s.sensor x := rfl
@[simp] theorem State.setSensor_port (s : State) (q : Quantity) (r : SensorRecord) (x : Port) : (s.setSensor q r).port x = s.port x := rfl
@[simp] theorem State.setSensor_axis (s : State) (q : Quantity) (r : SensorRecord) (x : Axis) : (s.setSensor q r).axis x = s.axis x := rfl
@[simp] theorem State.setSensor_delivery (s : State) (q : Quantity) (r : SensorRecord) (x : Axis) : (s.setSensor q r).delivery x = s.delivery x := rfl
@[simp] theorem State.countPort_port (s : State) (p : Port) (f : PortCounters → PortCounters) (x : Port) : (s.countPort p f).port x = s.port x := rfl
@[simp] theorem State.countPort_axis (s : State) (p : Port) (f : PortCounters → PortCounters) (x : Axis) : (s.countPort p f).axis x = s.axis x := rfl
@[simp] theorem State.countPort_delivery (s : State) (p : Port) (f : PortCounters → PortCounters) (x : Axis) : (s.countPort p f).delivery x = s.delivery x := rfl
@[simp] theorem State.countPort_sensor (s : State) (p : Port) (f : PortCounters → PortCounters) (x : Quantity) : (s.countPort p f).sensor x = s.sensor x := rfl
@[simp] theorem State.countAxis_port (s : State) (a : Axis) (f : AxisCounters → AxisCounters) (x : Port) : (s.countAxis a f).port x = s.port x := rfl
@[simp] theorem State.countAxis_axis (s : State) (a : Axis) (f : AxisCounters → AxisCounters) (x : Axis) : (s.countAxis a f).axis x = s.axis x := rfl
@[simp] theorem State.countAxis_delivery (s : State) (a : Axis) (f : AxisCounters → AxisCounters) (x : Axis) : (s.countAxis a f).delivery x = s.delivery x := rfl
@[simp] theorem State.countAxis_sensor (s : State) (a : Axis) (f : AxisCounters → AxisCounters) (x : Quantity) : (s.countAxis a f).sensor x = s.sensor x := rfl
@[simp] theorem State.countDelivery_port (s : State) (a : Axis) (f : DeliveryCounters → DeliveryCounters) (x : Port) : (s.countDelivery a f).port x = s.port x := rfl
@[simp] theorem State.countDelivery_axis (s : State) (a : Axis) (f : DeliveryCounters → DeliveryCounters) (x : Axis) : (s.countDelivery a f).axis x = s.axis x := rfl
@[simp] theorem State.countDelivery_delivery (s : State) (a : Axis) (f : DeliveryCounters → DeliveryCounters) (x : Axis) : (s.countDelivery a f).delivery x = s.delivery x := rfl
@[simp] theorem State.countDelivery_sensor (s : State) (a : Axis) (f : DeliveryCounters → DeliveryCounters) (x : Quantity) : (s.countDelivery a f).sensor x = s.sensor x := rfl
@[simp] theorem State.countQuantity_port (s : State) (q : Quantity) (f : QuantityCounters → QuantityCounters) (x : Port) : (s.countQuantity q f).port x = s.port x := rfl
@[simp] theorem State.countQuantity_axis (s : State) (q : Quantity) (f : QuantityCounters → QuantityCounters) (x : Axis) : (s.countQuantity q f).axis x = s.axis x := rfl
@[simp] theorem State.countQuantity_delivery (s : State) (q : Quantity) (f : QuantityCounters → QuantityCounters) (x : Axis) : (s.countQuantity q f).delivery x = s.delivery x := rfl
@[simp] theorem State.countQuantity_sensor (s : State) (q : Quantity) (f : QuantityCounters → QuantityCounters) (x : Quantity) : (s.countQuantity q f).sensor x = s.sensor x := rfl
@[simp] theorem State.countPart_port (s : State) (f : PartCounters → PartCounters) (x : Port) : (s.countPart f).port x = s.port x := rfl
@[simp] theorem State.countPart_axis (s : State) (f : PartCounters → PartCounters) (x : Axis) : (s.countPart f).axis x = s.axis x := rfl
@[simp] theorem State.countPart_delivery (s : State) (f : PartCounters → PartCounters) (x : Axis) : (s.countPart f).delivery x = s.delivery x := rfl
@[simp] theorem State.countPart_sensor (s : State) (f : PartCounters → PartCounters) (x : Quantity) : (s.countPart f).sensor x = s.sensor x := rfl
@[simp] theorem report_port (s : State) (k : EventKind) (i : Nat) (d : Int) (x : Port) : (report s k i d).port x = s.port x := rfl
@[simp] theorem report_axis (s : State) (k : EventKind) (i : Nat) (d : Int) (x : Axis) : (report s k i d).axis x = s.axis x := rfl
@[simp] theorem report_delivery (s : State) (k : EventKind) (i : Nat) (d : Int) (x : Axis) : (report s k i d).delivery x = s.delivery x := rfl
@[simp] theorem report_sensor (s : State) (k : EventKind) (i : Nat) (d : Int) (x : Quantity) : (report s k i d).sensor x = s.sensor x := rfl
@[simp] theorem capture_port (s : State) (k : FaultKind) (i : Nat) (x : Port) : (capture s k i).port x = s.port x := rfl
@[simp] theorem capture_axis (s : State) (k : FaultKind) (i : Nat) (x : Axis) : (capture s k i).axis x = s.axis x := rfl
@[simp] theorem capture_delivery (s : State) (k : FaultKind) (i : Nat) (x : Axis) : (capture s k i).delivery x = s.delivery x := rfl
@[simp] theorem capture_sensor (s : State) (k : FaultKind) (i : Nat) (x : Quantity) : (capture s k i).sensor x = s.sensor x := rfl
@[simp] theorem reply_port (s : State) (k : Nat) (c : StatusCode) (w : ReplyCause) (t r d : Nat) (x : Port) : (reply s k c w t r d).port x = s.port x := rfl
@[simp] theorem reply_axis (s : State) (k : Nat) (c : StatusCode) (w : ReplyCause) (t r d : Nat) (x : Axis) : (reply s k c w t r d).axis x = s.axis x := rfl
@[simp] theorem reply_delivery (s : State) (k : Nat) (c : StatusCode) (w : ReplyCause) (t r d : Nat) (x : Axis) : (reply s k c w t r d).delivery x = s.delivery x := rfl
@[simp] theorem reply_sensor (s : State) (k : Nat) (c : StatusCode) (w : ReplyCause) (t r d : Nat) (x : Quantity) : (reply s k c w t r d).sensor x = s.sensor x := rfl
@[simp] theorem madeChoices_port (s : State) (n : Nat) (x : Port) : (madeChoices s n).port x = s.port x := rfl
@[simp] theorem madeChoices_axis (s : State) (n : Nat) (x : Axis) : (madeChoices s n).axis x = s.axis x := rfl
@[simp] theorem madeChoices_delivery (s : State) (n : Nat) (x : Axis) : (madeChoices s n).delivery x = s.delivery x := rfl
@[simp] theorem madeChoices_sensor (s : State) (n : Nat) (x : Quantity) : (madeChoices s n).sensor x = s.sensor x := rfl

end Sys2Proof.Machine
end

