-- ==== Sys2Proof/Laws/Frames.lean ====
section
/-! SUPPORT. What the shared operations of the drive and tracking blocks leave unchanged, said once for each operation.

`Kept` is the weakest frame: ports, governor, tables, Load Unit and status pages stay, and the report queue only grows, within
its capacity.  `SameTracking` adds the sample records, the geometry, the band, the backoff and the fault records;
`SameSequence` adds the Auto Sequencer, so that only axes, deliveries, reports and counters may differ. -/

namespace Sys2Proof.Machine

open Sys2Proof


@[refl] theorem ReportsGrow.refl (s : State) : ReportsGrow s s := ⟨List.prefix_refl _, id⟩

theorem ReportsGrow.trans {s t u : State} (h : ReportsGrow s t) (k : ReportsGrow t u) : ReportsGrow s u :=
  ⟨h.grows.trans k.grows, fun hs => k.bound (h.bound hs)⟩

/-- A state with the same report queue. -/
theorem ReportsGrow.same {s t : State} (h : t.reports = s.reports) : ReportsGrow s t := by
  constructor <;> rw [h]; exact id

@[refl] theorem Kept.refl (s : State) : Kept s s :=
  { ReportsGrow.refl s with pending := rfl, resetLow := rfl, bitRate := rfl, millis := rfl, ports := rfl, channel := rfl, governor := rfl, quiet := rfl, earlierMap := rfl, tables := rfl, selection := rfl, loadFlags := rfl, buffer := rfl, flight := rfl, replies := rfl, restarting := rfl, statusSlot := rfl, statusTimer := rfl }

theorem Kept.trans {s t u : State} (h : Kept s t) (k : Kept t u) : Kept s u :=
  { ReportsGrow.trans h.toReportsGrow k.toReportsGrow with
    pending := k.pending.trans h.pending
    resetLow := k.resetLow.trans h.resetLow
    bitRate := k.bitRate.trans h.bitRate
    millis := k.millis.trans h.millis
    ports := k.ports.trans h.ports
    channel := k.channel.trans h.channel
    governor := k.governor.trans h.governor
    quiet := k.quiet.trans h.quiet
    earlierMap := k.earlierMap.trans h.earlierMap
    tables := k.tables.trans h.tables
    selection := k.selection.trans h.selection
    loadFlags := k.loadFlags.trans h.loadFlags
    buffer := k.buffer.trans h.buffer
    flight := k.flight.trans h.flight
    replies := k.replies.trans h.replies
    restarting := k.restarting.trans h.restarting
    statusSlot := k.statusSlot.trans h.statusSlot
    statusTimer := k.statusTimer.trans h.statusTimer }

theorem Kept.foldl {α : Type} {f : State → α → State} (h : ∀ s x, Kept s (f s x)) (l : List α) (s : State) :
    Kept s (l.foldl f s) := by
  induction l generalizing s with
  | nil => exact Kept.refl s
  | cons x l ih => exact Kept.trans (h s x) (ih (f s x))

@[refl] theorem SameTracking.refl (s : State) : SameTracking s s :=
  { Kept.refl s with sensors := rfl, joints := rfl, extension := rfl, mismatch := rfl, depthHeld := rfl, keyTravel := rfl, angleRef := rfl, band := rfl, backoff := rfl, stallTimer := rfl, recoveryTimer := rfl, machineFault := rfl, barFault := rfl, choices := rfl }

theorem SameTracking.trans {s t u : State} (h : SameTracking s t) (k : SameTracking t u) : SameTracking s u :=
  { Kept.trans h.toKept k.toKept with
    sensors := k.sensors.trans h.sensors
    joints := k.joints.trans h.joints
    extension := k.extension.trans h.extension
    mismatch := k.mismatch.trans h.mismatch
    depthHeld := k.depthHeld.trans h.depthHeld
    keyTravel := k.keyTravel.trans h.keyTravel
    angleRef := k.angleRef.trans h.angleRef
    band := k.band.trans h.band
    backoff := k.backoff.trans h.backoff
    stallTimer := k.stallTimer.trans h.stallTimer
    recoveryTimer := k.recoveryTimer.trans h.recoveryTimer
    machineFault := k.machineFault.trans h.machineFault
    barFault := k.barFault.trans h.barFault
    choices := k.choices.trans h.choices }

theorem SameTracking.foldl {α : Type} {f : State → α → State} (h : ∀ s x, SameTracking s (f s x)) (l : List α) (s : State) :
    SameTracking s (l.foldl f s) := by
  induction l generalizing s with
  | nil => exact SameTracking.refl s
  | cons x l ih => exact SameTracking.trans (h s x) (ih (f s x))

@[refl] theorem SameSequence.refl (s : State) : SameSequence s s :=
  { SameTracking.refl s with sequencer := rfl, sequenceTimer := rfl, aborts := rfl }

theorem SameSequence.trans {s t u : State} (h : SameSequence s t) (k : SameSequence t u) : SameSequence s u :=
  { SameTracking.trans h.toSameTracking k.toSameTracking with
    sequencer := k.sequencer.trans h.sequencer
    sequenceTimer := k.sequenceTimer.trans h.sequenceTimer
    aborts := k.aborts.trans h.aborts }

theorem SameSequence.foldl {α : Type} {f : State → α → State} (h : ∀ s x, SameSequence s (f s x)) (l : List α) (s : State) :
    SameSequence s (l.foldl f s) := by
  induction l generalizing s with
  | nil => exact SameSequence.refl s
  | cons x l ih => exact SameSequence.trans (h s x) (ih (f s x))

/-! ## Single updates -/

theorem report_frame (s : State) (k : EventKind) (i : Nat) (d : Int) : SameSequence s (report s k i d) :=
  { grows := by
      simp only [report_reports, reportsAfter]; split
      · exact List.prefix_refl _
      · exact List.prefix_append _ _
    bound := by
      simp only [report_reports, reportsAfter]; intro h; split
      · exact h
      · rename_i hn; simp only [List.length_append, List.length_singleton]; omega
    pending := rfl, resetLow := rfl, bitRate := rfl, millis := rfl, ports := rfl, channel := rfl, governor := rfl, quiet := rfl, earlierMap := rfl, tables := rfl, selection := rfl, loadFlags := rfl, buffer := rfl, flight := rfl, replies := rfl, restarting := rfl, statusSlot := rfl, statusTimer := rfl, sensors := rfl, joints := rfl, extension := rfl, mismatch := rfl, depthHeld := rfl, keyTravel := rfl, angleRef := rfl, band := rfl, backoff := rfl, stallTimer := rfl, recoveryTimer := rfl, machineFault := rfl, barFault := rfl, choices := rfl, sequencer := rfl, sequenceTimer := rfl, aborts := rfl }

theorem State.setAxis_frame (s : State) (a : Axis) (r : AxisRecord) : SameSequence s (s.setAxis a r) :=
  { ReportsGrow.same rfl with pending := rfl, resetLow := rfl, bitRate := rfl, millis := rfl, ports := rfl, channel := rfl, governor := rfl, quiet := rfl, earlierMap := rfl, tables := rfl, selection := rfl, loadFlags := rfl, buffer := rfl, flight := rfl, replies := rfl, restarting := rfl, statusSlot := rfl, statusTimer := rfl, sensors := rfl, joints := rfl, extension := rfl, mismatch := rfl, depthHeld := rfl, keyTravel := rfl, angleRef := rfl, band := rfl, backoff := rfl, stallTimer := rfl, recoveryTimer := rfl, machineFault := rfl, barFault := rfl, choices := rfl, sequencer := rfl, sequenceTimer := rfl, aborts := rfl }

theorem State.setDelivery_frame (s : State) (a : Axis) (r : DeliveryRecord) : SameSequence s (s.setDelivery a r) :=
  { ReportsGrow.same rfl with pending := rfl, resetLow := rfl, bitRate := rfl, millis := rfl, ports := rfl, channel := rfl, governor := rfl, quiet := rfl, earlierMap := rfl, tables := rfl, selection := rfl, loadFlags := rfl, buffer := rfl, flight := rfl, replies := rfl, restarting := rfl, statusSlot := rfl, statusTimer := rfl, sensors := rfl, joints := rfl, extension := rfl, mismatch := rfl, depthHeld := rfl, keyTravel := rfl, angleRef := rfl, band := rfl, backoff := rfl, stallTimer := rfl, recoveryTimer := rfl, machineFault := rfl, barFault := rfl, choices := rfl, sequencer := rfl, sequenceTimer := rfl, aborts := rfl }

theorem State.countDelivery_frame (s : State) (a : Axis) (f : DeliveryCounters → DeliveryCounters) : SameSequence s (s.countDelivery a f) :=
  { ReportsGrow.same rfl with pending := rfl, resetLow := rfl, bitRate := rfl, millis := rfl, ports := rfl, channel := rfl, governor := rfl, quiet := rfl, earlierMap := rfl, tables := rfl, selection := rfl, loadFlags := rfl, buffer := rfl, flight := rfl, replies := rfl, restarting := rfl, statusSlot := rfl, statusTimer := rfl, sensors := rfl, joints := rfl, extension := rfl, mismatch := rfl, depthHeld := rfl, keyTravel := rfl, angleRef := rfl, band := rfl, backoff := rfl, stallTimer := rfl, recoveryTimer := rfl, machineFault := rfl, barFault := rfl, choices := rfl, sequencer := rfl, sequenceTimer := rfl, aborts := rfl }

theorem State.countAxis_frame (s : State) (a : Axis) (f : AxisCounters → AxisCounters) : SameSequence s (s.countAxis a f) :=
  { ReportsGrow.same rfl with pending := rfl, resetLow := rfl, bitRate := rfl, millis := rfl, ports := rfl, channel := rfl, governor := rfl, quiet := rfl, earlierMap := rfl, tables := rfl, selection := rfl, loadFlags := rfl, buffer := rfl, flight := rfl, replies := rfl, restarting := rfl, statusSlot := rfl, statusTimer := rfl, sensors := rfl, joints := rfl, extension := rfl, mismatch := rfl, depthHeld := rfl, keyTravel := rfl, angleRef := rfl, band := rfl, backoff := rfl, stallTimer := rfl, recoveryTimer := rfl, machineFault := rfl, barFault := rfl, choices := rfl, sequencer := rfl, sequenceTimer := rfl, aborts := rfl }

theorem State.countPart_frame (s : State) (f : PartCounters → PartCounters) : SameSequence s (s.countPart f) :=
  { ReportsGrow.same rfl with pending := rfl, resetLow := rfl, bitRate := rfl, millis := rfl, ports := rfl, channel := rfl, governor := rfl, quiet := rfl, earlierMap := rfl, tables := rfl, selection := rfl, loadFlags := rfl, buffer := rfl, flight := rfl, replies := rfl, restarting := rfl, statusSlot := rfl, statusTimer := rfl, sensors := rfl, joints := rfl, extension := rfl, mismatch := rfl, depthHeld := rfl, keyTravel := rfl, angleRef := rfl, band := rfl, backoff := rfl, stallTimer := rfl, recoveryTimer := rfl, machineFault := rfl, barFault := rfl, choices := rfl, sequencer := rfl, sequenceTimer := rfl, aborts := rfl }

theorem State.countQuantity_frame (s : State) (q : Quantity) (f : QuantityCounters → QuantityCounters) : SameSequence s (s.countQuantity q f) :=
  { ReportsGrow.same rfl with pending := rfl, resetLow := rfl, bitRate := rfl, millis := rfl, ports := rfl, channel := rfl, governor := rfl, quiet := rfl, earlierMap := rfl, tables := rfl, selection := rfl, loadFlags := rfl, buffer := rfl, flight := rfl, replies := rfl, restarting := rfl, statusSlot := rfl, statusTimer := rfl, sensors := rfl, joints := rfl, extension := rfl, mismatch := rfl, depthHeld := rfl, keyTravel := rfl, angleRef := rfl, band := rfl, backoff := rfl, stallTimer := rfl, recoveryTimer := rfl, machineFault := rfl, barFault := rfl, choices := rfl, sequencer := rfl, sequenceTimer := rfl, aborts := rfl }

theorem State.setSensor_frame (s : State) (q : Quantity) (r : SensorRecord) : Kept s (s.setSensor q r) :=
  { ReportsGrow.same rfl with pending := rfl, resetLow := rfl, bitRate := rfl, millis := rfl, ports := rfl, channel := rfl, governor := rfl, quiet := rfl, earlierMap := rfl, tables := rfl, selection := rfl, loadFlags := rfl, buffer := rfl, flight := rfl, replies := rfl, restarting := rfl, statusSlot := rfl, statusTimer := rfl }

theorem capture_frame (s : State) (k : FaultKind) (i : Nat) : Kept s (capture s k i) :=
  { ReportsGrow.same rfl with pending := rfl, resetLow := rfl, bitRate := rfl, millis := rfl, ports := rfl, channel := rfl, governor := rfl, quiet := rfl, earlierMap := rfl, tables := rfl, selection := rfl, loadFlags := rfl, buffer := rfl, flight := rfl, replies := rfl, restarting := rfl, statusSlot := rfl, statusTimer := rfl }

theorem madeChoices_frame (s : State) (n : Nat) : Kept s (madeChoices s n) :=
  { ReportsGrow.same rfl with pending := rfl, resetLow := rfl, bitRate := rfl, millis := rfl, ports := rfl, channel := rfl, governor := rfl, quiet := rfl, earlierMap := rfl, tables := rfl, selection := rfl, loadFlags := rfl, buffer := rfl, flight := rfl, replies := rfl, restarting := rfl, statusSlot := rfl, statusTimer := rfl }

/-- A state that differs from `s` in axes, deliveries and counters only. -/
theorem sameSequence_mk (s : State) (x : PerAxis AxisRecord) (d : PerAxis DeliveryRecord) (c : Counters) :
    SameSequence s { s with axes := x, deliveries := d, counters := c } :=
  { ReportsGrow.same rfl with pending := rfl, resetLow := rfl, bitRate := rfl, millis := rfl, ports := rfl, channel := rfl, governor := rfl, quiet := rfl, earlierMap := rfl, tables := rfl, selection := rfl, loadFlags := rfl, buffer := rfl, flight := rfl, replies := rfl, restarting := rfl, statusSlot := rfl, statusTimer := rfl, sensors := rfl, joints := rfl, extension := rfl, mismatch := rfl, depthHeld := rfl, keyTravel := rfl, angleRef := rfl, band := rfl, backoff := rfl, stallTimer := rfl, recoveryTimer := rfl, machineFault := rfl, barFault := rfl, choices := rfl, sequencer := rfl, sequenceTimer := rfl, aborts := rfl }

/-- A state that differs from `s` in the Auto Sequencer's fields only. -/
theorem sameTracking_mk (s : State) (x : SequencerState) (t : Timer) (b : BitVec 9) :
    SameTracking s { s with sequencer := x, sequenceTimer := t, aborts := b } :=
  { ReportsGrow.same rfl with pending := rfl, resetLow := rfl, bitRate := rfl, millis := rfl, ports := rfl, channel := rfl, governor := rfl, quiet := rfl, earlierMap := rfl, tables := rfl, selection := rfl, loadFlags := rfl, buffer := rfl, flight := rfl, replies := rfl, restarting := rfl, statusSlot := rfl, statusTimer := rfl, sensors := rfl, joints := rfl, extension := rfl, mismatch := rfl, depthHeld := rfl, keyTravel := rfl, angleRef := rfl, band := rfl, backoff := rfl, stallTimer := rfl, recoveryTimer := rfl, machineFault := rfl, barFault := rfl, choices := rfl }

/-- A state that differs from `s` in the trackers' own fields only. -/
theorem kept_mk (s : State) (j : List Joint) (e : Int) (m : Bool) (z : Option Int) (a : Int) (r : Option Int) (b : Option Nat)
    (f : Int) (st rt : Timer) :
    Kept s { s with joints := j, extension := e, mismatch := m, depthHeld := z, keyTravel := a, angleRef := r, band := b,
                    backoff := f, stallTimer := st, recoveryTimer := rt } :=
  { ReportsGrow.same rfl with pending := rfl, resetLow := rfl, bitRate := rfl, millis := rfl, ports := rfl, channel := rfl, governor := rfl, quiet := rfl, earlierMap := rfl, tables := rfl, selection := rfl, loadFlags := rfl, buffer := rfl, flight := rfl, replies := rfl, restarting := rfl, statusSlot := rfl, statusTimer := rfl }

/-! ## Delivery -/

theorem newFrame_frame (s : State) (a : Axis) (g : Int) (m : Mode) : SameSequence s (newFrame s a g m) :=
  sameSequence_mk s _ _ _

theorem produce_frame (s : State) (a : Axis) (g : Int) (m : Mode) (r : Bool) : SameSequence s (produce s a g m r) := by
  unfold produce
  split
  · rfl
  · split
    · exact newFrame_frame s a g m
    · rfl

theorem handOver_frame (s : State) (a : Axis) (r : Bool) : SameSequence s (handOver s a r) := produce_frame s a _ _ r

theorem transmitCompleteGoverned_frame (s : State) (a : Axis) (n : Nat) : SameSequence s (transmitCompleteGoverned s a n) :=
  s.setDelivery_frame a _

theorem neutralRewrite_frame (s : State) (a : Axis) : SameSequence s (neutralRewrite s a) := by
  unfold neutralRewrite
  split
  · exact newFrame_frame s a _ _
  · rfl

theorem neutralRewriteAll_frame (s : State) : SameSequence s (neutralRewriteAll s) :=
  SameSequence.foldl neutralRewrite_frame _ s

theorem deliveriesBusOff_frame (s : State) : SameSequence s (deliveriesBusOff s) := sameSequence_mk s _ _ _

theorem deliveriesRecovered_frame (s : State) : SameSequence s (deliveriesRecovered s) := by
  unfold deliveriesRecovered
  split
  · exact SameSequence.foldl (fun s a => handOver_frame s a true) _ s
  · rfl

/-! ## Axes -/

theorem evaluate_frame (s : State) (a : Axis) (r : Bool) : SameSequence s (evaluate s a r) :=
  (s.setAxis_frame a _).trans (handOver_frame _ a r)

theorem evaluateNow_frame (s : State) (a : Axis) : SameSequence s (evaluateNow s a) := evaluate_frame s a false

theorem evaluateAxes_frame (s : State) (l : List Axis) : SameSequence s (evaluateAxes s l) :=
  SameSequence.foldl evaluateNow_frame l s

theorem evaluateAll_frame (s : State) : SameSequence s (evaluateAll s) := evaluateAxes_frame s allAxes

theorem evaluateInService_frame (s : State) (a : Axis) : SameSequence s (evaluateInService s a) := by
  unfold evaluateInService
  split
  · exact evaluateNow_frame s a
  · exact evaluateNow_frame s a
  · exact evaluateNow_frame s a
  · rfl
  · rfl

theorem reportAxisState_frame (s : State) (a : Axis) : SameSequence s (reportAxisState s a) := report_frame s _ _ _

theorem changeAxis_frame (s : State) (a : Axis) (r : AxisRecord) : SameSequence s (changeAxis s a r) :=
  ((s.setAxis_frame a r).trans (reportAxisState_frame _ a)).trans (handOver_frame _ a false)

theorem neutralise_frame (c : ExitCause) (s : State) (a : Axis) : SameSequence s (neutralise c s a) := by
  unfold neutralise
  split
  · exact changeAxis_frame s a _
  · exact changeAxis_frame s a _
  · exact changeAxis_frame s a _
  · rfl
  · rfl

theorem neutraliseAll_frame (s : State) (c : ExitCause) : SameSequence s (neutraliseAll s c) :=
  SameSequence.foldl (neutralise_frame c) _ s

theorem operatorExpiry_frame (s : State) (a : Axis) : SameSequence s (operatorExpiry s a) := by
  unfold operatorExpiry
  dsimp only
  split
  · split
    · exact changeAxis_frame s a _
    · exact (s.setAxis_frame a _).trans (reportAxisState_frame _ a)
  · exact s.setAxis_frame a _

theorem rampExpiry_frame (s : State) (a : Axis) : SameSequence s (rampExpiry s a) := by
  unfold rampExpiry
  dsimp only
  split
  · have stepped := (s.setAxis_frame a ((s.axis a).rampStep s.tables.rig)).trans (handOver_frame _ a false)
    split
    · exact stepped.trans (changeAxis_frame _ a _)
    · exact stepped
  · exact s.setAxis_frame a _

theorem refreshExpiry_frame (s : State) (a : Axis) : SameSequence s (refreshExpiry s a) :=
  (s.setDelivery_frame a _).trans (evaluate_frame _ a true)

theorem clearAxisFault_frame (s : State) (a : Axis) : SameSequence s (clearAxisFault s a) := by
  unfold clearAxisFault
  split
  · exact changeAxis_frame s a _
  all_goals rfl

/-! ## Auto Sequencer -/

theorem endSequence_frame (s : State) : SameTracking s (endSequence s) := sameTracking_mk s _ _ _

theorem abortSequence_frame (s : State) (c : AbortCause) : SameTracking s (abortSequence s c) := by
  unfold abortSequence
  split
  · rfl
  · exact (sameTracking_mk s _ _ _).trans (report_frame _ _ _ _).toSameTracking

theorem handBackState_frame (s : State) (d : Int) : SameSequence s (handBackState s d) := by
  unfold handBackState
  dsimp only
  split
  · exact changeAxis_frame s _ _
  · exact (s.setAxis_frame _ _).trans (reportAxisState_frame _ _)

theorem handBack_frame (s : State) (d : Int) : SameSequence s (handBack s d) := by
  unfold handBack
  dsimp only
  split
  · exact (handBackState_frame s d).trans (evaluateNow_frame _ _)
  · exact handBackState_frame s d

theorem abortAndHandBack_frame (s : State) (c : AbortCause) : SameTracking s (abortAndHandBack s c) := by
  unfold abortAndHandBack
  split
  · rfl
  · exact (abortSequence_frame s c).trans (handBack_frame _ 0).toSameTracking

theorem completeSequence_frame (s : State) (n : Nat) : SameTracking s (completeSequence s n) :=
  ((endSequence_frame s).trans (report_frame _ _ _ _).toSameTracking).trans (handBack_frame _ 0).toSameTracking

theorem sequencerLockEvent_frame (s : State) (n : Nat) : SameTracking s (sequencerLockEvent s n) := by
  unfold sequencerLockEvent
  split
  · exact completeSequence_frame s n
  · rfl

theorem sequencerReleaseEvent_frame (s : State) (n : Nat) : SameTracking s (sequencerReleaseEvent s n) := by
  unfold sequencerReleaseEvent
  split
  · exact completeSequence_frame s n
  · rfl

theorem sequencerSetChange_frame (s : State) : SameTracking s (sequencerSetChange s) := by
  unfold sequencerSetChange
  split
  · exact abortAndHandBack_frame s _
  · rfl

theorem startSequence_frame (s : State) (l : Bool) : SameTracking s (startSequence s l) :=
  (((sameTracking_mk s _ _ s.aborts).trans (State.setAxis_frame _ _ _).toSameTracking).trans
    (reportAxisState_frame _ _).toSameTracking).trans (evaluateAxes_frame _ _).toSameTracking

theorem sequencerCommand_frame (s : State) (l r : Bool) (d : Int) : SameTracking s (sequencerCommand s l r d) := by
  have h : ∀ c d, SameTracking s (handBackState (abortSequence s c) d) := fun c d =>
    (abortSequence_frame s c).trans (handBackState_frame _ d).toSameTracking
  unfold sequencerCommand
  repeat' split
  all_goals first
    | rfl | exact h _ _ | exact startSequence_frame s l | exact (report_frame s _ _ _).toSameTracking

theorem enterFault_frame (s : State) (a : Axis) (c : ExitCause) : SameTracking s (enterFault s a c) := by
  unfold enterFault
  dsimp only
  split
  · split
    · rfl
    · exact ((s.setAxis_frame a _).trans (report_frame _ _ _ _)).toSameTracking
  · have h := (((s.setAxis_frame a
      { (s.axis a).toNeutralFor c with state := .fault }).trans (report_frame _ .axisFault a.code c.bit)).trans
      (handOver_frame _ a false)).toSameTracking
    split
    · exact h.trans (abortSequence_frame _ _)
    · exact h

theorem commandAction_frame (s : State) (a : Axis) (d : Int) : SameSequence s (commandAction s a d) := by
  unfold commandAction
  split
  · split
    · exact (s.setAxis_frame a _).trans (reportAxisState_frame _ a)
    · rfl
  · exact (s.setAxis_frame a _).trans (reportAxisState_frame _ a)
  all_goals rfl

theorem recordCommand_frame (s : State) (a : Axis) (pl : List Byte) : SameSequence s (recordCommand s a pl) :=
  (s.countAxis_frame a _).trans (State.setAxis_frame _ a _)

theorem commandHandOff_frame (s : State) (a : Axis) (pl : List Byte) (d : Int) :
    SameTracking s (commandHandOff s a pl d) := by
  unfold commandHandOff
  split
  · exact sequencerCommand_frame s _ _ d
  · rfl

theorem acceptCommand_frame (s : State) (a : Axis) (pl : List Byte) : SameTracking s (acceptCommand s a pl) :=
  (((recordCommand_frame s a pl).trans (commandAction_frame _ a _)).toSameTracking.trans
    (commandHandOff_frame _ a pl _)).trans (evaluateInService_frame _ a).toSameTracking

theorem takeCommand_frame (s : State) (a : Axis) (pl : List Byte) : SameTracking s (takeCommand s a pl) := by
  unfold takeCommand
  split
  · exact (s.countAxis_frame a _).toSameTracking
  · split
    · exact (s.countAxis_frame a _).toSameTracking
    · exact acceptCommand_frame s a pl

theorem sequenceExpiry_frame (s : State) : SameTracking s (sequenceExpiry s) := by
  unfold sequenceExpiry
  split
  · exact sameTracking_mk s s.sequencer none s.aborts
  · exact abortAndHandBack_frame s _

/-! ## Echoes, retries and bus-off -/

theorem driverFaulted_frame (s : State) (a : Axis) (k : FaultKind) (c : ExitCause) : Kept s (driverFaulted s a k c) :=
  (capture_frame s k a.code).trans (enterFault_frame _ a c).toKept

theorem matchEcho_frame (s : State) (a : Axis) (pl : List Byte) : Kept s (matchEcho s a pl) := by
  unfold matchEcho
  dsimp only
  have h := (s.setDelivery_frame a ((s.delivery a).answered pl)).toKept
  have k := (State.countDelivery_frame (s.setDelivery a ((s.delivery a).answered pl)) a
    (fun c => { c with driverNeutral := bump c.driverNeutral })).toKept
  generalize s.setDelivery a ((s.delivery a).answered pl) = t at h k ⊢
  generalize t.countDelivery a (fun c => { c with driverNeutral := bump c.driverNeutral }) = u at k ⊢
  have hu : Kept s (if echoDriver pl = .neutral ∧ (s.delivery a).value ≠ 0 then u else t) := by
    split
    · exact h.trans k
    · exact h
  split
  · exact hu.trans (driverFaulted_frame _ a _ _)
  · exact hu

theorem takeEcho_frame (s : State) (a : Axis) (pl : List Byte) : Kept s (takeEcho s a pl) := by
  unfold takeEcho
  split
  · exact (s.countDelivery_frame a _).toKept
  · split
    · exact matchEcho_frame s a pl
    · exact (s.countDelivery_frame a _).toKept

theorem giveUp_frame (s : State) (a : Axis) : Kept s (giveUp s a) := by
  unfold giveUp
  dsimp only
  have h := ((s.setDelivery_frame a (s.delivery a).givenUp).trans
    (State.countDelivery_frame _ a (fun c => { c with misses := bump c.misses }))).toKept
  split
  · exact h.trans (driverFaulted_frame _ a _ _)
  · exact h

theorem echoExpiry_frame (s : State) (a : Axis) : Kept s (echoExpiry s a) := by
  unfold echoExpiry
  dsimp only
  split
  · split
    · exact ((s.setDelivery_frame a _).trans (State.countDelivery_frame _ a _)).toKept
    · exact giveUp_frame s a
  · exact (s.setDelivery_frame a _).toKept

theorem machineBusOff_frame (s : State) : SameTracking s (machineBusOff s) :=
  ((deliveriesBusOff_frame s).trans (neutraliseAll_frame _ _)).toSameTracking.trans (abortSequence_frame _ _)

/-! ## Kelly Tracker -/

theorem realign_frame (s : State) : Kept s (realign s) := by
  exact kept_mk s _ s.extension s.mismatch s.depthHeld s.keyTravel s.angleRef s.band s.backoff s.stallTimer s.recoveryTimer

theorem lockSlip_frame (s : State) (d : Int) : Kept s (lockSlip s d) := by
  unfold lockSlip
  dsimp only
  exact ((((kept_mk s _ s.extension s.mismatch s.depthHeld 0 s.angleRef s.band s.backoff s.stallTimer
    s.recoveryTimer).trans (report_frame _ _ _ _).toKept).trans (capture_frame _ _ _)).trans
    (enterFault_frame _ _ _).toKept).trans (evaluateNow_frame _ _).toKept

theorem slipStep_frame (s : State) : Kept s (slipStep s) := by
  unfold slipStep
  split
  · exact lockSlip_frame s _
  · rfl

theorem decideMismatch_frame (s : State) : Kept s (decideMismatch s) := by
  unfold decideMismatch
  dsimp only
  have h := kept_mk s s.joints s.extension (rangeFails s || overExtended s) s.depthHeld s.keyTravel s.angleRef s.band
    s.backoff s.stallTimer s.recoveryTimer
  repeat' split
  all_goals first
    | exact (h.trans (report_frame _ _ _ _).toKept).trans (capture_frame _ _ _)
    | exact h.trans (report_frame _ _ _ _).toKept | exact h

theorem divideStep_frame (s : State) : Kept s (divideStep s) :=
  kept_mk s _ _ s.mismatch s.depthHeld s.keyTravel s.angleRef s.band s.backoff s.stallTimer s.recoveryTimer

theorem retractionStep_frame (s : State) : Kept s (retractionStep s) := by
  unfold retractionStep
  dsimp only
  split
  · have h := kept_mk s (s.joints.map Joint.retracted) 0 s.mismatch s.depthHeld 0 s.angleRef s.band s.backoff s.stallTimer
      s.recoveryTimer
    split
    · exact h.trans (sequencerReleaseEvent_frame _ _).toKept
    · exact (h.trans (report_frame _ _ _ _).toKept).trans (sequencerReleaseEvent_frame _ _).toKept
  · rfl

theorem alignmentStep_frame (b : List Bool) (s : State) : Kept s (alignmentStep b s) := by
  unfold alignmentStep
  dsimp only
  split
  · exact realign_frame s
  · exact ((realign_frame s).trans (kept_mk (realign s) (realign s).joints (realign s).extension (realign s).mismatch
      (realign s).depthHeld 0 (realign s).angleRef (realign s).band (realign s).backoff (realign s).stallTimer
      (realign s).recoveryTimer)).trans (sequencerSetChange_frame _).toKept

theorem allocate_frame (s : State) : Kept s (allocate s) :=
  ((((slipStep_frame s).trans (decideMismatch_frame _)).trans (divideStep_frame _)).trans (retractionStep_frame _)).trans
    (alignmentStep_frame _ _)

theorem allocateIfTracking_frame (s : State) : Kept s (allocateIfTracking s) := by
  unfold allocateIfTracking
  split
  · exact allocate_frame s
  · rfl

theorem kellyPayout_frame (s : State) : Kept s (kellyPayout s) := by
  unfold kellyPayout
  split
  · exact (kept_mk s s.joints s.extension s.mismatch _ s.keyTravel s.angleRef s.band s.backoff s.stallTimer
      s.recoveryTimer).trans (allocateIfTracking_frame _)
  · exact allocateIfTracking_frame s

theorem reportLocked_frame (s : State) (js : List (Nat × Joint)) : SameSequence s (reportLocked s js) := by
  apply SameSequence.foldl
  intro s p
  split
  · exact report_frame s _ _ _
  · rfl

theorem lockEvent_frame (s : State) : Kept s (lockEvent s) := by
  unfold lockEvent
  dsimp only
  refine ((reportLocked_frame s (numbered s.joints)).toKept.trans ?_).trans (sequencerLockEvent_frame _ _).toKept
  generalize reportLocked s (numbered s.joints) = t
  exact (kept_mk t _ _ t.mismatch t.depthHeld 0 t.angleRef t.band t.backoff t.stallTimer t.recoveryTimer).trans
    (realign_frame _)

theorem handOffRelease_frame (s : State) (n : Nat) : Kept s (handOffRelease s n) := by
  unfold handOffRelease
  have h := madeChoices_frame s 1
  split
  · split
    · exact (h.trans (sequencerReleaseEvent_frame _ n).toKept).trans (evaluateNow_frame _ _).toKept
    · exact (h.trans (evaluateNow_frame _ _).toKept).trans (sequencerReleaseEvent_frame _ n).toKept
  · exact (evaluateNow_frame s _).toKept

theorem releaseEvent_frame (s : State) : Kept s (releaseEvent s) := by
  unfold releaseEvent
  dsimp only
  exact (((kept_mk s _ s.extension s.mismatch s.depthHeld 0 s.angleRef s.band s.backoff s.stallTimer s.recoveryTimer).trans
    (realign_frame _)).trans (report_frame _ _ _ _).toKept).trans (handOffRelease_frame _ _)

theorem keyTests_frame (s : State) : Kept s (keyTests s) := by
  unfold keyTests
  split
  · exact lockEvent_frame s
  · split
    · exact releaseEvent_frame s
    · rfl

theorem kellyAngle_frame (s : State) : Kept s (kellyAngle s) := by
  unfold kellyAngle
  dsimp only
  split
  · exact (kept_mk s s.joints s.extension s.mismatch s.depthHeld _ _ s.band s.backoff s.stallTimer s.recoveryTimer).trans
      (keyTests_frame _)
  · exact kept_mk s s.joints s.extension s.mismatch s.depthHeld s.keyTravel _ s.band s.backoff s.stallTimer s.recoveryTimer

theorem divideHeld_frame (s : State) : Kept s (divideHeld s) := by
  unfold divideHeld
  exact (kept_mk s _ _ s.mismatch s.depthHeld s.keyTravel s.angleRef s.band s.backoff s.stallTimer s.recoveryTimer).trans
    (realign_frame _)

theorem kellyTableChange_frame (s : State) (b : Bool) : Kept s (kellyTableChange s b) := by
  unfold kellyTableChange
  dsimp only
  have h := fun j => kept_mk s j s.extension s.mismatch s.depthHeld 0 s.angleRef s.band s.backoff s.stallTimer s.recoveryTimer
  split
  · exact (h _).trans (allocate_frame _)
  · exact (h _).trans (divideHeld_frame _)
  · exact h _

/-! ## Band Tracker and stall detector -/

theorem changeBand_frame (s : State) (b : Option Nat) : Kept s (changeBand s b) := by
  unfold changeBand
  exact ((kept_mk s s.joints s.extension s.mismatch s.depthHeld s.keyTravel s.angleRef b s.backoff s.stallTimer
    s.recoveryTimer).trans (report_frame _ _ _ _).toKept).trans (evaluateAll_frame _).toKept

theorem bandPayout_frame (s : State) : Kept s (bandPayout s) := by
  unfold bandPayout
  split
  · exact changeBand_frame s _
  · rfl

theorem bandCommit_frame (s : State) (es : List BufferEntry) : Kept s (bandCommit s es) := by
  unfold bandCommit
  split
  · exact changeBand_frame s _
  · rfl

theorem stallTest_frame (s : State) : Kept s (stallTest s) :=
  kept_mk s s.joints s.extension s.mismatch s.depthHeld s.keyTravel s.angleRef s.band s.backoff _ s.recoveryTimer

theorem stallExpiry_frame (s : State) : Kept s (stallExpiry s) := by
  unfold stallExpiry
  dsimp only
  refine Kept.trans ?_ (evaluateNow_frame _ _).toKept
  have h := ((kept_mk s s.joints s.extension s.mismatch s.depthHeld s.keyTravel s.angleRef s.band (backedOff s) s.stallTimer
    s.recoveryTimer).trans (State.countPart_frame _ (fun c => { c with stalls := bump c.stalls })).toKept).trans
    (report_frame _ .stall (bandIndex s) (backedOff s)).toKept
  exact h.trans (kept_mk _ _ _ _ _ _ _ _ _ _ _)

theorem recoveryExpiry_frame (s : State) : Kept s (recoveryExpiry s) := by
  unfold recoveryExpiry
  dsimp only
  split
  · exact kept_mk s s.joints s.extension s.mismatch s.depthHeld s.keyTravel s.angleRef s.band _ s.stallTimer _
  · exact (kept_mk s s.joints s.extension s.mismatch s.depthHeld s.keyTravel s.angleRef s.band _ s.stallTimer _).trans
      (report_frame _ _ _ _).toKept

theorem backoffReset_frame (s : State) : Kept s (backoffReset s) := by
  unfold backoffReset
  dsimp only
  have h := kept_mk s s.joints s.extension s.mismatch s.depthHeld s.keyTravel s.angleRef s.band 1000 none none
  split
  · exact h.trans (report_frame _ _ _ _).toKept
  · exact h

/-! ## Sensor Intake -/

theorem freshnessToAxes_frame (s : State) (q : Quantity) (o : RecordState) : Kept s (freshnessToAxes s q o) := by
  unfold freshnessToAxes
  dsimp only
  split
  · exact (((madeChoices_frame s 3).trans (evaluateAxes_frame _ _).toKept).trans (abortAndHandBack_frame _ _).toKept).trans
      (evaluateAxes_frame _ _).toKept
  · exact (evaluateAll_frame s).toKept

theorem freshnessToKelly_frame (s : State) (q : Quantity) (o : RecordState) : Kept s (freshnessToKelly s q o) := by
  unfold freshnessToKelly
  split
  · exact kept_mk s s.joints s.extension s.mismatch s.depthHeld s.keyTravel none s.band s.backoff s.stallTimer s.recoveryTimer
  · rfl

theorem freshnessToStall_frame (s : State) (q : Quantity) : Kept s (freshnessToStall s q) := by
  cases q
  all_goals first | exact stallTest_frame s | exact Kept.refl s

theorem handOnFreshness_frame (s : State) (q : Quantity) (o : RecordState) : Kept s (handOnFreshness s q o) :=
  ((freshnessToKelly_frame s q o).trans (freshnessToAxes_frame _ q o)).trans (freshnessToStall_frame _ q)

theorem becomeStale_frame (s : State) (q : Quantity) (c : StaleCause) : Kept s (becomeStale s q c) :=
  ((s.setSensor_frame q _).trans (report_frame _ _ _ _).toKept).trans (handOnFreshness_frame _ q _)

theorem handOnPayout_frame (s : State) : Kept s (handOnPayout s) := by
  unfold handOnPayout
  have h := madeChoices_frame s 1
  split
  · split
    · exact (h.trans (kellyPayout_frame _)).trans (bandPayout_frame _)
    · exact (h.trans (bandPayout_frame _)).trans (kellyPayout_frame _)
  · exact kellyPayout_frame s

theorem handOnSample_frame (s : State) (q : Quantity) : Kept s (handOnSample s q) := by
  cases q
  · exact handOnPayout_frame s
  · exact allocateIfTracking_frame s
  · exact (kellyAngle_frame s).trans (stallTest_frame _)
  · exact (evaluateInService_frame s .rotary).toKept.trans (stallTest_frame _)
  · exact (evaluateInService_frame s .crowd).toKept
  · exact (evaluateInService_frame s .hoist).toKept

theorem recordSample_frame (s : State) (q : Quantity) (pl : List Byte) : Kept s (recordSample s q pl) :=
  (s.countQuantity_frame q _).toKept.trans (State.setSensor_frame _ q _)

theorem acceptSample_frame (s : State) (q : Quantity) (pl : List Byte) : Kept s (acceptSample s q pl) := by
  unfold acceptSample
  dsimp only
  refine Kept.trans ?_ (handOnSample_frame _ q)
  split
  · exact recordSample_frame s q pl
  · exact ((recordSample_frame s q pl).trans (report_frame _ _ _ _).toKept).trans (handOnFreshness_frame _ q _)

theorem takeSample_frame (s : State) (q : Quantity) (pl : List Byte) : Kept s (takeSample s q pl) := by
  unfold takeSample sensorFault
  repeat' split
  all_goals first
    | exact (s.countQuantity_frame q _).toKept | exact becomeStale_frame s q _ | exact acceptSample_frame s q pl
    | exact Kept.refl s

theorem remapQuantity_frame (s : State) (q : Quantity) : Kept s (remapQuantity s q) := by
  unfold remapQuantity
  dsimp only
  have h := s.setSensor_frame q SensorRecord.initial
  split
  · exact h
  · exact h.trans (handOnFreshness_frame _ q _)
  · exact (h.trans (report_frame _ _ _ _).toKept).trans (handOnFreshness_frame _ q _)

theorem remapSensors_frame (s : State) (m : Option (List Nat)) : Kept s (remapSensors s m) := by
  unfold remapSensors
  split
  · rfl
  · exact Kept.foldl remapQuantity_frame _ s

end Sys2Proof.Machine
end

