-- ==== Sys2Proof/Laws/Counts.lean ====
section
/-! SUPPORT. What the shared operations of the drive and tracking blocks do to the counters: nothing but to count governed
commands superseded and reports lost (`SameCounts`), said once for each operation that counts nothing of its own. -/

namespace Sys2Proof.Machine

open Sys2Proof

@[refl] theorem SameCounts.refl (s : State) : SameCounts s s := ⟨rfl, rfl, rfl, fun _ => rfl, rfl⟩

theorem SameCounts.trans {s t u : State} (h : SameCounts s t) (k : SameCounts t u) : SameCounts s u :=
  ⟨k.port.trans h.port, k.axis.trans h.axis, k.quantity.trans h.quantity,
    fun a => (k.delivery a).trans (by rw [h.delivery a]), k.part.trans (by rw [h.part])⟩

/-- A state with the same counters. -/
theorem SameCounts.same {s t : State} (h : t.counters = s.counters) : SameCounts s t :=
  ⟨by rw [h], by rw [h], by rw [h], fun _ => by rw [h], by rw [h]⟩

theorem SameCounts.foldl {α : Type} {f : State → α → State} (h : ∀ s x, SameCounts s (f s x)) (l : List α) (s : State) :
    SameCounts s (l.foldl f s) := by
  induction l generalizing s with
  | nil => exact SameCounts.refl s
  | cons x l ih => exact SameCounts.trans (h s x) (ih (f s x))

theorem report_counts (s : State) (k : EventKind) (i : Nat) (d : Int) : SameCounts s (report s k i d) :=
  ⟨rfl, rfl, rfl, fun _ => rfl, rfl⟩

theorem capture_counts (s : State) (k : FaultKind) (i : Nat) : SameCounts s (capture s k i) := SameCounts.same rfl

theorem madeChoices_counts (s : State) (n : Nat) : SameCounts s (madeChoices s n) := SameCounts.same rfl

theorem State.setAxis_counts (s : State) (a : Axis) (r : AxisRecord) : SameCounts s (s.setAxis a r) := SameCounts.same rfl

theorem State.setDelivery_counts (s : State) (a : Axis) (r : DeliveryRecord) : SameCounts s (s.setDelivery a r) :=
  SameCounts.same rfl

theorem State.setSensor_counts (s : State) (q : Quantity) (r : SensorRecord) : SameCounts s (s.setSensor q r) :=
  SameCounts.same rfl

/-- A state that differs from `s` in the Auto Sequencer's fields only. -/
theorem sameTracking_mk_counts (s : State) (x : SequencerState) (t : Timer) (b : BitVec 9) :
    SameCounts s { s with sequencer := x, sequenceTimer := t, aborts := b } := SameCounts.same rfl

/-- A state that differs from `s` in the trackers' own fields only. -/
theorem kept_mk_counts (s : State) (j : List Joint) (e : Int) (m : Bool) (z : Option Int) (a : Int) (r : Option Int)
    (b : Option Nat) (f : Int) (st rt : Timer) :
    SameCounts s { s with joints := j, extension := e, mismatch := m, depthHeld := z, keyTravel := a, angleRef := r, band := b,
                          backoff := f, stallTimer := st, recoveryTimer := rt } := SameCounts.same rfl

/-! ## Delivery -/

theorem newFrame_counts (s : State) (a : Axis) (g : Int) (m : Mode) : SameCounts s (newFrame s a g m) := by
  have h : ∀ (d : DeliveryRecord) (c : DeliveryCounters),
      d.superseding c = { c with superseded := (d.superseding c).superseded } := by
    intro d c
    unfold DeliveryRecord.superseding
    split <;> rfl
  refine ⟨rfl, rfl, rfl, fun b => ?_, rfl⟩
  cases a <;> cases b <;> first | rfl | exact h _ _

theorem produce_counts (s : State) (a : Axis) (g : Int) (m : Mode) (r : Bool) : SameCounts s (produce s a g m r) := by
  unfold produce
  split
  · rfl
  · split
    · exact newFrame_counts s a g m
    · rfl

theorem handOver_counts (s : State) (a : Axis) (r : Bool) : SameCounts s (handOver s a r) := produce_counts s a _ _ r

theorem neutralRewrite_counts (s : State) (a : Axis) : SameCounts s (neutralRewrite s a) := by
  unfold neutralRewrite
  split
  · exact newFrame_counts s a _ _
  · rfl

theorem neutralRewriteAll_counts (s : State) : SameCounts s (neutralRewriteAll s) :=
  SameCounts.foldl neutralRewrite_counts _ s

theorem deliveriesBusOff_counts (s : State) : SameCounts s (deliveriesBusOff s) := SameCounts.same rfl

theorem deliveriesRecovered_counts (s : State) : SameCounts s (deliveriesRecovered s) := by
  unfold deliveriesRecovered
  split
  · exact SameCounts.foldl (fun s a => handOver_counts s a true) _ s
  · rfl

/-! ## Axes -/

theorem evaluate_counts (s : State) (a : Axis) (r : Bool) : SameCounts s (evaluate s a r) :=
  (s.setAxis_counts a _).trans (handOver_counts _ a r)

theorem evaluateNow_counts (s : State) (a : Axis) : SameCounts s (evaluateNow s a) := evaluate_counts s a false

theorem evaluateAxes_counts (s : State) (l : List Axis) : SameCounts s (evaluateAxes s l) :=
  SameCounts.foldl evaluateNow_counts l s

theorem evaluateAll_counts (s : State) : SameCounts s (evaluateAll s) := evaluateAxes_counts s allAxes

theorem evaluateInService_counts (s : State) (a : Axis) : SameCounts s (evaluateInService s a) := by
  unfold evaluateInService
  split
  · exact evaluateNow_counts s a
  · exact evaluateNow_counts s a
  · exact evaluateNow_counts s a
  · rfl
  · rfl

theorem reportAxisState_counts (s : State) (a : Axis) : SameCounts s (reportAxisState s a) := report_counts s _ _ _

theorem changeAxis_counts (s : State) (a : Axis) (r : AxisRecord) : SameCounts s (changeAxis s a r) :=
  ((s.setAxis_counts a r).trans (reportAxisState_counts _ a)).trans (handOver_counts _ a false)

theorem neutralise_counts (c : ExitCause) (s : State) (a : Axis) : SameCounts s (neutralise c s a) := by
  unfold neutralise
  split
  · exact changeAxis_counts s a _
  · exact changeAxis_counts s a _
  · exact changeAxis_counts s a _
  · rfl
  · rfl

theorem neutraliseAll_counts (s : State) (c : ExitCause) : SameCounts s (neutraliseAll s c) :=
  SameCounts.foldl (neutralise_counts c) _ s

theorem operatorExpiry_counts (s : State) (a : Axis) : SameCounts s (operatorExpiry s a) := by
  unfold operatorExpiry
  dsimp only
  split
  · split
    · exact changeAxis_counts s a _
    · exact (s.setAxis_counts a _).trans (reportAxisState_counts _ a)
  · exact s.setAxis_counts a _

theorem rampExpiry_counts (s : State) (a : Axis) : SameCounts s (rampExpiry s a) := by
  unfold rampExpiry
  dsimp only
  split
  · have stepped := (s.setAxis_counts a ((s.axis a).rampStep s.tables.rig)).trans (handOver_counts _ a false)
    split
    · exact stepped.trans (changeAxis_counts _ a _)
    · exact stepped
  · exact s.setAxis_counts a _

theorem refreshExpiry_counts (s : State) (a : Axis) : SameCounts s (refreshExpiry s a) :=
  (s.setDelivery_counts a _).trans (evaluate_counts _ a true)

theorem clearAxisFault_counts (s : State) (a : Axis) : SameCounts s (clearAxisFault s a) := by
  unfold clearAxisFault
  split
  · exact changeAxis_counts s a _
  all_goals rfl

/-! ## Auto Sequencer -/

theorem endSequence_counts (s : State) : SameCounts s (endSequence s) := sameTracking_mk_counts s _ _ _

theorem abortSequence_counts (s : State) (c : AbortCause) : SameCounts s (abortSequence s c) := by
  unfold abortSequence
  split
  · rfl
  · exact (sameTracking_mk_counts s _ _ _).trans (report_counts _ _ _ _)

theorem handBackState_counts (s : State) (d : Int) : SameCounts s (handBackState s d) := by
  unfold handBackState
  dsimp only
  split
  · exact changeAxis_counts s _ _
  · exact (s.setAxis_counts _ _).trans (reportAxisState_counts _ _)

theorem handBack_counts (s : State) (d : Int) : SameCounts s (handBack s d) := by
  unfold handBack
  dsimp only
  split
  · exact (handBackState_counts s d).trans (evaluateNow_counts _ _)
  · exact handBackState_counts s d

theorem abortAndHandBack_counts (s : State) (c : AbortCause) : SameCounts s (abortAndHandBack s c) := by
  unfold abortAndHandBack
  split
  · rfl
  · exact (abortSequence_counts s c).trans (handBack_counts _ 0)

theorem completeSequence_counts (s : State) (n : Nat) : SameCounts s (completeSequence s n) :=
  ((endSequence_counts s).trans (report_counts _ _ _ _)).trans (handBack_counts _ 0)

theorem sequencerLockEvent_counts (s : State) (n : Nat) : SameCounts s (sequencerLockEvent s n) := by
  unfold sequencerLockEvent
  split
  · exact completeSequence_counts s n
  · rfl

theorem sequencerReleaseEvent_counts (s : State) (n : Nat) : SameCounts s (sequencerReleaseEvent s n) := by
  unfold sequencerReleaseEvent
  split
  · exact completeSequence_counts s n
  · rfl

theorem sequencerSetChange_counts (s : State) : SameCounts s (sequencerSetChange s) := by
  unfold sequencerSetChange
  split
  · exact abortAndHandBack_counts s _
  · rfl

theorem startSequence_counts (s : State) (l : Bool) : SameCounts s (startSequence s l) :=
  (((sameTracking_mk_counts s _ _ s.aborts).trans (State.setAxis_counts _ _ _)).trans
    (reportAxisState_counts _ _)).trans (evaluateAxes_counts _ _)

theorem sequencerCommand_counts (s : State) (l r : Bool) (d : Int) : SameCounts s (sequencerCommand s l r d) := by
  have h : ∀ c d, SameCounts s (handBackState (abortSequence s c) d) := fun c d =>
    (abortSequence_counts s c).trans (handBackState_counts _ d)
  unfold sequencerCommand
  repeat' split
  all_goals first
    | rfl | exact h _ _ | exact startSequence_counts s l | exact (report_counts s _ _ _)

theorem enterFault_counts (s : State) (a : Axis) (c : ExitCause) : SameCounts s (enterFault s a c) := by
  unfold enterFault
  dsimp only
  split
  · split
    · rfl
    · exact ((s.setAxis_counts a _).trans (report_counts _ _ _ _))
  · have h := (((s.setAxis_counts a
      { (s.axis a).toNeutralFor c with state := .fault }).trans (report_counts _ .axisFault a.code c.bit)).trans
      (handOver_counts _ a false))
    split
    · exact h.trans (abortSequence_counts _ _)
    · exact h

theorem commandAction_counts (s : State) (a : Axis) (d : Int) : SameCounts s (commandAction s a d) := by
  unfold commandAction
  split
  · split
    · exact (s.setAxis_counts a _).trans (reportAxisState_counts _ a)
    · rfl
  · exact (s.setAxis_counts a _).trans (reportAxisState_counts _ a)
  all_goals rfl

theorem commandHandOff_counts (s : State) (a : Axis) (pl : List Byte) (d : Int) :
    SameCounts s (commandHandOff s a pl d) := by
  unfold commandHandOff
  split
  · exact sequencerCommand_counts s _ _ d
  · rfl

theorem sequenceExpiry_counts (s : State) : SameCounts s (sequenceExpiry s) := by
  unfold sequenceExpiry
  split
  · exact sameTracking_mk_counts s s.sequencer none s.aborts
  · exact abortAndHandBack_counts s _

/-! ## Echoes, retries and bus-off -/

theorem driverFaulted_counts (s : State) (a : Axis) (k : FaultKind) (c : ExitCause) : SameCounts s (driverFaulted s a k c) :=
  (capture_counts s k a.code).trans (enterFault_counts _ a c)

theorem machineBusOff_counts (s : State) : SameCounts s (machineBusOff s) :=
  ((deliveriesBusOff_counts s).trans (neutraliseAll_counts _ _)).trans (abortSequence_counts _ _)

/-! ## Kelly Tracker -/

theorem realign_counts (s : State) : SameCounts s (realign s) := by
  exact kept_mk_counts s _ s.extension s.mismatch s.depthHeld s.keyTravel s.angleRef s.band s.backoff s.stallTimer s.recoveryTimer

theorem lockSlip_counts (s : State) (d : Int) : SameCounts s (lockSlip s d) := by
  unfold lockSlip
  dsimp only
  exact ((((kept_mk_counts s _ s.extension s.mismatch s.depthHeld 0 s.angleRef s.band s.backoff s.stallTimer
    s.recoveryTimer).trans (report_counts _ _ _ _)).trans (capture_counts _ _ _)).trans
    (enterFault_counts _ _ _)).trans (evaluateNow_counts _ _)

theorem slipStep_counts (s : State) : SameCounts s (slipStep s) := by
  unfold slipStep
  split
  · exact lockSlip_counts s _
  · rfl

theorem decideMismatch_counts (s : State) : SameCounts s (decideMismatch s) := by
  unfold decideMismatch
  dsimp only
  have h := kept_mk_counts s s.joints s.extension (rangeFails s || overExtended s) s.depthHeld s.keyTravel s.angleRef s.band
    s.backoff s.stallTimer s.recoveryTimer
  repeat' split
  all_goals first
    | exact (h.trans (report_counts _ _ _ _)).trans (capture_counts _ _ _)
    | exact h.trans (report_counts _ _ _ _) | exact h

theorem divideStep_counts (s : State) : SameCounts s (divideStep s) :=
  kept_mk_counts s _ _ s.mismatch s.depthHeld s.keyTravel s.angleRef s.band s.backoff s.stallTimer s.recoveryTimer

theorem retractionStep_counts (s : State) : SameCounts s (retractionStep s) := by
  unfold retractionStep
  dsimp only
  split
  · have h := kept_mk_counts s (s.joints.map Joint.retracted) 0 s.mismatch s.depthHeld 0 s.angleRef s.band s.backoff s.stallTimer
      s.recoveryTimer
    split
    · exact h.trans (sequencerReleaseEvent_counts _ _)
    · exact (h.trans (report_counts _ _ _ _)).trans (sequencerReleaseEvent_counts _ _)
  · rfl

theorem alignmentStep_counts (b : List Bool) (s : State) : SameCounts s (alignmentStep b s) := by
  unfold alignmentStep
  dsimp only
  split
  · exact realign_counts s
  · exact ((realign_counts s).trans (kept_mk_counts (realign s) (realign s).joints (realign s).extension (realign s).mismatch
      (realign s).depthHeld 0 (realign s).angleRef (realign s).band (realign s).backoff (realign s).stallTimer
      (realign s).recoveryTimer)).trans (sequencerSetChange_counts _)

theorem allocate_counts (s : State) : SameCounts s (allocate s) :=
  ((((slipStep_counts s).trans (decideMismatch_counts _)).trans (divideStep_counts _)).trans (retractionStep_counts _)).trans
    (alignmentStep_counts _ _)

theorem allocateIfTracking_counts (s : State) : SameCounts s (allocateIfTracking s) := by
  unfold allocateIfTracking
  split
  · exact allocate_counts s
  · rfl

theorem kellyPayout_counts (s : State) : SameCounts s (kellyPayout s) := by
  unfold kellyPayout
  split
  · exact (kept_mk_counts s s.joints s.extension s.mismatch _ s.keyTravel s.angleRef s.band s.backoff s.stallTimer
      s.recoveryTimer).trans (allocateIfTracking_counts _)
  · exact allocateIfTracking_counts s

theorem reportLocked_counts (s : State) (js : List (Nat × Joint)) : SameCounts s (reportLocked s js) := by
  apply SameCounts.foldl
  intro s p
  split
  · exact report_counts s _ _ _
  · rfl

theorem lockEvent_counts (s : State) : SameCounts s (lockEvent s) := by
  unfold lockEvent
  dsimp only
  refine ((reportLocked_counts s (numbered s.joints)).trans ?_).trans (sequencerLockEvent_counts _ _)
  generalize reportLocked s (numbered s.joints) = t
  exact (kept_mk_counts t _ _ t.mismatch t.depthHeld 0 t.angleRef t.band t.backoff t.stallTimer t.recoveryTimer).trans
    (realign_counts _)

theorem handOffRelease_counts (s : State) (n : Nat) : SameCounts s (handOffRelease s n) := by
  unfold handOffRelease
  have h := madeChoices_counts s 1
  split
  · split
    · exact (h.trans (sequencerReleaseEvent_counts _ n)).trans (evaluateNow_counts _ _)
    · exact (h.trans (evaluateNow_counts _ _)).trans (sequencerReleaseEvent_counts _ n)
  · exact (evaluateNow_counts s _)

theorem releaseEvent_counts (s : State) : SameCounts s (releaseEvent s) := by
  unfold releaseEvent
  dsimp only
  exact (((kept_mk_counts s _ s.extension s.mismatch s.depthHeld 0 s.angleRef s.band s.backoff s.stallTimer s.recoveryTimer).trans
    (realign_counts _)).trans (report_counts _ _ _ _)).trans (handOffRelease_counts _ _)

theorem keyTests_counts (s : State) : SameCounts s (keyTests s) := by
  unfold keyTests
  split
  · exact lockEvent_counts s
  · split
    · exact releaseEvent_counts s
    · rfl

theorem kellyAngle_counts (s : State) : SameCounts s (kellyAngle s) := by
  unfold kellyAngle
  dsimp only
  split
  · exact (kept_mk_counts s s.joints s.extension s.mismatch s.depthHeld _ _ s.band s.backoff s.stallTimer s.recoveryTimer).trans
      (keyTests_counts _)
  · exact kept_mk_counts s s.joints s.extension s.mismatch s.depthHeld s.keyTravel _ s.band s.backoff s.stallTimer s.recoveryTimer

theorem divideHeld_counts (s : State) : SameCounts s (divideHeld s) := by
  unfold divideHeld
  exact (kept_mk_counts s _ _ s.mismatch s.depthHeld s.keyTravel s.angleRef s.band s.backoff s.stallTimer s.recoveryTimer).trans
    (realign_counts _)

theorem kellyTableChange_counts (s : State) (b : Bool) : SameCounts s (kellyTableChange s b) := by
  unfold kellyTableChange
  dsimp only
  have h := fun j => kept_mk_counts s j s.extension s.mismatch s.depthHeld 0 s.angleRef s.band s.backoff s.stallTimer s.recoveryTimer
  split
  · exact (h _).trans (allocate_counts _)
  · exact (h _).trans (divideHeld_counts _)
  · exact h _

/-! ## Band Tracker and stall detector -/

theorem changeBand_counts (s : State) (b : Option Nat) : SameCounts s (changeBand s b) := by
  unfold changeBand
  exact ((kept_mk_counts s s.joints s.extension s.mismatch s.depthHeld s.keyTravel s.angleRef b s.backoff s.stallTimer
    s.recoveryTimer).trans (report_counts _ _ _ _)).trans (evaluateAll_counts _)

theorem bandPayout_counts (s : State) : SameCounts s (bandPayout s) := by
  unfold bandPayout
  split
  · exact changeBand_counts s _
  · rfl

theorem bandCommit_counts (s : State) (es : List BufferEntry) : SameCounts s (bandCommit s es) := by
  unfold bandCommit
  split
  · exact changeBand_counts s _
  · rfl

theorem stallTest_counts (s : State) : SameCounts s (stallTest s) :=
  kept_mk_counts s s.joints s.extension s.mismatch s.depthHeld s.keyTravel s.angleRef s.band s.backoff _ s.recoveryTimer

theorem recoveryExpiry_counts (s : State) : SameCounts s (recoveryExpiry s) := by
  unfold recoveryExpiry
  dsimp only
  split
  · exact kept_mk_counts s s.joints s.extension s.mismatch s.depthHeld s.keyTravel s.angleRef s.band _ s.stallTimer _
  · exact (kept_mk_counts s s.joints s.extension s.mismatch s.depthHeld s.keyTravel s.angleRef s.band _ s.stallTimer _).trans
      (report_counts _ _ _ _)

theorem backoffReset_counts (s : State) : SameCounts s (backoffReset s) := by
  unfold backoffReset
  dsimp only
  have h := kept_mk_counts s s.joints s.extension s.mismatch s.depthHeld s.keyTravel s.angleRef s.band 1000 none none
  split
  · exact h.trans (report_counts _ _ _ _)
  · exact h

/-! ## Sensor Intake -/

theorem freshnessToAxes_counts (s : State) (q : Quantity) (o : RecordState) : SameCounts s (freshnessToAxes s q o) := by
  unfold freshnessToAxes
  dsimp only
  split
  · exact (((madeChoices_counts s 3).trans (evaluateAxes_counts _ _)).trans (abortAndHandBack_counts _ _)).trans
      (evaluateAxes_counts _ _)
  · exact (evaluateAll_counts s)

theorem freshnessToKelly_counts (s : State) (q : Quantity) (o : RecordState) : SameCounts s (freshnessToKelly s q o) := by
  unfold freshnessToKelly
  split
  · exact kept_mk_counts s s.joints s.extension s.mismatch s.depthHeld s.keyTravel none s.band s.backoff s.stallTimer s.recoveryTimer
  · rfl

theorem freshnessToStall_counts (s : State) (q : Quantity) : SameCounts s (freshnessToStall s q) := by
  cases q
  all_goals first | exact stallTest_counts s | exact SameCounts.refl s

theorem handOnFreshness_counts (s : State) (q : Quantity) (o : RecordState) : SameCounts s (handOnFreshness s q o) :=
  ((freshnessToKelly_counts s q o).trans (freshnessToAxes_counts _ q o)).trans (freshnessToStall_counts _ q)

theorem becomeStale_counts (s : State) (q : Quantity) (c : StaleCause) : SameCounts s (becomeStale s q c) :=
  ((s.setSensor_counts q _).trans (report_counts _ _ _ _)).trans (handOnFreshness_counts _ q _)

theorem handOnPayout_counts (s : State) : SameCounts s (handOnPayout s) := by
  unfold handOnPayout
  have h := madeChoices_counts s 1
  split
  · split
    · exact (h.trans (kellyPayout_counts _)).trans (bandPayout_counts _)
    · exact (h.trans (bandPayout_counts _)).trans (kellyPayout_counts _)
  · exact kellyPayout_counts s

theorem handOnSample_counts (s : State) (q : Quantity) : SameCounts s (handOnSample s q) := by
  cases q
  · exact handOnPayout_counts s
  · exact allocateIfTracking_counts s
  · exact (kellyAngle_counts s).trans (stallTest_counts _)
  · exact (evaluateInService_counts s .rotary).trans (stallTest_counts _)
  · exact (evaluateInService_counts s .crowd)
  · exact (evaluateInService_counts s .hoist)

theorem remapQuantity_counts (s : State) (q : Quantity) : SameCounts s (remapQuantity s q) := by
  unfold remapQuantity
  dsimp only
  have h := s.setSensor_counts q SensorRecord.initial
  split
  · exact h
  · exact h.trans (handOnFreshness_counts _ q _)
  · exact (h.trans (report_counts _ _ _ _)).trans (handOnFreshness_counts _ q _)

theorem remapSensors_counts (s : State) (m : Option (List Nat)) : SameCounts s (remapSensors s m) := by
  unfold remapSensors
  split
  · rfl
  · exact SameCounts.foldl remapQuantity_counts _ s

end Sys2Proof.Machine
end

