-- ==== Sys2Proof/Laws/Drive.lean ====
section
/-! SUPPORT. What the hand-off of a governed value and an evaluation do, said once: the axis records, the reports and the
deliveries after them. -/

namespace Sys2Proof.Machine

open Sys2Proof

/-! ## New frames and hand-offs -/

@[simp] theorem newFrame_axes (s : State) (a : Axis) (g : Int) (m : Mode) : (newFrame s a g m).axes = s.axes := rfl

@[simp] theorem newFrame_reports (s : State) (a : Axis) (g : Int) (m : Mode) : (newFrame s a g m).reports = s.reports := rfl

theorem newFrame_delivery_same (s : State) (a : Axis) (g : Int) (m : Mode) :
    (newFrame s a g m).delivery a = (s.delivery a).withFrame (if s.governor = .govern then g else 0)
      (if s.governor = .govern then m else .neutral) := by
  simp [newFrame, State.delivery]

theorem newFrame_delivery_other (s : State) (a b : Axis) (g : Int) (m : Mode) (h : b ≠ a) :
    (newFrame s a g m).delivery b = s.delivery b := by
  simp [newFrame, State.delivery, h]

/-- A hand-off leaves the state, or makes one new frame. -/
theorem produce_cases (s : State) (a : Axis) (g : Int) (m : Mode) (r : Bool) :
    produce s a g m r = s ∨ (produce s a g m r = newFrame s a g m ∧ isBusOff s .machine = false) := by
  unfold produce
  split
  · exact .inl rfl
  · split
    · exact .inr ⟨rfl, by simp_all⟩
    · exact .inl rfl

/-- In BUS_OFF a hand-off makes nothing (R150). -/
theorem produce_busOff (s : State) (a : Axis) (g : Int) (m : Mode) (r : Bool) (h : isBusOff s .machine = true) :
    produce s a g m r = s := by
  simp [produce, h]

@[simp] theorem produce_axes (s : State) (a : Axis) (g : Int) (m : Mode) (r : Bool) : (produce s a g m r).axes = s.axes := by
  rcases produce_cases s a g m r with h | ⟨h, -⟩ <;> rw [h]; rfl

@[simp] theorem produce_reports (s : State) (a : Axis) (g : Int) (m : Mode) (r : Bool) :
    (produce s a g m r).reports = s.reports := by
  rcases produce_cases s a g m r with h | ⟨h, -⟩ <;> rw [h]; rfl

theorem produce_delivery_other (s : State) (a b : Axis) (g : Int) (m : Mode) (r : Bool) (h : b ≠ a) :
    (produce s a g m r).delivery b = s.delivery b := by
  rcases produce_cases s a g m r with k | ⟨k, -⟩ <;> rw [k]
  exact newFrame_delivery_other s a b g m h

@[simp] theorem handOver_axes (s : State) (a : Axis) (r : Bool) : (handOver s a r).axes = s.axes := produce_axes s a _ _ r

@[simp] theorem handOver_reports (s : State) (a : Axis) (r : Bool) : (handOver s a r).reports = s.reports :=
  produce_reports s a _ _ r

theorem handOver_delivery_other (s : State) (a b : Axis) (r : Bool) (h : b ≠ a) :
    (handOver s a r).delivery b = s.delivery b := produce_delivery_other s a b _ _ r h

/-! ## Evaluations -/

theorem evaluate_axis_same (s : State) (a : Axis) (r : Bool) :
    (evaluate s a r).axis a = (s.axis a).withEvaluation (evaluated s a) s.millis := by
  unfold evaluate State.axis
  rw [handOver_axes]
  exact PerAxis.get_set_same s.axes a _

theorem evaluate_axis_other (s : State) (a b : Axis) (r : Bool) (h : b ≠ a) : (evaluate s a r).axis b = s.axis b := by
  unfold evaluate State.axis
  rw [handOver_axes]
  exact PerAxis.get_set_other s.axes a b _ h

@[simp] theorem evaluate_reports (s : State) (a : Axis) (r : Bool) : (evaluate s a r).reports = s.reports :=
  handOver_reports _ a r

theorem evaluate_delivery_other (s : State) (a b : Axis) (r : Bool) (h : b ≠ a) :
    (evaluate s a r).delivery b = s.delivery b := handOver_delivery_other _ a b r h

@[simp] theorem evaluateNow_reports (s : State) (a : Axis) : (evaluateNow s a).reports = s.reports := evaluate_reports s a false

/-- An evaluation changes no axis state (R135). -/
theorem evaluate_state (s : State) (a b : Axis) (r : Bool) : ((evaluate s a r).axis b).state = (s.axis b).state := by
  by_cases h : b = a
  · subst h; rw [evaluate_axis_same]; rfl
  · rw [evaluate_axis_other s a b r h]

/-! ## Ramp steps -/

/-- A ramp step lowers the magnitude of G by the step, or to 0, and never crosses 0 (R128). -/
theorem rampStepped_spec (g step : Int) :
    |rampStepped g step| = max 0 (|g| - step) ∧ 0 ≤ rampStepped g step * g := by
  unfold rampStepped
  split
  · simp; omega
  · rename_i far
    rcases lt_or_ge g 0 with neg | pos
    · rw [abs_of_neg neg] at far ⊢
      simp only [neg, if_true]
      exact ⟨by rw [abs_of_nonpos (by omega)]; omega, mul_nonneg_of_nonpos_of_nonpos (by omega) (by omega)⟩
    · rw [abs_of_nonneg pos] at far ⊢
      simp only [Int.not_lt.mpr pos, if_false]
      exact ⟨by rw [abs_of_nonneg (by omega)]; omega, mul_nonneg (by omega) pos⟩

/-- A ramp step changes G and the ramp timer only. -/
@[simp] theorem rampStep_state (r : AxisRecord) (rig : Table) : (r.rampStep rig).state = r.state := rfl
@[simp] theorem rampStep_governed (r : AxisRecord) (rig : Table) :
    (r.rampStep rig).governed = rampStepped r.governed (Rig.rampStep rig) := rfl
@[simp] theorem rampStep_demand (r : AxisRecord) (rig : Table) : (r.rampStep rig).demand = r.demand := rfl
@[simp] theorem rampStep_exits (r : AxisRecord) (rig : Table) : (r.rampStep rig).exits = r.exits := rfl

end Sys2Proof.Machine
end

