-- ==== Sys2Proof/Laws/Reception.lean ====
section
/-! SUPPORT. How each received row reaches its block: a reception, its classification, its length check and the block's own
operation, in one equation for each class of frame. -/

namespace Sys2Proof.Machine

open Sys2Proof

/-- A port hears a frame as `heard` says (R14). -/
theorem heard_eq (s : State) (p : Port) : heard s p = s.setPort p (s.port p).received := rfl

/-- A reception at a port that takes part in its bus is the treatment of the frame heard. -/
theorem receive_eq (s : State) (p : Port) (f : Frame) (h : takesPart s p = true) :
    receive s p f = treat (heard s p) p (classify s p (sensorMapInForce s) f) f := by
  simp only [receive, receiveUnder, h, if_true]; rfl

/-- A port that takes no part in its bus receives nothing (R1, R16). -/
theorem receive_none (s : State) (p : Port) (f : Frame) (h : takesPart s p = false) : receive s p f = s := by
  simp [receive, receiveUnder, h]

/-- A standard data frame of a class below 16 and a channel has that class and channel. -/
theorem ownFrame_id (c ch : Nat) (d : List Byte) (h : ch < 128) :
    Frame.cls (ownFrame c ch d) = c ∧ Frame.chan (ownFrame c ch d) = ch := by
  simp only [Frame.cls, Frame.chan, ownFrame]
  omega

/-- A management frame reaches the Load Unit, or fails its length (R5, R7). -/
theorem manage_eq (s : State) (payload : List Byte) (h : takesPart s .operator = true) :
    manage s payload = receiveManagement (heard s .operator) .operator (ownFrame 8 s.channel.toNat payload) := by
  have hid := ownFrame_id 8 s.channel.toNat payload (by have := s.channel.isLt; omega)
  have hc : classify s .operator (sensorMapInForce s) (ownFrame 8 s.channel.toNat payload) = .management := by
    simp [classify, classifyOperator, hid.1, hid.2, show (ownFrame 8 s.channel.toNat payload).extended = false from rfl,
      show (ownFrame 8 s.channel.toNat payload).remote = false from rfl]
  rw [manage, receive_eq s .operator _ h, hc]
  rfl

/-- A management frame with a payload is served where the reply slot is empty (R163). -/
theorem manage_served (s : State) (payload : List Byte) (h : servesManagement s) (hp : payload ≠ []) :
    manage s payload = serve (heard s .operator) (requestOf payload) := by
  have hl : (ownFrame 8 s.channel.toNat payload).len ≠ 0 := by
    simpa [ownFrame] using hp
  have hr : (heard s .operator).replies = [] := h.2
  rw [manage_eq s payload h.1, receiveManagement, if_neg hl, takeManagement, if_neg (by simp [hr])]
  rfl

/-- A management frame with a payload is discarded while the reply slot holds a frame (R163). -/
theorem manage_discarded (s : State) (payload : List Byte) (h : takesPart s .operator = true) (hr : s.replies ≠ [])
    (hp : payload ≠ []) :
    manage s payload = (heard s .operator).countPart (fun c => { c with managementDrops := bump c.managementDrops }) := by
  have hl : (ownFrame 8 s.channel.toNat payload).len ≠ 0 := by
    simpa [ownFrame] using hp
  have hr' : (heard s .operator).replies ≠ [] := hr
  rw [manage_eq s payload h, receiveManagement, if_neg hl, takeManagement, if_pos hr']

/-- An OPERATOR COMMAND reaches its Axis Governor (R5). -/
theorem operatorCommand_eq (s : State) (a : Axis) (payload : List Byte) (h : takesPart s .operator = true) :
    receive s .operator (ownFrame 3 a.code payload) =
      receiveCommand (heard s .operator) .operator a (ownFrame 3 a.code payload) := by
  have hid := ownFrame_id 3 a.code payload (by cases a <;> decide)
  have hc : classify s .operator (sensorMapInForce s) (ownFrame 3 a.code payload) = .command a := by
    simp only [classify, classifyOperator, hid.1, hid.2]
    cases a <;> rfl
  rw [receive_eq s .operator _ h, hc]
  rfl

/-- A DRIVER ECHO reaches the Delivery Unit (R6). -/
theorem driverEcho_eq (s : State) (a : Axis) (payload : List Byte) (h : takesPart s .machine = true) :
    receive s .machine (ownFrame 2 a.code payload) =
      receiveEcho (heard s .machine) .machine a (ownFrame 2 a.code payload) := by
  have hid := ownFrame_id 2 a.code payload (by cases a <;> decide)
  have hc : classify s .machine (sensorMapInForce s) (ownFrame 2 a.code payload) = .echo a := by
    simp only [classify, classifyMachine, hid.1, hid.2]
    cases a <;> rfl
  rw [receive_eq s .machine _ h, hc]
  rfl

/-- A STOP frame is relayed and given to Governor Control (R5, R6, R9). -/
theorem stopFrame_eq (s : State) (p : Port) (ch : Channel) (payload : List Byte) (h : takesPart s p = true) :
    receive s p (ownFrame 0 ch.toNat payload) =
      governorStop (relayStop (heard s p) p (ownFrame 0 ch.toNat payload)) p ch.toNat := by
  have hid := ownFrame_id 0 ch.toNat payload (by have := ch.isLt; omega)
  have hc : classify s p (sensorMapInForce s) (ownFrame 0 ch.toNat payload) = .stop := by
    cases p <;>
      simp [classify, classifyOperator, classifyMachine, hid.1, show (ownFrame 0 ch.toNat payload).extended = false from rfl,
        show (ownFrame 0 ch.toNat payload).remote = false from rfl]
  have hi : (ownFrame 0 ch.toNat payload).id = ch.toNat := by simp [ownFrame]
  rw [receive_eq s p _ h, hc, treat, hi]

/-- A SENSOR SAMPLE on a mapped channel is snooped and forwarded (R6). -/
theorem sensorSample_eq (s : State) (map : Option (List Nat)) (ch : Channel) (payload : List Byte) (q : Quantity)
    (h : takesPart s .machine = true) (hq : mappedQuantity map ch.toNat = some q) :
    receiveUnder s .machine map (ownFrame 4 ch.toNat payload) =
      snoop (heard s .machine) .machine q (ownFrame 4 ch.toNat payload) := by
  have hid := ownFrame_id 4 ch.toNat payload (by have := ch.isLt; omega)
  have hc : classify s .machine map (ownFrame 4 ch.toNat payload) = .snoop q := by
    simp [classify, classifyMachine, hid.1, hid.2, hq, show (ownFrame 4 ch.toNat payload).extended = false from rfl,
      show (ownFrame 4 ch.toNat payload).remote = false from rfl]
  simp only [receiveUnder, h, if_true, hc]
  rfl

/-- An expiry acts where its timer has run out and RESET is high. -/
theorem onExpiry_due (s : State) (t : Timer) (effect : State) (h : s.resetLow = false) (ht : t = some 0) :
    onExpiry s t effect = effect := by
  simp [onExpiry, Timer.due, h, ht]

/-- An expiry of a timer that has not run out changes nothing (log 3). -/
theorem onExpiry_not_due (s : State) (t : Timer) (effect : State) (h : t ≠ some 0) : onExpiry s t effect = s := by
  simp [onExpiry, Timer.due, h]

end Sys2Proof.Machine
end

