-- ==== Sys2Proof/WellFormed.lean ====
section
/-! DEFINITION. Which commands are well formed: the frame formats of R2 and R173.  The meanings are total and do not depend
on these checks. -/

namespace Sys2Proof

/-- A frame that a CAN bus can carry (R2): the identifier fits its format, the length is 0 to 8, and the bytes are as many as
the length says, none in a remote frame. -/
def Frame.wf (f : Frame) : Bool :=
  decide (f.id < if f.extended then 2 ^ 29 else 2 ^ 11) && decide (f.len ≤ 8) &&
    (if f.remote then f.data.isEmpty else decide (f.data.length = f.len))

/-- A payload that a frame can carry: 0 to 8 bytes (R2). -/
def payloadWf (payload : List Byte) : Bool := decide (payload.length ≤ 8)

/-- The well-formed commands. -/
def Instr.wf : Instr → Bool
  | .lostArbitration _ (some f) => f.wf
  | .forward _ f => f.wf
  | .foreignFrame _ f => f.wf
  | .stopFrame _ _ pl => payloadWf pl
  | .operatorCommand _ pl => payloadWf pl
  | .sensorSample _ pl _ => payloadWf pl
  | .driverEcho _ pl => payloadWf pl
  | .unknownKind pl => payloadWf pl
  | .segment body => decide (body.length ≤ 7)
  | .powerOnReset _ | .resetLow | .resetHigh _ | .transmitStart _ | .transmitComplete _ _ | .lostArbitration _ none
  | .transmissionError _ _ | .receiveError _ | .busOffRecovery _ _ | .select _ _ _ | .commit | .commitCompletion
  | .read _ _ _ | .release | .hold | .stopClear | .clearFaults | .clearLoadErrors | .discardPending | .clearCounters
  | .restart | .stopQuietTimerExpiry | .sensorFreshnessExpiry _ | .operatorFreshnessExpiry _ | .rampTimerExpiry _
  | .echoTimerExpiry _ | .refreshTimerExpiry _ | .stallTimerExpiry | .recoveryTimerExpiry | .sequenceTimerExpiry
  | .statusTimerExpiry => true

end Sys2Proof
end

