-- ==== Sys2Proof/Tests/Slice0.lean ====
section
/-! SUPPORT. Small tests: the WellFormed checks, one step of each command on a small state (expected results from the worked
examples and tables of spec/), and for each statement with hypotheses a theorem that some state and operands meet them,
clause by clause. -/

namespace Sys2Proof.Tests

open Sys2Proof Sys2Proof.Machine

/-! ## Small states -/

/-- The state after a command; every command answers a next state. -/
def after (c : Instr) (s : State) : State :=
  match exec c s with
  | .next t => t
  | .fault _ => s
  | .refused _ => s

/-- Two-byte fields, one behind the other. -/
def words (l : List Int) : List Byte := l.flatMap byte2

/-- A row that is present, its bytes filled up with zeros. -/
def rowOf (bs : List Byte) : Option Row := some (padTo 16 bs)

/-- A frame's payload with its check byte. -/
def checked (bs : List Byte) : List Byte := bs ++ [checkByte bs]

/-- The rig profile of the worked examples (1.8.1 and later): management channel 5, P0 18500, echo window 10, retry limit 2. -/
def rigTable : Table :=
  { valid := true
    rows := [rowOf (byte1 5 ++ words [100, 800, 150] ++ leBytes 4 18500),
      rowOf ([36, 37, 38, 39, 41, 42, 20] ++ words [50]), rowOf (words [40, 40, 40, 40, 40, 40, 200, 100]),
      rowOf (words [4200, 400, 300, 900, 500, 20, 1000, 200]), rowOf (words [850, 800, 800, 20, 25, 30, 300, 300]),
      rowOf (words [100, 100, 100] ++ [50, 10, 2, 3] ++ words [150]),
      rowOf (byte1 10 ++ words [900, 300, 500, 300, 100, 1000] ++ byte1 20),
      rowOf (words [250, 3000, 600, 1000] ++ byte1 0 ++ words [5000]), rowOf [0x55, 0x55, 0x55, 0x55, 0x55],
      rowOf (byte1 0)] }

/-- A bar of two sections: one joint of stroke 11000 with rows at 2000, 5000, 8000 and 11000 (joint 1 of the example bar). -/
def barTable : Table :=
  { valid := true
    rows := [rowOf (byte1 2 ++ words [15000, 60, 250, 250, 120, 120, 600]),
      rowOf (words [11000, 40, 4600, 1500] ++ [0, 4] ++ words [2000, 3000, 320]), none, none, none] }

/-- A bore plan of one band, 0 to 8000 mm. -/
def boreTable : Table :=
  { valid := true
    rows := [rowOf (byte1 1),
      rowOf (leBytes 3 0 ++ leBytes 3 8000 ++ byte1 0 ++ words [250, 3000, 600, 1000] ++ byte1 0)] ++
      List.replicate 23 none }

/-- A FRESH record of a value. -/
def freshRecord (v : Int) : SensorRecord :=
  { state := .fresh, value := some v, secondary := none, lastAlive := some 3, stamp := some 0, timer := some 40 }

/-- In service: the tables above, every quantity FRESH, Z 17000 and E_raw 2000, joint 1 at its row 0, GOVERN, every axis ACTIVE
at 0. -/
def served : State :=
  { State.reset with
    channel := 5
    governor := .govern
    tables := { rig := rigTable, bar := barTable, pocket := Table.empty 8, bore := boreTable }
    sensors := ⟨freshRecord 35500, freshRecord 0, freshRecord 100, freshRecord 0, freshRecord 0, freshRecord 100⟩
    joints := [{ offset := 2000, lock := .free, lockedRow := none, nearest := 0, aligned := true }]
    extension := 2000
    angleRef := some 100
    axes :=
      let r : AxisRecord := { AxisRecord.initial with state := .active, demand := some 0, freshness := some 100 }
      ⟨r, r, r⟩
    reports := [] }

/-- `served` with ROTARY changed. -/
def rotaryWith (f : AxisRecord → AxisRecord) : State := served.setAxis .rotary (f (served.axis .rotary))

/-- `served` with the rotary delivery changed. -/
def deliveryWith (f : DeliveryRecord → DeliveryRecord) : State :=
  served.setDelivery .rotary (f (served.delivery .rotary))

/-- `served` with a port changed. -/
def portWith (p : Port) (f : PortRecord → PortRecord) : State := served.setPort p (f (served.port p))

/-- A frame of an identifier without payload. -/
def frameOf (id : Nat) : Frame := { extended := false, remote := false, id := id, len := 0, data := [] }

/-- A port of `served` with a transmission in progress. -/
def sendingOf (p : Port) (source : TxSource) : State := portWith p (fun r => { r with sending := some ⟨frameOf 5, source⟩ })

/-! ## WellFormed: an ill-formed term for each check -/

theorem test_wf_identifier : (Instr.forward .operator (frameOf 2048)).wf = false := by decide
theorem test_wf_extended : (Instr.forward .operator { frameOf 2048 with extended := true }).wf = true := by decide
theorem test_wf_length : (Instr.foreignFrame .machine { frameOf 5 with len := 9, data := List.replicate 9 0 }).wf = false := by
  decide
theorem test_wf_bytes : (Instr.lostArbitration .machine (some { frameOf 5 with len := 2 })).wf = false := by decide
theorem test_wf_remote : (Instr.forward .machine { frameOf 5 with remote := true, len := 1, data := [0] }).wf = false := by
  decide
theorem test_wf_payload : (Instr.stopFrame .machine 0 (List.replicate 9 0)).wf = false := by decide
theorem test_wf_segment : (Instr.segment (List.replicate 8 0)).wf = false := by decide
theorem test_wf_command : (Instr.operatorCommand .hoist [0, 0, 0, 0]).wf = true := by decide

/-! ## One step of each command -/

-- R1, R19, R21: the rate of a high RATE level, HOLD, and the RESET report
theorem test_power_on : let t := after (.powerOnReset true) served
    t.bitRate = .kbit500 ∧ t.governor = .hold ∧ t.reports = [resetReport] ∧ t.tables.rig.valid = false := by decide
-- R1, R71, R88: the tables and the extension stay, the locks are UNKNOWN
theorem test_reset_low : let t := after .resetLow served
    t.resetLow = true ∧ t.extension = 2000 ∧ t.joints.map Joint.lock = [.unknown] ∧ t.governor = .hold := by decide
-- R147, R176: refresh and status timers are loaded at the end of a warm reset
theorem test_reset_high : let t := after (.resetHigh false) (after .resetLow served)
    t.deliveries.crowd.refresh = some 50 ∧ t.statusTimer = some 100 ∧ t.bitRate = .kbit250 := by decide
-- R12: a report, class 0x7, goes ahead of a forwarded frame of class 0xB
theorem test_transmit_start :
    ((after (.transmitStart .operator) (State.reset.setPort .operator
      { PortRecord.initial with queue := [frameOf (11 * 128)] })).port .operator).sending = some ⟨resetReport, .report⟩ := by
  decide
-- R142: the delivery is awaited for the echo window and the refresh timer runs
theorem test_transmit_complete :
    let t := after (.transmitComplete .machine false) ((sendingOf .machine (.governed .rotary 4)).setDelivery .rotary
      { DeliveryRecord.initial with state := .queued, sequence := 4 })
    t.deliveries.rotary.state = .await ∧ t.deliveries.rotary.echo = some 10 ∧ t.deliveries.rotary.refresh = some 50 := by
  decide
-- R13: the winner, a STOP, is received and stops the part
theorem test_lost_arbitration :
    let t := after (.lostArbitration .machine (some (frameOf 3))) (sendingOf .machine .forwarded)
    t.governor = .stopped ∧ (t.port .machine).sending = none := by decide
-- R14, R16: 248 and 8 pass 255
theorem test_transmission_error :
    let t := after (.transmissionError .machine false) ((sendingOf .machine .stop).setPort .machine
      { (sendingOf .machine .stop).port .machine with txErrors := 248 })
    (t.port .machine).status = .busOff ∧ t.axes.hoist.state = .neutral ∧ t.axes.hoist.exits = 8 := by decide
-- R14: stops at 255
theorem test_receive_error :
    ((after (.receiveError .operator) (portWith .operator (fun r => { r with rxErrors := 255 }))).port .operator).rxErrors =
      255 := by decide
-- R17: the 128th run ends BUS_OFF
theorem test_bus_off_recovery :
    let t := after (.busOffRecovery .operator 28) (portWith .operator (fun r => { r with txErrors := 256, recovery := 100 }))
    (t.port .operator).status = .errorActive ∧ t.reports.length = 1 := by decide
-- R10, R11: the queue of 32 drops
theorem test_forward_drops :
    let t := after (.forward .machine (frameOf (4 * 128))) (portWith .operator
      (fun r => { r with queue := List.replicate 32 (frameOf 1) }))
    (t.port .operator).queue.length = 32 ∧ t.counters.port.machine.drops = 1 ∧ (t.port .operator).dropMark = true := by
  decide
-- R5: MANAGEMENT on another channel is forwarded
theorem test_forward_other_channel :
    ((after (.forward .operator (frameOf (8 * 128 + 6))) served).port .machine).queue = [frameOf (8 * 128 + 6)] := by decide
-- R8: a GOVERNED COMMAND at the operator port
theorem test_foreign : let t := after (.foreignFrame .operator (frameOf 129)) served
    t.counters.port.operator.foreign = 1 ∧ (t.port .machine).queue = [] := by decide
-- R9: the second STOP merges into the first
theorem test_stop_merges :
    let t := after (.stopFrame .operator 9 []) (after (.stopFrame .operator 3 [1]) served)
    (t.port .machine).stopSlot = some { frameOf 3 with len := 1, data := [1] } ∧ t.quiet = some 800 := by decide
-- R123: 1500 is clamped to 1000; CROWD rises by its slew step at 100 ms, 25 times 100 div 10
theorem test_operator_command :
    let t := after (.operatorCommand .crowd (checked (byte2 1500 ++ [1]))) served
    t.axes.crowd.demand = some 1000 ∧ t.axes.crowd.governed = 250 ∧ t.counters.axis.crowd.clamped = 1 := by decide
-- R155, R156: LOCK_REQ at demand 0 with joint 1 aligned
theorem test_lock_request :
    let t := after (.operatorCommand .rotary (checked [0, 0, 0x11])) served
    t.sequencer = .locking ∧ t.axes.rotary.state = .auto ∧ t.axes.rotary.governed = 120 := by decide
-- R74, R78: A passes the lock angle of 250 and joint 1 locks at row 0
theorem test_sample_locks :
    let t := after (.sensorSample 38 (checked (leBytes 4 120 ++ [0, 0, 4])) false) { served with keyTravel := 240 }
    t.joints.map Joint.lockedRow = [some 0] ∧ t.keyTravel = 0 ∧ (t.port .operator).queue.length = 1 := by decide
-- R38: 3600 is no angle
theorem test_sample_range :
    let t := after (.sensorSample 38 (checked (leBytes 4 3600 ++ [0, 0, 4])) false) served
    t.counters.quantity.angle.rangeErrors = 1 ∧ t.sensors.angle = served.sensors.angle := by decide
-- R144: a matching echo; R145: a late one
theorem test_echo_matches :
    (after (.driverEcho .rotary (checked [4, 9, 0])) (deliveryWith (fun d =>
      { d with state := .await, sequence := 4, value := 9 }))).deliveries.rotary.lastDelivered = 9 := by decide
theorem test_echo_late :
    (after (.driverEcho .rotary (checked [5, 9, 0])) (deliveryWith (fun d =>
      { d with state := .await, sequence := 4 }))).counters.delivery.rotary.lateEchoes = 1 := by decide
-- R163: an unknown kind is answered REFUSED, STRUCTURE
theorem test_unknown_kind : (after (.unknownKind [6]) served).replies.map Frame.data = [[6, 6, 1, 255, 255, 0]] := by decide
-- R165: a row beyond the table
theorem test_select : (after (.select 2 5 0) served).replies.map Frame.data = [[1, 3, 255, 2, 5, 0]] := by decide
-- R165: a segment without selection
theorem test_segment : (after (.segment [0, 1]) served).counters.part.skippedSegments = 1 := by decide
-- R167: an empty buffer
theorem test_commit : (after .commit served).replies.map Frame.data = [[3, 0, 255, 255, 255, 0]] := by decide
-- R169: the sensor map in service
theorem test_commit_in_service :
    let t := after .commitCompletion { served with
      flight := some ⟨1, 25⟩, buffer := [⟨1, 1, padTo 16 ([36, 37, 38, 39, 41, 43, 20] ++ words [50])⟩] }
    t.replies.map Frame.data = [[3, 6, 4, 1, 1, 0]] ∧ t.buffer = [] ∧ t.tables = served.tables := by decide
-- R162: a bar profile commit does not complete while a sequence runs, though the extension is 50 (log 39)
theorem test_commit_while_releasing :
    let s (x : SequencerState) : State := { served with
      sequencer := x, extension := 50, flight := some ⟨1, 25⟩
      buffer := [⟨2, 0, padTo 16 (byte1 2 ++ words [15000, 60, 250, 250, 120, 200, 600])⟩] }
    (after .commitCompletion (s .releasing)).tables = served.tables ∧
    Bar.releaseCreep (after .commitCompletion (s .idle)).tables.bar = 200 := by decide
-- R168: an operator deadband of 60 is clamped to 50 and answered ADJUSTED
theorem test_commit_adjusts :
    let t := after .commitCompletion { served with
      governor := .hold, flight := some ⟨1, 25⟩, buffer := [⟨1, 1, padTo 16 ([36, 37, 38, 39, 41, 42, 60] ++ words [50])⟩] }
    t.replies.map Frame.data = [[3, 1, 255, 255, 255, 1]] ∧ Rig.deadband t.tables.rig = 50 := by decide
-- R168: joint 1's pitch of 120 is not above twice the row tolerance; row 3's mode is out of its set, but comes later
theorem test_commit_first_bad_row :
    let es := ([⟨2, 3, padTo 16 (List.replicate 9 5)⟩, ⟨2, 1, padTo 16 (words [11000, 40, 4600, 1500] ++ [0, 4] ++
      words [2000, 120, 320])⟩] : List BufferEntry).map BufferEntry.clamped
    structuralFault (touches es) (served.tables.layAll es) = some ⟨.structure_, 2, 1⟩ := by decide
-- R170, R173: the governor row of state table 0x10
theorem test_read : ((after (.read 0x10 0 0) served).replies.map Frame.data).take 2 =
    [[4, 0x10, 1, 0, 0, 5, 0, 0], [4, 0x11, 0, 0, 0, 0, 0, 0]] := by decide
-- R22: RELEASE from HOLD; a head gone stale refuses it
theorem test_release : (after .release { served with governor := .hold }).governor = .govern := by decide
theorem test_release_refused : (after .release { served with
    governor := .hold, sensors := { served.sensors with head := SensorRecord.initial } }).replies.map Frame.data =
      [[5, 6, 6, 255, 255, 0]] := by decide
-- R25, R149: HOLD takes every axis to NEUTRAL
theorem test_hold : let t := after .hold (rotaryWith (fun r => { r with governed := 300 }))
    t.governor = .hold ∧ t.axes.rotary.governed = 0 ∧ t.axes.rotary.exits = 4 := by decide
-- R29: refused while the quiet timer runs
theorem test_stop_clear : (after .stopClear { served with governor := .stopped, quiet := some 1 }).governor = .stopped := by
  decide
-- R132
theorem test_clear_faults :
    (after .clearFaults (rotaryWith (fun r => { r with state := .fault, exits := 32 }))).axes.rotary.state = .neutral := by
  decide
-- R171
theorem test_clear_load_errors : (after .clearLoadErrors { served with loadFlags := 5 }).loadFlags = 0 := by decide
theorem test_discard_pending : (after .discardPending { served with buffer := [⟨1, 0, []⟩] }).buffer = [] := by decide
theorem test_clear_counters :
    (after .clearCounters (served.countPart (fun c => { c with stalls := 7 }))).counters = Counters.zero := by decide
-- R20: the warm reset waits for the reply
theorem test_restart : let t := after .restart served
    t.restarting = true ∧ t.governor = .govern ∧ t.replies.length = 1 := by decide
-- R28
theorem test_quiet_expiry : (after .stopQuietTimerExpiry { served with quiet := some 0 }).quiet = none := by decide
-- R40, R44: HEAD goes stale and the geometry is HELD
theorem test_sensor_expiry :
    let t := after (.sensorFreshnessExpiry .head) (served.setSensor .head { freshRecord 0 with timer := some 0 })
    t.sensors.head.state = .stale ∧ geometry t = .held := by decide
-- R128: G = 400 enters RAMPDOWN; a ramp step of 150 leaves 250
theorem test_operator_expiry :
    (after (.operatorFreshnessExpiry .rotary) (rotaryWith (fun r =>
      { r with governed := 400, freshness := some 0 }))).axes.rotary.state = .rampdown := by decide
theorem test_ramp_expiry :
    (after (.rampTimerExpiry .rotary) (rotaryWith (fun r =>
      { r with state := .rampdown, governed := 400, ramp := some 0 }))).axes.rotary.governed = 250 := by decide
-- R121, R128: the step to 0 hands 0 over in ACTIVE, and the entry into NEUTRAL hands it over again
theorem test_ramp_end :
    let t := after (.rampTimerExpiry .rotary) ((rotaryWith (fun r =>
      { r with state := .rampdown, governed := 100, ramp := some 0 })).setDelivery .rotary
      { DeliveryRecord.initial with sequence := 4, value := 100, mode := .active })
    t.axes.rotary.state = .neutral ∧ t.deliveries.rotary.sequence = 6 ∧ t.deliveries.rotary.mode = .neutral := by decide
-- R146: the first retry; at the limit the delivery is given up
theorem test_echo_expiry :
    (after (.echoTimerExpiry .rotary) (deliveryWith (fun d =>
      { d with state := .await, echo := some 0 }))).deliveries.rotary.retry = 1 := by decide
theorem test_echo_give_up :
    let t := after (.echoTimerExpiry .rotary) (deliveryWith (fun d =>
      { d with state := .await, echo := some 0, retry := 2, missStreak := 2 }))
    t.deliveries.rotary.missStreak = 3 ∧ t.axes.rotary.state = .fault := by decide
-- R148: a new frame of the same value
theorem test_refresh_expiry :
    (after (.refreshTimerExpiry .rotary) (deliveryWith (fun d =>
      { d with mode := .active, refresh := some 0, sequence := 15 }))).deliveries.rotary.sequence = 0 := by decide
-- R116: 1000 at a level of 500
theorem test_stall_expiry : (after .stallTimerExpiry { served with stallTimer := some 0 }).backoff = 500 := by decide
-- R117: 500 and a step of 100
theorem test_recovery_expiry :
    (after .recoveryTimerExpiry { served with backoff := 500, recoveryTimer := some 0 }).backoff = 600 := by decide
-- R160
theorem test_sequence_expiry :
    let t := after .sequenceTimerExpiry { rotaryWith (fun r => { r with state := .auto, governed := 120 }) with
      sequencer := .locking, sequenceTimer := some 0 }
    t.sequencer = .idle ∧ t.axes.rotary.state = .active ∧ t.axes.rotary.governed = 0 := by decide
-- R176: page A of the state in service
theorem test_status_expiry : ((after .statusTimerExpiry { served with statusTimer := some 0 }).statusSlot.map Frame.data).head? =
    some [1, 1, 1, 1, 1, 255, 0, 0] := by decide
-- no word spells a command
theorem test_decode : decodeTableWord 8 1 = none := by decide

/-! ## Witnesses: for each statement with hypotheses, a state and operands that meet them, clause by clause -/

/-- `served` with a reply waiting. -/
def replying : State := { served with replies := [frameOf 1] }

/-- The joint of `served`, and its tables, are consistent. -/
theorem served_joints : JointsWithinStroke served where
  count := by decide
  sum := by decide
  offset := by decide
  nearest := by decide
  locked := by decide
  noRow := by decide
  windows := by decide
  present := by decide
  rows := by
    intro j h1 h2
    match j, h1, h2 with
    | 1, _, _ => decide
    | 2, _, h => exact absurd h (by decide)
    | 3, _, h => exact absurd h (by decide)
    | 4, _, h => exact absurd h (by decide)
    | n + 5, _, h => simp [Table.present, served, barTable] at h

theorem witness_StepRunsTheFrontCommand : ({ served with pending := [.commit] } : State).pending = .commit :: [] := by decide

theorem witness_IdleStepIsTheTimebase :
    (served.pending = [] ∧ ({ served with resetLow := true } : State).resetLow = true) ∧
    (served.resetLow = false ∧ dueEvents served = []) ∧
    dueEvents { served with quiet := some 0 } = [.stopQuietTimerExpiry] ∧
    2 ≤ (dueEvents { served with quiet := some 0, statusTimer := some 0 }).length := by decide

theorem witness_CommandsKeepTheQueue : ∃ t, exec .commit served = .next t := ⟨_, rfl⟩

theorem witness_ResetPulseIsAWarmReset :
    (({ served with resetLow := true } : State).resetLow = true ∧ served.tables.rig.valid = true) ∧
    (({ State.reset with resetLow := true } : State).resetLow = true ∧ State.reset.tables.rig.valid = false) ∧
    served.resetLow = false := by decide

theorem witness_ResetPulseIsAWarmReset_restart :
    let s := { sendingOf .operator .reply with restarting := true }
    s.resetLow = false ∧ s.restarting = true ∧ (s.port .operator).sending = some ⟨frameOf 5, .reply⟩ := by decide

theorem witness_TransmissionsStartAndLoseArbitration_start :
    takesPart State.reset .operator = true ∧ (State.reset.port .operator).sending = none ∧
    ⟨resetReport, .report⟩ ∈ candidates State.reset .operator := by decide

theorem witness_TransmitCompleteEmptiesTheSource :
    (∀ x ∈ [TxSource.stop, .forwarded, .report, .status, .replaced, .reply, .governed .rotary 0],
      ((sendingOf .operator x).port .operator).sending = some ⟨frameOf 5, x⟩) ∧
    (sendingOf .operator .reply).restarting = false := by decide

theorem witness_TransmitCompleteEmptiesTheSource_governed :
    let s (n : Nat) := (sendingOf .machine (.governed .rotary n)).setDelivery .rotary
      { DeliveryRecord.initial with state := .queued, sequence := 15 }
    ((s 15).port .machine).sending = some ⟨frameOf 5, .governed .rotary 15⟩ ∧
    ((s 15).delivery .rotary).state = .queued ∧ ((s 15).delivery .rotary).sequence = 15 ∧
    ((s 0).delivery .rotary).sequence ≠ 0 := by decide

theorem witness_TransmissionsStartAndLoseArbitration_lost :
    ((sendingOf .machine .stop).port .machine).sending = some ⟨frameOf 5, .stop⟩ := by decide

theorem witness_ErrorsRaiseTheCounts :
    let s (n : Nat) := portWith .operator (fun r => { r with txErrors := n, sending := some ⟨frameOf 5, .report⟩ })
    (((s 247).port .operator).sending = some ⟨frameOf 5, .report⟩ ∧ ((s 247).port .operator).txErrors + 8 ≤ 255) ∧
    ((s 128).port .operator).status = .errorPassive ∧ ((s 127).port .operator).status ≠ .errorPassive ∧
    255 < ((s 248).port .operator).txErrors + 8 ∧ takesPart served .operator = true := by decide

theorem witness_MachineBusOffNeutralisesEverything :
    let s := portWith .machine (fun r => { r with txErrors := 248, sending := some ⟨frameOf 5, .stop⟩ })
    (s.port .machine).sending = some ⟨frameOf 5, .stop⟩ ∧ 255 < (s.port .machine).txErrors + 8 ∧
    (s.axis .rotary).state = .active ∧ s.sequencer = .idle ∧
    ((rotaryWith (fun r => { r with state := .fault })).axis .rotary).state = .fault ∧
    ({ served with sequencer := .locking } : State).sequencer ≠ .idle := by decide

theorem witness_BusOffIsLeftAfter128Runs :
    let s (p : Port) := portWith p (fun r => { r with txErrors := 256, recovery := 127 })
    (∀ p, (s p).resetLow = false ∧ 255 < ((s p).port p).txErrors ∧ ((s p).port p).recovery + 0 < 128 ∧
      128 ≤ ((s p).port p).recovery + 1) ∧
    (s .machine).tables.rig.valid = true ∧ ({ s .machine with tables := Tables.empty } : State).tables.rig.valid = false ∧
    (s .machine).governor = .govern ∧
    ({ s .machine with governor := .hold } : State).governor ≠ .govern := by
  refine ⟨fun p => ?_, ?_⟩
  · cases p <;> decide
  · decide

theorem witness_ClassifierFollowsTheTables :
    (frameOf 5).extended = false ∧ (frameOf 5).remote = false ∧ ({ frameOf 5 with extended := true } : Frame).extended = true ∧
    ({ frameOf 5 with remote := true } : Frame).remote = true ∧ (frameOf 127).id / 128 = 0 ∧ (frameOf 128).id / 128 = 1 ∧
    (frameOf 256).id / 128 = 2 ∧ (frameOf 258).id % 128 = Axis.hoist.code ∧ 3 ≤ (frameOf 259).id % 128 ∧
    (frameOf 384).id / 128 = 3 ∧ (frameOf 384).id % 128 = Axis.rotary.code ∧ 3 ≤ (frameOf 387).id % 128 ∧
    (frameOf 548).id / 128 = 4 ∧ mappedQuantity (sensorMapInForce served) ((frameOf 548).id % 128) = some .payout ∧
    mappedQuantity (sensorMapInForce served) ((frameOf 552).id % 128) = none ∧ (frameOf 1029).id / 128 = 8 ∧
    (frameOf 1029).id % 128 = served.channel.toNat ∧ (frameOf 1030).id % 128 ≠ served.channel.toNat ∧
    (frameOf 640).id / 128 = 5 ∧ (frameOf 768).id / 128 = 6 ∧ (frameOf 1023).id / 128 = 7 ∧
    9 ≤ (frameOf 1152).id / 128 := by decide

theorem witness_ReceivedFramesAreForwardedOrForeign :
    let s (n : Nat) (m : Bool) := portWith .machine (fun r => { r with queue := List.replicate n (frameOf 1), dropMark := m })
    (takesPart served .operator = true ∧
      classify served .operator (sensorMapInForce served) (frameOf 1152) = .forward) ∧
    ((heard (s 31 false) .operator).port .machine).queue.length < 32 ∧
    (32 ≤ ((heard (s 32 true) .operator).port .machine).queue.length ∧
      ((heard (s 32 true) .operator).port .machine).dropMark = true) ∧
    (32 ≤ ((heard (s 32 false) .operator).port .machine).queue.length ∧
      ((heard (s 32 false) .operator).port .machine).dropMark = false) ∧
    (frameOf 255).id / 128 = 1 ∧ (frameOf 256).id / 128 = 2 ∧ (frameOf 384).id / 128 = 3 := by decide

theorem witness_StopFrameStops :
    takesPart served .machine = true ∧ served.governor ≠ .stopped ∧
    ({ served with governor := .stopped } : State).governor = .stopped := by decide

/-- `served` serves management frames. -/
theorem served_management : servesManagement served := ⟨by decide, rfl⟩

theorem witness_HoldControlEntersHold : servesManagement served ∧ served.governor = .govern ∧
    servesManagement { served with governor := .hold } ∧ servesManagement { served with governor := .stopped } :=
  ⟨served_management, rfl, ⟨by decide, rfl⟩, ⟨by decide, rfl⟩⟩

theorem witness_ReleaseControlFollowsItsChecks : servesManagement served ∧
    (({ served with flight := some ⟨0, 0⟩ } : State).flight.isSome = true ∧ served.flight = none ∧
    (¬(State.reset.tables.rig.valid = true ∧ State.reset.tables.bar.valid = true)) ∧
    (served.tables.rig.valid = true ∧ served.tables.bar.valid = true) ∧
    (¬(isFresh State.reset .payout = true ∧ isFresh State.reset .head = true)) ∧
    (isFresh served .payout = true ∧ isFresh served .head = true)) :=
  ⟨served_management, by decide⟩

theorem witness_StopClearNeedsTheQuietPeriod :
    let s (q : Timer) : State := { served with governor := .stopped, quiet := q }
    servesManagement (s none) ∧ (s (some 1)).quiet.isSome = true ∧ (s none).quiet = none ∧ served.governor ≠ .stopped ∧
    (s (some 0)).resetLow = false ∧ (s (some 0)).quiet = some 0 :=
  ⟨⟨by decide, rfl⟩, rfl, rfl, by decide, rfl, rfl⟩

theorem witness_RefusedPayloadsOnlyCount :
    (takesPart served .operator = true ∧ takesPart served .machine = true) ∧
    (([0, 0, 0] : List Byte).length ≠ 4 ∧ ([0, 0, 0, 0, 0] : List Byte).length ≠ 4) ∧
    byteSum [0, 0, 0, 1] ≠ 0 ∧
    (byteSum (checked [0, 0, 15]) = 0 ∧
      ((rotaryWith (fun r => { r with lastAlive := some 15 })).axis .rotary).lastAlive =
        some (u8At (checked [0, 0, 15]) 2 % 16)) ∧
    mappedQuantity (sensorMapInForce served) 38 = some .angle ∧
    (List.replicate 7 (0 : Byte)).length ≠ 8 ∧ byteSum [0, 0, 0, 0, 0, 0, 0, 1] ≠ 0 ∧
    (served.sensor .angle).lastAlive = some (u8At (checked [0, 0, 0, 0, 0, 0, 3]) 6 % 16) ∧
    ((served.sensor .angle).lastAlive ≠ some (u8At (checked [0, 0, 0, 0, 0, 0, 0x24]) 6 % 16) ∧
      sampleStatus (checked [0, 0, 0, 0, 0, 0, 0x24]) = .fault ∧
      ((served.setSensor .angle { freshRecord 1 with state := .stale }).sensor .angle).state = .stale) ∧
    sampleInRange .angle (checked (leBytes 4 3600 ++ [0, 0, 4])) = false := by decide

theorem witness_CommandOutOfServiceIsStored :
    let s := rotaryWith (fun r => { r with state := .neutral })
    takesPart s .operator = true ∧ (checked (byte2 20 ++ [1])).length = 4 ∧ byteSum (checked (byte2 20 ++ [1])) = 0 ∧
    (s.axis .rotary).lastAlive ≠ some (u8At (checked (byte2 20 ++ [1])) 2 % 16) ∧ (s.axis .rotary).state = .neutral ∧
    ¬((20 : Int) = 0) ∧ demandAfterDeadband s (checked (byte2 20 ++ [1])) = 20 ∧
    demandAfterDeadband s (checked (byte2 19 ++ [1])) = 0 ∧
    commandLockReq (checked (byte2 20 ++ [1])) = false ∧ commandReleaseReq (checked (byte2 20 ++ [1])) = false ∧
    ((rotaryWith (fun r => { r with state := .fault })).axis .rotary).state = .fault := by decide

theorem witness_CommandInServiceIsEvaluated_reentry :
    let s := rotaryWith (fun r => { r with state := .neutral })
    let payload := checked [19, 0, 1]
    takesPart s .operator = true ∧ payload.length = 4 ∧ byteSum payload = 0 ∧
    (s.axis .rotary).lastAlive ≠ some (u8At payload 2 % 16) ∧ (s.axis .rotary).state = .neutral ∧ s.governor = .govern ∧
    isBusOff s .machine = false ∧ demandAfterDeadband s payload = 0 ∧ commandLockReq payload = false ∧
    commandReleaseReq payload = false := by decide

theorem witness_CommandInServiceIsEvaluated :
    let payload := checked (byte2 (-1000) ++ [15])
    takesPart served .operator = true ∧ payload.length = 4 ∧ byteSum payload = 0 ∧
    (served.axis .hoist).lastAlive ≠ some (u8At payload 2 % 16) ∧ (served.axis .hoist).state = .active ∧
    served.governor = .govern ∧ isBusOff served .machine = false ∧
    ((rotaryWith (fun r => { r with state := .rampdown })).axis .rotary).state = .rampdown ∧
    commandLockReq payload = false ∧ commandReleaseReq payload = false := by decide

theorem witness_RequestStartsASequence : JointsWithinStroke served ∧
    (let lock := checked [0, 0, 0x11]
    let release := checked [0, 0, 0x21]
    let locked : State := { served with joints := [{ offset := 2000, lock := .locked, lockedRow := some 0, nearest := 0, aligned := true }] }
    takesPart served .operator = true ∧ lock.length = 4 ∧ byteSum lock = 0 ∧ byteSum release = 0 ∧
    served.axes.rotary.lastAlive ≠ some (u8At lock 2 % 16) ∧ served.axes.rotary.state = .active ∧
    served.sequencer = .idle ∧ served.governor = .govern ∧ isBusOff served .machine = false ∧
    demandAfterDeadband served lock = 0 ∧ geometry served = .tracking ∧ isFresh served .angle = true ∧
    commandLockReq lock ≠ commandReleaseReq lock ∧ commandLockReq release ≠ commandReleaseReq release ∧
    anyJoint (alignedSet served) = true ∧ anyNotFree locked = true) :=
  ⟨served_joints, by decide⟩

/-- A rotary command of a demand, and of LOCK_REQ (16) and RELEASE_REQ (32). -/
def rotaryCommand (d : Int) (flags : Nat) : List Byte := checked (byte2 d ++ byte1 (flags : Nat))

/-- `served` with a sequence running and ROTARY in AUTO. -/
def sequencing (x : SequencerState) : State := { rotaryWith (fun r => { r with state := .auto, governed := 120 }) with
  sequencer := x, sequenceTimer := some 9 }

theorem witness_RotaryRequestsAndAutoCommands :
    let lock (d : Int) := rotaryCommand d 16
    let release := rotaryCommand 0 32
    let both := rotaryCommand 0 48
    let requests (s : State) (payload : List Byte) : Bool := takesPart s .operator ∧ payload.length = 4 ∧
      byteSum payload = 0 ∧ s.axes.rotary.lastAlive ≠ some (u8At payload 2 % 16) ∧ s.sequencer = .idle ∧
      s.axes.rotary.state ≠ .auto ∧ (u8At payload 2 / 16 % 2 = 1 ∨ u8At payload 2 / 32 % 2 = 1)
    let connected (s : State) : Bool := s.governor = .govern ∧ isBusOff s .machine = false
    let faulted := rotaryWith (fun r => { r with state := .fault })
    let blind := { served with sensors := { served.sensors with angle := SensorRecord.initial } }
    let held := { served with sensors := { served.sensors with head := SensorRecord.initial } }
    let turned := { served with joints := [⟨1000, .free, none, 0, false⟩] }
    (requests served both ∧ u8At both 2 / 16 % 2 = 1 ∧ u8At both 2 / 32 % 2 = 1) ∧
    (requests faulted (lock 0) ∧ connected faulted ∧ faulted.axes.rotary.state = .fault ∧
      ¬(u8At (lock 0) 2 / 16 % 2 = 1 ∧ u8At (lock 0) 2 / 32 % 2 = 1)) ∧
    requests { served with governor := .hold } (lock 0) ∧
    (requests served (lock 20) ∧ connected served ∧ served.axes.rotary.state = .active ∧
      demandAfterDeadband served (lock 20) = 20 ∧ demandAfterDeadband served (lock 19) = 0) ∧
    (requests held (lock 0) ∧ demandAfterDeadband held (lock 0) = 0 ∧ geometry held ≠ .tracking) ∧
    (requests blind (lock 0) ∧ geometry blind = .tracking ∧ isFresh blind .angle = false) ∧
    (requests turned (lock 0) ∧ geometry turned = .tracking ∧ isFresh turned .angle = true ∧
      ∀ j ∈ turned.joints, ¬(j.aligned = true ∧ j.lock ≠ .locked)) ∧
    (requests served release ∧ geometry served = .tracking ∧ ∀ j ∈ served.joints, j.lock = .free) := by decide

theorem witness_RotaryRequestsAndAutoCommands_auto :
    let s := sequencing .locking
    let payload (d : Int) (flags : Nat) := rotaryCommand d flags
    takesPart s .operator = true ∧ byteSum (payload 20 0) = 0 ∧ byteSum (payload 0 32) = 0 ∧
    s.axes.rotary.lastAlive ≠ some (u8At (payload 0 32) 2 % 16) ∧ s.sequencer ≠ .idle ∧ s.axes.rotary.state = .auto ∧
    demandAfterDeadband s (payload 20 0) ≠ 0 ∧
    (demandAfterDeadband s (payload 0 32) = 0 ∧ s.sequencer = .locking ∧ u8At (payload 0 32) 2 / 32 % 2 = 1) ∧
    ((sequencing .releasing).sequencer = .releasing ∧ u8At (payload 0 16) 2 / 16 % 2 = 1) ∧
    (demandAfterDeadband s (payload 0 16) = 0 ∧ u8At (payload 0 16) 2 / 32 % 2 ≠ 1) ∧
    (s.axes.rotary.commanded s .rotary (payload 0 16)).freshness.isSome = true ∧
    (let t := { (sequencing .locking).setAxis .rotary { (sequencing .locking).axes.rotary with freshness := none } with
      tables := { served.tables with rig := { rigTable with valid := false } } }
     t.axes.rotary.state = .auto ∧ (t.axes.rotary.commanded t .rotary (payload 0 16)).freshness = none) := by decide

theorem witness_AcceptedSampleMakesItsRecordFresh :
    let angle := checked (leBytes 4 3599 ++ [0, 0, 4])
    let force := checked (leBytes 4 1000 ++ [0, 0, 0x14])
    let lost (q : Quantity) := served.setSensor q { freshRecord 0 with state := .stale }
    let parked := served.setAxis .crowd { served.axes.crowd with state := .neutral }
    takesPart served .machine = true ∧ mappedQuantity (sensorMapInForce served) (38 : Channel).toNat = some .angle ∧
    angle.length = 8 ∧ byteSum angle = 0 ∧ (served.sensor .angle).lastAlive ≠ some (u8At angle 6 % 16) ∧
    sampleStatus angle ≠ .fault ∧ sampleInRange .angle angle = true ∧
    (served.sensor .angle).state = .fresh ∧ served.stallTimer = none ∧
    (((lost .angle).sensor .angle).state ≠ .fresh ∧ (lost .angle).stallTimer = none) ∧
    mappedQuantity (sensorMapInForce served) (41 : Channel).toNat = some .force ∧ byteSum force = 0 ∧
    (served.sensor .force).lastAlive ≠ some (u8At force 6 % 16) ∧ sampleStatus force = .degraded ∧
    sampleInRange .force force = true ∧ (served.port .operator).queue.length < 32 ∧
    (Axis.measured .crowd = .force ∧ (served.axis .crowd).state = .active) ∧
    (Axis.measured .hoist ≠ .force ∧ (parked.axis .crowd).state = .neutral) ∧
    ((lost .force).sensor .force).state ≠ .fresh := by decide

/-- `served` with a watched band and a torque that stalls ROTARY. -/
def stalling : State :=
  { rotaryWith (fun r => { r with governed := 1 }) with
    tables :=
      let row := rowOf (words [250, 3000, 600, 1000] ++ byte1 1 ++ words [5000])
      { served.tables with rig := { rigTable with rows := rigTable.rows.set 7 row } }
    sensors := { served.sensors with torque := freshRecord 3000, angle := { freshRecord 100 with secondary := some (-9) } } }

theorem witness_EvaluationsAndHandOffsOfSamples :
    let angle := checked (leBytes 4 3599 ++ [0, 0, 4])
    let head := checked (leBytes 4 0 ++ [0, 0, 4])
    let payout (v : Int) := checked (leBytes 4 v ++ [0, 0, 4])
    let ramping (d : Int) := rotaryWith (fun r => { r with state := .rampdown, governed := 300, demand := some d })
    (served.axes.rotary.state = .active ∧ (sequencing .releasing).axes.rotary.state = .auto ∧
      (sequencing .locking).sequencer = .locking ∧ (sequencing .releasing).sequencer = .releasing) ∧
    (|(governedValue (ramping 200) .rotary 200).1| < |(300 : Int)| ∧ 0 ≤ (governedValue (ramping 200) .rotary 200).1 * 300) ∧
    ¬(|(governedValue (ramping 300) .rotary 300).1| < |(300 : Int)|) ∧
    (stallStands stalling = true ∧ stallStands served = false) ∧
    takesPart served .machine = true ∧ (served.port .operator).queue.length < 32 ∧
    (mappedQuantity (sensorMapInForce served) (38 : Channel).toNat = some .angle ∧ byteSum angle = 0 ∧
      sampleInRange .angle angle = true ∧ (served.sensor .angle).state = .fresh) ∧
    (mappedQuantity (sensorMapInForce served) (37 : Channel).toNat = some .head ∧ byteSum head = 0 ∧
      (served.sensor .head).lastAlive ≠ some (u8At head 6 % 16) ∧ sampleInRange .head head = true) ∧
    (mappedQuantity (sensorMapInForce served) (36 : Channel).toNat = some .payout ∧ byteSum (payout 18650) = 0 ∧
      sampleStatus (payout 18650) ≠ .fault ∧ sampleInRange .payout (payout 18650) = true ∧
      lookupBand served.tables served.band (s32At (payout 18650) 0 - Rig.ropeOffset served.tables.rig) ≠ served.band ∧
      lookupBand served.tables served.band (s32At (payout 18649) 0 - Rig.ropeOffset served.tables.rig) = served.band) := by
  decide

theorem witness_LostSensorBecomesStale :
    let s := served.setSensor .angle { freshRecord 0 with timer := some 0 }
    let payload := checked [0, 0, 0, 0, 0, 0, 0x34]
    (s.resetLow = false ∧ (s.sensor .angle).timer = some 0 ∧ (s.sensor .angle).state = .fresh) ∧
    mappedQuantity (sensorMapInForce served) (38 : Channel).toNat = some .angle ∧ payload.length = 8 ∧ byteSum payload = 0 ∧
    (served.sensor .angle).lastAlive ≠ some (u8At payload 6 % 16) ∧ sampleStatus payload = .fault ∧
    (served.sensor .angle).state ≠ .stale ∧ served.sequencer = .idle ∧ (served.port .operator).queue.length < 32 ∧
    (SensorRecord.initial.state ≠ .stale ∧ SensorRecord.initial.state ≠ .fresh) ∧
    ((sequencing .locking).sequencer ≠ .idle ∧ ((sequencing .locking).sensor .head).state = .fresh ∧
      geometry (sequencing .locking) = .tracking ∧ (sequencing .locking).axes.rotary.freshness.isSome = true) ∧
    (rotaryWith (fun r => { r with freshness := none })).axes.rotary.freshness = none := by decide

theorem witness_HandOffsMakeGovernedCommands :
    isBusOff (portWith .machine (fun r => { r with txErrors := 256 })) .machine = true ∧
    isBusOff (portWith .machine (fun r => { r with txErrors := 255 })) .machine = false ∧
    ((served.delivery .rotary).value = 0 ∧ (served.delivery .rotary).mode = .neutral) ∧
    (served.delivery .rotary).value ≠ 1 ∧ (served.delivery .rotary).mode ≠ .active := by decide

theorem witness_EchoesMatchOrAreLate_matching :
    let d := (deliveryWith (fun d => { d with state := .await, sequence := 15, value := 1 })).delivery .rotary
    let q := (deliveryWith (fun d => { d with state := .queued, sequence := 15, retry := 1 })).delivery .rotary
    let payload (st : Nat) := checked (byte1 (15 + 16 * st : Nat) ++ [0, 0])
    takesPart served .machine = true ∧ (payload 1).length = 4 ∧ byteSum (payload 1) = 0 ∧
    d.sequence = u8At (payload 1) 0 % 16 ∧ d.state = .await ∧ (q.state = .queued ∧ 1 ≤ q.retry) ∧
    echoDriver (payload 0) = .active ∧ (echoDriver (payload 1) = .neutral ∧ d.value ≠ 0) ∧
    echoDriver (payload 2) = .fault ∧ echoDriver (payload 3) = .fault ∧ (served.axis .rotary).state ≠ .fault ∧
    ((rotaryWith (fun r => { r with state := .fault })).axis .rotary).state = .fault := by decide

theorem witness_EchoesMatchOrAreLate_late :
    let payload := checked [4, 0, 0]
    takesPart served .machine = true ∧ payload.length = 4 ∧ byteSum payload = 0 ∧
    (served.delivery .rotary).sequence ≠ u8At payload 0 % 16 ∧ (served.delivery .rotary).state = .idle ∧
    (let q := (deliveryWith (fun d => { d with state := .queued })).delivery .rotary
     q.state = .queued ∧ q.retry = 0) := by decide

theorem witness_DeliveryTimersRetryAndRefresh_echo :
    let s (n m : Nat) := deliveryWith (fun d => { d with state := .await, echo := some 0, retry := n, missStreak := m })
    ((s 1 0).resetLow = false ∧ ((s 1 0).delivery .rotary).echo = some 0 ∧ ((s 1 0).delivery .rotary).state = .await) ∧
    ((s 1 0).delivery .rotary).retry < Rig.retryLimit served.tables.rig ∧
    Rig.retryLimit served.tables.rig ≤ ((s 2 1).delivery .rotary).retry ∧ 1 + 1 < Rig.missLimit served.tables.rig ∧
    Rig.missLimit served.tables.rig ≤ 2 + 1 := by decide

/-- The premises of the clauses of EnteredFault. -/
theorem witness_EnteredFault :
    ((served.axis .rotary).state ≠ .fault ∧ isBusOff served .machine = false) ∧
    ((rotaryWith (fun r => { r with state := .fault })).axis .rotary).state = .fault ∧
    hasExit ((rotaryWith (fun r => { r with state := .fault })).axis .rotary).exits .driverLost = false ∧
    (let s : State := { rotaryWith (fun r => { r with state := .auto }) with sequencer := .locking }
     (s.axis .rotary).state = .auto ∧ s.sequencer ≠ .idle) := by decide

theorem witness_DeliveryTimersRetryAndRefresh_refresh :
    let s := deliveryWith (fun d => { d with refresh := some 0 })
    s.resetLow = false ∧ (s.delivery .rotary).refresh = some 0 ∧ isBusOff s .machine = false := by decide

theorem witness_ManagementFramesTurnedAway :
    takesPart replying .operator = true ∧ replying.replies ≠ [] ∧ served.replies = [] ∧
    u8At [0] 0 = 0 ∧ 5 < u8At [6] 0 ∧ (u8At [1, 2, 3] 0 = 1 ∧ ([1, 2, 3] : List Byte).length ≠ 4) ∧
    (u8At [3, 0] 0 = 3 ∧ ([3, 0] : List Byte).length ≠ 1) ∧ (u8At [4] 0 = 4 ∧ ([4] : List Byte).length ≠ 4) ∧
    (u8At [5] 0 = 5 ∧ ([5] : List Byte).length ≠ 2) ∧ (u8At [5, 0] 0 = 5 ∧ u8At [5, 0] 1 = 0) ∧
    (u8At [5, 9] 0 = 5 ∧ 8 < u8At [5, 9] 1) := by decide

/-- A selection that expects a segment. -/
def selecting (next : Nat) (check : Byte) (bytes : List Byte) : Option Selection :=
  some { table := 1, row := 9, check := check, next := next, bytes := bytes }

theorem witness_FramesLoadARow_select : servesManagement served ∧
    (({ served with loadFlags := 1 } : State).loadFlags ≠ 0 ∧ served.loadFlags = 0 ∧ served.selection = none ∧
    (∃ x, ({ served with selection := selecting 1 0 [] } : State).selection = some x ∧ x.next ≠ 0) ∧
    rowCount (4 : Byte).toNat ≤ (25 : Byte).toNat ∧ (24 : Byte).toNat < rowCount (4 : Byte).toNat) :=
  ⟨served_management, by decide, rfl, rfl, ⟨_, rfl, by decide⟩, by decide, by decide⟩

theorem witness_FramesLoadARow_segment : servesManagement served ∧
    (served.selection = none ∧
    (∃ x, selecting 0 0 [] = some x ∧ ¬(([0] : List Byte).length = (if x.next = 2 then 5 else 7) ∧ u8At [0] 0 = x.next)) ∧
    (∃ x, selecting 1 0 [] = some x ∧ (List.replicate 7 (1 : Byte)).length = (if x.next = 2 then 5 else 7) ∧
      u8At (List.replicate 7 1) 0 = x.next ∧ x.next ≠ 2) ∧
    (∃ x, selecting 2 1 (List.replicate 12 0) = some x ∧ ([2, 0, 0, 0, 0] : List Byte).length = (if x.next = 2 then 5 else 7) ∧
      x.next = 2 ∧ x.check + byteSum (x.bytes ++ ([2, 0, 0, 0, 0] : List Byte).tail) ≠ 0) ∧
    (∃ x, selecting 2 0 (List.replicate 12 0) = some x ∧ x.next = 2 ∧
      x.check + byteSum (x.bytes ++ ([2, 0, 0, 0, 0] : List Byte).tail) = 0) ∧
    16 ≤ (List.replicate 16 (⟨1, 0, []⟩ : BufferEntry)).length ∧ (List.replicate 15 (⟨1, 0, []⟩ : BufferEntry)).length < 16) :=
  ⟨served_management, rfl, ⟨_, rfl, by decide⟩, ⟨_, rfl, by decide⟩, ⟨_, rfl, by decide⟩, ⟨_, rfl, by decide⟩,
    by decide, by decide⟩

theorem witness_FramesLoadARow_four : servesManagement served ∧ served.loadFlags = 0 ∧
    (∀ x, served.selection = some x → x.next = 0) ∧ (9 : Byte).toNat < rowCount (1 : Byte).toNat ∧
    (List.replicate 16 (1 : Byte)).length = 16 ∧ (240 : Byte) + byteSum (List.replicate 16 1) = 0 ∧ served.buffer.length < 16 :=
  ⟨served_management, rfl, (by intro x h; cases h), by decide⟩

theorem witness_CommitAndLoadControlsAct_commit : servesManagement served ∧
    (({ served with flight := some ⟨0, 0⟩ } : State).flight.isSome = true ∧ served.flight = none ∧
    ({ served with loadFlags := 4 } : State).loadFlags ≠ 0 ∧ served.loadFlags = 0 ∧ served.buffer = [] ∧
    ({ served with buffer := [⟨1, 0, []⟩] } : State).buffer ≠ []) := ⟨served_management, by decide⟩

/-- A rig profile of ten rows of zeros, all present. -/
def blankRig : Tables := { Tables.empty with rig := { valid := true, rows := List.replicate 10 (rowOf []) } }

theorem witness_CommitsAreValidatedRowByRow :
    let touched : Nat → Bool := fun t => t == 1
    FirstPlace (RowMissing touched Tables.empty) 1 0 ∧
    ((∀ t r, ¬RowMissing touched blankRig t r) ∧ FirstPlace (RowUnsound touched blankRig) 1 1) ∧
    ((∀ t r, ¬RowMissing touched served.tables t r) ∧ ∀ t r, ¬RowUnsound touched served.tables t r) := by
  have present : ∀ ts : Tables, (∀ r < 10, (ts.get 1).present r = true) → ∀ t r, ¬RowMissing (fun t => t == 1) ts t r := by
    rintro ts h t r ⟨h1, h2 | h2 | h2 | h2⟩
    · obtain ⟨rfl, -, h3⟩ := h2
      rw [h r h3] at h1
      exact absurd h1 (by decide)
    · exact absurd h2.2.1 (by decide)
    · exact absurd h2.2.1 (by simp)
    · exact absurd h2.2.1 (by decide)
  refine ⟨⟨⟨by decide, .inl (by decide)⟩, ?_⟩, ⟨present _ (by decide), ⟨.inl ?_, ?_⟩⟩, present _ (by decide), ?_⟩
  · rintro t r ⟨-, h | h | h | h⟩
    · exact .inr ⟨h.1.symm, by omega⟩
    · exact absurd h.2.1 (by decide)
    · exact absurd h.2.1 (by simp)
    · exact absurd h.2.1 (by decide)
  · exact ⟨rfl, rfl, .inl ⟨rfl, 0, 1, by decide⟩⟩
  · rintro t r (⟨rfl, -, h⟩ | h | h | h)
    · exact .inr ⟨rfl, by omega⟩
    · exact absurd h.2.1 (by decide)
    · exact absurd h.2.2.1 (by decide)
    · exact absurd h.2.1 (by decide)
  · rintro t r (⟨rfl, -, h⟩ | h | h | h)
    · obtain ⟨-, i, j, hij, hj, h⟩ | h | h := h
      · interval_cases j <;> interval_cases i <;> exact absurd h (by decide)
      · exact absurd h.2 (by decide)
      · exact absurd h.2 (by decide)
    · exact absurd h.2.1 (by decide)
    · exact absurd h.2.2.1 (by decide)
    · exact absurd h.2.1 (by decide)

theorem witness_ClampedRowsLieInTheirRanges :
    let e : BufferEntry := ⟨1, 9, []⟩
    e.row < rowCount e.table ∧ (4 : Nat) < (Tables.empty.get 2).rows.length ∧ [e] = [] ++ e :: [] ∧
    (∀ x ∈ [e], 1 ≤ x.table ∧ x.table ≤ 4) ∧ ¬(e.table = 1 ∧ e.row = 8) := by decide

/-- The rows of a commit of `n` rows at the head of a buffer. -/
def takenOf (buffer : List BufferEntry) (n : Nat) : List BufferEntry := (buffer.take n).map BufferEntry.clamped

theorem witness_RefusedCommitChangesNoTable :
    let missing := takenOf [⟨2, 0, padTo 16 [5]⟩] 1
    let bar := takenOf [⟨2, 0, padTo 16 (byte1 2 ++ words [15000, 60, 250, 250, 120, 120, 600])⟩] 1
    let map := takenOf [⟨1, 1, padTo 16 [36, 37, 38, 39, 41, 43, 20]⟩] 1
    let closed : State := { served with extension := 50 }
    ({ served with flight := some ⟨1, 0⟩ } : State).flight = some ⟨1, 0⟩ ∧
    structuralFault (touches missing) (served.tables.layAll missing) = some ⟨.missingRows, 2, 2⟩ ∧
    (structuralFault (touches bar) (served.tables.layAll bar) = none ∧ touches bar 2 = true ∧ served.governor ≠ .hold ∧
      ¬(geometry served = .tracking ∧ served.extension ≤ Rig.retractTolerance served.tables.rig ∧
        served.sequencer = .idle)) ∧
    ¬(geometry served = .tracking ∧ (50 : Int) ≤ Rig.retractTolerance served.tables.rig ∧
      (sequencing .releasing).sequencer = .idle) ∧
    (structuralFault (touches map) (served.tables.layAll map) = none ∧ touches map 2 = false ∧ touches map 3 = false ∧
      touchesRow map 1 1 = true) ∧
    (structuralFault (touches (bar ++ map)) (served.tables.layAll (bar ++ map)) = none ∧ touches (bar ++ map) 2 = true ∧
      touchesRow (bar ++ map) 1 1 = true ∧ geometry closed = .tracking ∧
      closed.extension ≤ Rig.retractTolerance closed.tables.rig ∧ closed.sequencer = .idle) := by decide

theorem witness_PassedCommitAppliesItsRows :
    let map := takenOf [⟨1, 1, padTo 16 [36, 37, 38, 39, 41, 43, 20]⟩] 1
    let bore := takenOf [⟨4, 0, padTo 16 [0]⟩] 1
    structuralFault (touches map) (served.tables.layAll map) = none ∧ touches map 1 = true ∧
    structuralFault (touches bore) (served.tables.layAll bore) = none ∧ touches bore 1 = false ∧
    ({ served with governor := .hold } : State).governor = .hold ∧
    (let level := takenOf [⟨1, 8, padTo 16 [0]⟩] 1
     structuralFault (touches level) (served.tables.layAll level) = none ∧ touches level 2 = false ∧
     touches level 3 = false ∧ touches level 4 = false ∧ touchesRow level 1 1 = false) ∧
    (let first := takenOf ((List.range 10).map (fun i => ⟨1, i, rigTable.row i⟩)) 10
     structuralFault (touches first) (State.reset.tables.layAll first) = none ∧ touches first 1 = true ∧
     State.reset.tables.rig.valid = false ∧ State.reset.governor = .hold) := by decide

/-- A commit that passes in GOVERN with the bar closed, and one of the bore plan. -/
theorem witness_PassedCommitAppliesItsRows_inService :
    let bar := takenOf [⟨2, 0, padTo 16 (byte1 2 ++ words [15000, 60, 250, 250, 120, 120, 600])⟩] 1
    let bore := takenOf [⟨4, 0, padTo 16 [0]⟩] 1
    structuralFault (touches bar) (served.tables.layAll bar) = none ∧ touchesRow bar 1 1 = false ∧
    geometry { served with extension := 50 } = .tracking ∧ (50 : Int) ≤ Rig.retractTolerance served.tables.rig ∧
    served.sequencer = .idle ∧ touches bore 2 = false ∧ touches bore 3 = false ∧ touchesRow bore 1 1 = false := by decide

theorem witness_TableChangesFollowOn :
    let map := takenOf [⟨1, 1, padTo 16 [36, 37, 40, 39, 41, 42, 20]⟩] 1
    let bar := takenOf [⟨2, 0, padTo 16 (byte1 2 ++ words [15000, 60, 250, 250, 120, 120, 600])⟩] 1
    let pocket := takenOf ((List.range 8).map (fun i => ⟨3, i, padTo 16 []⟩)) 8
    let bore := takenOf [⟨4, 0, padTo 16 [0]⟩] 1
    let old := u8At (served.tables.rig.row 1)
    let new := u8At ((served.tables.layAll map).rig.row 1)
    (structuralFault (touches map) (served.tables.layAll map) = none ∧ touches map 1 = true ∧
      served.tables.rig.valid = true ∧ old 2 ≠ new 2 ∧ old 1 = new 1 ∧ (served.sensor .angle).state = .fresh ∧
      ∀ i < 6, i ≠ 2 → old i = new i) ∧
    (structuralFault (touches bar) (served.tables.layAll bar) = none ∧ touches bar 1 = false ∧ touches bar 2 = true ∧
      touches bar 4 = false ∧ geometry { served with tables := served.tables.layAll bar } = .tracking) ∧
    geometry { served with
      tables := served.tables.layAll bar, sensors := { served.sensors with head := SensorRecord.initial } } = .held ∧
    (structuralFault (touches pocket) (State.reset.tables.layAll pocket) = none ∧ touches pocket 1 = false ∧
      touches pocket 3 = true ∧ geometry { State.reset with tables := State.reset.tables.layAll pocket } = .none) ∧
    (structuralFault (touches bore) (served.tables.layAll bore) = none ∧ touches bore 1 = false ∧ touches bore 2 = false ∧
      touches bore 3 = false ∧ touches bore 4 = true) := by decide

theorem witness_ReadShowsTheWholeRow : servesManagement served ∧
    ((24 : Byte).toNat < rowCount (4 : Byte).toNat ∧ rowCount (0x14 : Byte).toNat ≤ (0 : Byte).toNat ∧
    (13 : Byte).toNat < stateRowCount (0x14 : Byte).toNat ∧ rowCount (4 : Byte).toNat ≤ (25 : Byte).toNat ∧
    stateRowCount (4 : Byte).toNat ≤ (25 : Byte).toNat ∧ (2 : Byte) ≠ 0 ∧ (2 : Byte) ≠ 1 ∧
    ([⟨4, 24, [1]⟩, ⟨4, 24, [2]⟩, ⟨4, 23, []⟩] : List BufferEntry) = [⟨4, 24, [1]⟩] ++ ⟨4, 24, [2]⟩ :: [⟨4, 23, []⟩] ∧
    ¬(23 = 24) ∧ served.buffer = []) :=
  ⟨served_management, by decide⟩

theorem witness_ClearFaultsEmptiesTheFaults :
    servesManagement (rotaryWith (fun r => { r with state := .fault })) ∧
    ((rotaryWith (fun r => { r with state := .fault })).axis .rotary).state = .fault ∧
    ((rotaryWith (fun r => { r with state := .fault })).axis .crowd).state ≠ .fault :=
  ⟨⟨by decide, rfl⟩, by decide⟩

theorem witness_CommitAndLoadControlsAct_controls : servesManagement served ∧ served.flight = none ∧
    servesManagement { served with flight := some ⟨0, 0⟩ } := ⟨served_management, rfl, by decide, rfl⟩

theorem witness_StatusExpiryComposesThePages :
    ({ served with statusTimer := some 0 } : State).resetLow = false ∧
    ({ served with statusTimer := some 0 } : State).statusTimer = some 0 ∧
    (sendingOf .operator .status).ports.operator.sending = some ⟨frameOf 5, .status⟩ ∧
    (served.depthHeld = none ∧ ({ served with depthHeld := some 8388607 } : State).depthHeld = some 8388607 ∧
      served.extension < 8388608 ∧ served.joints[1]? = none ∧ served.joints[0]? = some ⟨2000, .free, none, 0, true⟩) := by
  decide

theorem witness_StaleOperatorRampsDown :
    let s (x : AxisState) (g : Int) := rotaryWith (fun r =>
      { r with state := x, governed := g, freshness := some 0, ramp := some 0 })
    ((s .auto 5).resetLow = false ∧ ((s .auto 5).axis .rotary).freshness = some 0 ∧ ((s .auto 5).axis .rotary).state ≠ .active) ∧
    (((s .active 1).axis .rotary).state = .active ∧ ((s .active 1).axis .rotary).governed ≠ 0) ∧
    ((s .active 0).axis .rotary).governed = 0 ∧
    (((s .rampdown (-151)).axis .rotary).ramp = some 0 ∧ ((s .rampdown (-151)).axis .rotary).state = .rampdown ∧
      Rig.rampStep served.tables.rig < |((s .rampdown (-151)).axis .rotary).governed|) ∧
    |((s .rampdown 150).axis .rotary).governed| ≤ Rig.rampStep served.tables.rig := by decide

theorem witness_StallAndRecoveryMoveTheBackoff :
    ({ served with stallTimer := some 0 } : State).stallTimer = some 0 ∧ served.resetLow = false ∧
    (({ served with recoveryTimer := some 0, backoff := 899 } : State).recoveryTimer = some 0 ∧
      min 1000 ((899 : Int) + Rig.recoveryStep served.tables.rig) < 1000) ∧
    min 1000 ((900 : Int) + Rig.recoveryStep served.tables.rig) = 1000 := by decide

theorem witness_SequenceTimeoutHandsRotaryBack :
    let s : State := { served with sequencer := .releasing, sequenceTimer := some 0 }
    s.resetLow = false ∧ s.sequenceTimer = some 0 ∧ s.sequencer ≠ .idle ∧ s.axes.rotary.freshness.isSome = true ∧
    (rotaryWith (fun r => { r with freshness := none })).axes.rotary.freshness = none := by decide

theorem witness_EventsAndFaultsAreRecorded :
    let silent := { served with tables := { served.tables with rig :=
      { rigTable with rows := rigTable.rows.set 8 (rowOf [0, 0, 0, 0, 0]) } } }
    Rig.reportLevel silent.tables.rig EventKind.stall.code = 0 ∧ Rig.reportLevel served.tables.rig EventKind.stall.code ≠ 0 ∧
    (List.replicate 15 (frameOf 1)).length < 16 ∧ 16 ≤ (List.replicate 16 (frameOf 1)).length ∧
    served.machineFault = none ∧ served.barFault = none ∧
    (capture served .busOff 0).machineFault = some ⟨.busOff, 0, none, 2000, 0, 0⟩ ∧
    (capture served .lockSlip 1).barFault = some ⟨.lockSlip, 1, none, 2000, 0, 0⟩ := by decide

theorem witness_NearestRowIsNearest : (0 : Int) < 2 ∧ 1 ≤ 1 ∧ (0 + 1 < 2 ∧ (2 : Int) ∣ 2) ∧ (5 : Int) ≤ 5 ∧
    (5 : Int) + (2 - 1) * 2 ≤ 7 := by decide

theorem witness_RotationIsCountedTheShorterWay : geometry served = .tracking ∧ served.angleRef = some 100 ∧
    geometry { served with angleRef := none } = .tracking ∧ geometry State.reset ≠ .tracking ∧
    (Bar.lockAngle served.tables.bar ≤ 250 ∧ ∃ j ∈ served.joints, j.aligned = true ∧ j.lock ≠ .locked) ∧
    (-250 ≤ - Bar.releaseAngle served.tables.bar ∧ ¬(Bar.lockAngle served.tables.bar ≤ -250) ∧
      ∃ j ∈ [({ offset := 2000, lock := .locked, lockedRow := some 0, nearest := 0, aligned := true } : Joint)],
        j.lock ≠ .free) ∧
    (¬(Bar.lockAngle served.tables.bar ≤ 249) ∧ ¬(249 ≤ - Bar.releaseAngle served.tables.bar)) := by decide

/-- Allocations with a lock slip, a range mismatch entered and left, a retraction reset that completes RELEASING, and an aligned
set that empties in LOCKING: `at_ E` is `served` at a raw extension of E. -/
theorem witness_AllocationFollowsItsSteps :
    let at_ (e : Int) (s : State) : State := s.setSensor .payout (freshRecord (33500 + e))
    let locked : State := { served with joints := [⟨2000, .locked, some 0, 0, true⟩] }
    (served.axis .crowd).state ≠ .auto ∧
    (allocate (at_ 1899 locked)).axes.crowd.state = .fault ∧ (allocate (at_ 1900 locked)).axes.crowd.state = .active ∧
    (allocate (at_ 11201 served)).mismatch = true ∧ (allocate (at_ 11200 { served with mismatch := true })).mismatch = false ∧
    (allocate (at_ 50 (sequencing .releasing))).sequencer = .idle ∧
    (allocate (at_ 3000 (sequencing .locking))).sequencer = .idle ∧
    (allocate (at_ 3000 (sequencing .releasing))).sequencer = .releasing := by decide

theorem witness_LockEventLocksTheAlignedSet :
    (∃ r, served.joints[0]? = some r ∧ r.aligned = true ∧ r.lock ≠ .locked) ∧
    (∃ r : Joint, ({ served with joints := [⟨0, .free, none, 0, false⟩] } : State).joints[0]? = some r ∧
      ¬(r.aligned = true ∧ r.lock ≠ .locked)) ∧
    ({ served with sequencer := .locking } : State).sequencer = .locking ∧ served.sequencer ≠ .locking :=
  ⟨⟨_, rfl, by decide⟩, ⟨_, rfl, by decide⟩, rfl, by decide⟩

theorem witness_ReleaseEventFreesEveryJoint :
    (∃ r, served.joints[0]? = some r) ∧ served.sequencer ≠ .releasing ∧ (sequencing .releasing).sequencer = .releasing ∧
    (served.axes.rotary.freshness.isSome = true ∧
      (rotaryWith (fun r => { r with freshness := none })).axes.rotary.freshness = none) :=
  ⟨⟨_, rfl⟩, by decide⟩

theorem witness_BandLookupHasHysteresis :
    served.tables.bore.valid = true ∧
    (Bore.top served.tables.bore 0 - Rig.hysteresis served.tables.rig ≤ -150 ∧
      -150 < Bore.bottom served.tables.bore 0 + Rig.hysteresis served.tables.rig) ∧
    ¬(Bore.top served.tables.bore 0 - Rig.hysteresis served.tables.rig ≤ 8150 ∧
      8150 < Bore.bottom served.tables.bore 0 + Rig.hysteresis served.tables.rig) ∧
    lookupBand served.tables none 150 = some 0 ∧ lookupBand served.tables none 149 = none := by decide

theorem witness_BandLookupHasHysteresis_change :
    let inBand : State := { served with band := some 0 }
    let shallow : State := { served with sensors := { served.sensors with payout := freshRecord 18500 } }
    let bore := served.tables.bore
    (served.tables.rig.valid = true ∧ lookupBand inBand.tables inBand.band 17000 ≠ inBand.band) ∧
    lookupBand served.tables served.band 17000 = served.band ∧
    ((shallow.sensor .payout).state = .fresh ∧ (18500 : Int) - Rig.ropeOffset shallow.tables.rig = 0 ∧
      0 < Bore.count bore ∧ Bore.top bore 0 ≤ 0 ∧ (0 : Int) < Bore.bottom bore 0 ∧ shallow.band ≠ some 0) ∧
    (inBand.band = some 0 ∧ ∃ e ∈ [(⟨4, 1, []⟩ : BufferEntry)], e.table = 4 ∧ e.row = 0 + 1) ∧
    (∀ k < Bore.count bore, ¬(Bore.top bore k ≤ (17000 : Int) ∧ (17000 : Int) < Bore.bottom bore k)) := by decide

theorem witness_LimitsAreTheLeastOfTheirTerms :
    served.band = none ∧ ({ served with band := some 0 } : State).band = some 0 ∧ (0 : Int) ≤ served.backoff ∧
    served.backoff ≤ 1000 := by decide

theorem witness_CapsKneeAndCause :
    (capsOf served .crowd true = [] ∧ capsOf served .rotary true ≠ []) ∧
    ((400 : Int) ≠ 0 ∧ (320 : Int) ≤ (400 * 800 : Int).tdiv 1000) ∧ ((400 * 800 : Int).tdiv 1000 < 400 ∧ (400 : Int) ≤ 400) ∧
    ((400 * 800 : Int).tdiv 1000 < 321 ∧ (321 : Int) < 400) ∧
    (|(governedValue served .hoist 0).1| = |(0 : Int)|) ∧
    (|(governedValue served .rotary 601).1| ≠ |(601 : Int)| ∧ ¬∀ x ∈ capsOf served .rotary true, |(601 : Int)| ≤ x.2) ∧
    (|(governedValue served .rotary 600).1| ≠ |(600 : Int)| ∧ (∀ x ∈ capsOf served .rotary true, |(600 : Int)| ≤ x.2) ∧
      1000 ≤ kneeScale ((limitOf served .rotary true).map Limit.value) (Rig.knee served.tables.rig .rotary)
        (directedLoad served .rotary true)) ∧
    (let loaded : State := { served with sensors := { served.sensors with force := freshRecord 249 } }
     |(governedValue loaded .crowd 500).1| ≠ |(500 : Int)| ∧ (∀ x ∈ capsOf loaded .crowd true, |(500 : Int)| ≤ x.2) ∧
      kneeScale ((limitOf loaded .crowd true).map Limit.value) (Rig.knee loaded.tables.rig .crowd)
        (directedLoad loaded .crowd true) < 1000) := by decide

theorem witness_CapScaleAndSlewStayWithinTheDemand :
    ((0 : Int) ≤ 500 ∧ (0 : Int) ≤ 1000 ∧ (1000 : Int) ≤ 1000) ∧ ((-5 : Int) * 5 < 0) ∧
    ((0 : Int) ≤ 5 * 5 ∧ |(5 : Int)| ≤ |5|) ∧ ((0 : Int) ≤ 0 * 5 ∧ |(0 : Int)| < |5|) ∧
    ((rotaryWith (fun r => { r with lastEval := some 0 })).axis .rotary).lastEval = some served.millis := by decide

theorem witness_GovernedValueStaysWithinTheDemand : JointsWithinStroke served := served_joints

/-! ### The invariants, in the state in service with a command waiting -/

/-- `served` with a command waiting answers a next state. -/
theorem served_steps : ∃ t, step { served with pending := [.refreshTimerExpiry .rotary] } = .next t := ⟨_, rfl⟩

theorem witness_StepsKeepEveryListWithinCapacity : WithinCapacity served where
  queues := by intro p; cases p <;> decide
  reports := by decide
  buffer := by decide
  pages := by decide
  replies := by decide
  taken := by intro f h; cases h

theorem witness_StepsKeepAxesOutOfServiceNeutral : NeutralOutOfService served where
  governed := by intro a _; cases a <;> decide
  axes := by intro h; exact absurd rfl h
  sequencer := by intro h; exact absurd rfl h
  deliveries := by intro h; exact absurd rfl h

theorem witness_StepsKeepAutoWithTheSequencer : AutoOnlyInSequence served where
  rotary := by decide
  crowd := by decide
  hoist := by decide

theorem witness_StepsKeepRegistersInRange : RegistersInRange served where
  keyTravel := by decide
  demand := by intro a d h; cases a <;> (injection h with h; subst h; decide)
  sequence := by intro a; cases a <;> decide
  missStreak := by intro a; cases a <;> decide
  rxErrors := by intro p; cases p <;> decide
  machine := by intro r h; cases h
  bar := by intro r h; cases h
  backoff := by decide
  backoffRow := by decide
  inForce := by decide

theorem witness_JointsStayWithinStroke : JointsWithinStroke served := served_joints

theorem witness_GovernedValuesStayWithinTheirDemands :
    JointsWithinStroke served ∧ NeutralOutOfService served ∧ WithinOperatorDemand served :=
  ⟨served_joints, witness_StepsKeepAxesOutOfServiceNeutral, by
    intro a _
    exact ⟨0, by cases a <;> rfl, by cases a <;> decide, by cases a <;> decide⟩⟩

/-- In RELEASING at the creep value of the bar profile. -/
theorem witness_GovernedValuesStayWithinTheirDemands_sequence :
    let s : State := { (sequencing .releasing).setAxis .rotary
      { (sequencing .releasing).axis .rotary with governed := -120 } with pending := [.refreshTimerExpiry .rotary] }
    JointsWithinStroke s ∧ NeutralOutOfService s ∧ AutoOnlyInSequence s ∧ WithinSequenceDemand s ∧ ∃ t, step s = .next t :=
  ⟨⟨served_joints.count, served_joints.sum, served_joints.offset, served_joints.nearest, served_joints.locked,
      served_joints.noRow, served_joints.windows, served_joints.present, served_joints.rows⟩,
    ⟨by intro a _; cases a <;> first | decide | (rename_i h; rcases h with h | h <;> cases h),
      fun h => absurd rfl h, fun h => absurd rfl h, fun h => absurd rfl h⟩,
    ⟨by decide, by decide, by decide⟩, ⟨by decide, by decide, by decide⟩, _, rfl⟩

end Sys2Proof.Tests
end

section
/-! The frames that a port forwards and those that it discards as foreign (R8, R10, R11). -/

namespace Sys2Proof.Machine

open Sys2Proof

/-! ## The two commands as receptions -/

theorem exec_forward_eq_receive (s : State) (p : Port) (f : Frame) : exec (.forward p f) s = .next (receive s p f) := rfl

theorem exec_foreignFrame_eq_receive (s : State) (p : Port) (f : Frame) :
    exec (.foreignFrame p f) s = .next (receive s p f) := rfl

/-! ## Forwarding -/

/-- With room in the queue toward the other port a frame is appended (R10). -/
theorem forwardFrame_of_room (s : State) (p : Port) (f : Frame) (room : (s.port p.other).queue.length < 32) :
    forwardFrame s p f = appendFrame s p f := by
  simp [forwardFrame, queueFull, room]

/-- A full queue drops a frame (R11). -/
theorem forwardFrame_of_full (s : State) (p : Port) (f : Frame) (full : 32 ≤ (s.port p.other).queue.length) :
    forwardFrame s p f = dropFrame s p := by
  simp [forwardFrame, queueFull, full]

/-- Under a set mark a drop is counted and not reported (R11). -/
theorem dropFrame_of_marked (s : State) (p : Port) (marked : (s.port p.other).dropMark = true) :
    dropFrame s p = s.countPort p (fun c => { c with drops := bump c.drops }) := by
  simp [dropFrame, marked]

/-- Under a clear mark a drop is counted, sets the mark and hands over one FORWARD_DROP (R11). -/
theorem dropFrame_of_unmarked (s : State) (p : Port) (unmarked : (s.port p.other).dropMark = false) :
    dropFrame s p =
      report ((s.countPort p (fun c => { c with drops := bump c.drops })).setPort p.other
        { s.port p.other with dropMark := true }) .forwardDrop p.code (s.port p.other).queue.length := by
  simp [dropFrame, unmarked]

/-- A received frame that the classifier forwards is forwarded once it is heard. -/
theorem exec_forward_eq_forwardFrame (s : State) (p : Port) (f : Frame) (hears : takesPart s p = true)
    (forwards : classify s p (sensorMapInForce s) f = .forward) :
    exec (.forward p f) s = .next (forwardFrame (heard s p) p f) := by
  rw [exec_forward_eq_receive, receive_eq s p f hears, forwards]
  rfl

/-! ## Foreign frames -/

/-- The classes that the tables of R5 and R6 discard, under every sensor map. -/
theorem classify_eq_foreign (s : State) (p : Port) (map : Option (List Nat)) (f : Frame)
    (standard : f.extended = false) (data : f.remote = false)
    (cls : Frame.cls f = 1 ∨ (p = .operator ∧ Frame.cls f = 2) ∨ (p = .machine ∧ Frame.cls f = 3)) :
    classify s p map f = .foreign := by
  obtain class1 | ⟨rfl, class2⟩ | ⟨rfl, class3⟩ := cls
  · cases p <;> simp [classify, standard, data, classifyOperator, classifyMachine, class1]
  · simp [classify, standard, data, classifyOperator, class2]
  · simp [classify, standard, data, classifyMachine, class3]

/-- A received frame that the classifier discards as foreign is discarded once it is heard. -/
theorem exec_foreignFrame_eq_discardForeign (s : State) (p : Port) (f : Frame) (hears : takesPart s p = true)
    (foreign : classify s p (sensorMapInForce s) f = .foreign) :
    exec (.foreignFrame p f) s = .next (discardForeign (heard s p) p f) := by
  rw [exec_foreignFrame_eq_receive, receive_eq s p f hears, foreign]
  rfl

/-- Settles O12: a reception is the treatment of the frame heard; FORWARD splits on the queue's room and on the drop mark, and
FOREIGN_FRAME on the class. -/
theorem receivedFramesAreForwardedOrForeign : Obligations.ReceivedFramesAreForwardedOrForeign := by
  refine ⟨fun s p f hears forwards => ⟨fun room => ?_, fun full marked => ?_, fun full unmarked => ?_⟩,
    fun s p f hears standard data cls => ?_⟩
  · rw [exec_forward_eq_forwardFrame s p f hears forwards, forwardFrame_of_room _ p f room]
    rfl
  · rw [exec_forward_eq_forwardFrame s p f hears forwards, forwardFrame_of_full _ p f full, dropFrame_of_marked _ p marked]
  · rw [exec_forward_eq_forwardFrame s p f hears forwards, forwardFrame_of_full _ p f full,
      dropFrame_of_unmarked _ p unmarked]
  · have foreign := classify_eq_foreign s p (sensorMapInForce s) f standard data cls
    exact exec_foreignFrame_eq_discardForeign s p f hears foreign

end Sys2Proof.Machine
end

section
/-! The controls of the governor state: an entry into HOLD or STOPPED seen from one axis (R25, R26, R149), and what HOLD, RELEASE
and STOP_CLEAR answer (R22 to R24, R29). -/

namespace Sys2Proof.Machine

open Sys2Proof

/-! ## The ports after a reception -/

/-- BUS_OFF rests on the transmit error count alone (R16). -/
theorem isBusOff_iff (s : State) (p : Port) : isBusOff s p = true ↔ 255 < (s.port p).txErrors := by
  simp only [isBusOff, PortRecord.status, beq_iff_eq]
  split_ifs <;> simp [*]

/-- A frame heard at one port takes no port into or out of BUS_OFF (R14, R16). -/
theorem heard_busOff (s : State) (p q : Port) : isBusOff (heard s p) q = isBusOff s q := by
  have count : ((heard s p).port q).txErrors = (s.port q).txErrors := by cases p <;> cases q <;> rfl
  rw [Bool.eq_iff_iff, isBusOff_iff, isBusOff_iff, count]

/-! ## Axes in and out of service -/

/-- The states of an axis split into those in service and those out of it. -/
theorem AxisState.inService_or_outOfService (x : AxisState) : x.inService ∨ x.outOfService := by
  cases x <;> simp [AxisState.inService, AxisState.outOfService]

/-- An axis in service is neutralised by a change to NEUTRAL for the cause (R25). -/
theorem neutralise_of_inService (c : ExitCause) (s : State) (a : Axis) (h : (s.axis a).state.inService) :
    neutralise c s a = changeAxis s a ((s.axis a).toNeutralFor c) := by
  obtain h | h | h := h <;> simp [neutralise, h]

/-- An axis out of service stays (R25). -/
theorem neutralise_of_outOfService (c : ExitCause) (s : State) (a : Axis) (h : (s.axis a).state.outOfService) :
    neutralise c s a = s := by
  obtain h | h := h <;> simp [neutralise, h]

/-! ## The neutral frame of a delivery -/

/-- A hand-off to a delivery whose latest frame carries the value and mode already makes nothing (R140). -/
theorem DeliveryRecord.handed_of_same (d : DeliveryRecord) (g : Int) (m : Mode) (hg : d.value = g) (hm : d.mode = m) :
    d.handed g m = d := by
  simp [DeliveryRecord.handed, hg, hm]

/-- A hand-off of another value or mode makes a new frame (R140). -/
theorem DeliveryRecord.handed_of_differs (d : DeliveryRecord) (g : Int) (m : Mode) (h : d.value ≠ g ∨ d.mode ≠ m) :
    d.handed g m = d.renewed g m := by
  rw [DeliveryRecord.handed, if_neg (by tauto)]

/-- After a hand-off the latest frame carries the value and mode, so that the same again makes nothing. -/
theorem DeliveryRecord.handed_handed (d : DeliveryRecord) (g : Int) (m : Mode) : (d.handed g m).handed g m = d.handed g m := by
  by_cases h : d.value = g ∧ d.mode = m
  · rw [d.handed_of_same g m h.1 h.2, d.handed_of_same g m h.1 h.2]
  · rw [d.handed_of_differs g m (by tauto)]
    exact DeliveryRecord.handed_of_same _ g m rfl rfl

/-- A new frame of 0 and NEUTRAL carries them in every governor state (R140). -/
theorem newFrame_neutral_delivery_same (s : State) (a : Axis) :
    (newFrame s a 0 .neutral).delivery a = (s.delivery a).renewed 0 .neutral := by
  rw [newFrame_delivery_same, ite_self, ite_self]
  rfl

/-- The hand-off of 0 and NEUTRAL with the machine port not in BUS_OFF (R140). -/
theorem produce_neutral_delivery_same (s : State) (a : Axis) (connected : isBusOff s .machine = false) :
    (produce s a 0 .neutral false).delivery a = (s.delivery a).handed 0 .neutral := by
  by_cases h : (s.delivery a).value = 0 ∧ (s.delivery a).mode = .neutral
  · simp [produce, connected, h, DeliveryRecord.handed_of_same]
  · have differs : (s.delivery a).value ≠ 0 ∨ (s.delivery a).mode ≠ .neutral := by tauto
    rw [DeliveryRecord.handed_of_differs _ _ _ differs, ← newFrame_neutral_delivery_same]
    simp [produce, connected, differs]

/-- An idle delivery is not rewritten (R149). -/
theorem neutralRewrite_of_idle (s : State) (a : Axis) (idle : (s.delivery a).state = .idle) : neutralRewrite s a = s := by
  simp [neutralRewrite, DeliveryRecord.needsNeutral, idle]

/-- A pending delivery is rewritten as by a hand-off of 0 and NEUTRAL, also in BUS_OFF (R149). -/
theorem neutralRewrite_delivery_of_pending (s : State) (a : Axis) (pending : (s.delivery a).state ≠ .idle) :
    (neutralRewrite s a).delivery a = (s.delivery a).handed 0 .neutral := by
  by_cases h : (s.delivery a).value = 0 ∧ (s.delivery a).mode = .neutral
  · simp [neutralRewrite, DeliveryRecord.needsNeutral, h, DeliveryRecord.handed_of_same]
  · have differs : (s.delivery a).value ≠ 0 ∨ (s.delivery a).mode ≠ .neutral := by tauto
    rw [DeliveryRecord.handed_of_differs _ _ _ differs, ← newFrame_neutral_delivery_same]
    simp [neutralRewrite, DeliveryRecord.needsNeutral, pending, differs]

/-- A neutral rewrite touches no axis record. -/
theorem neutralRewrite_axis (s : State) (a b : Axis) : (neutralRewrite s a).axis b = s.axis b := by
  unfold neutralRewrite
  split <;> rfl

theorem neutralRewrite_delivery_other (s : State) (a b : Axis) (h : b ≠ a) :
    (neutralRewrite s a).delivery b = s.delivery b := by
  unfold neutralRewrite
  split
  · exact newFrame_delivery_other s a b _ _ h
  · rfl

/-! ## A change of an axis -/

theorem changeAxis_axis_same (s : State) (a : Axis) (r : AxisRecord) : (changeAxis s a r).axis a = r := by
  rw [changeAxis, State.axis, handOver_axes]
  exact State.axis_setAxis_same s a r

theorem changeAxis_axis_other (s : State) (a b : Axis) (r : AxisRecord) (h : b ≠ a) :
    (changeAxis s a r).axis b = s.axis b := by
  rw [changeAxis, State.axis, handOver_axes]
  exact State.axis_setAxis_other s a b r h

/-- A change of an axis hands over the governed value and mode of its new record (R121). -/
theorem changeAxis_delivery (s : State) (a b : Axis) (r : AxisRecord) :
    (changeAxis s a r).delivery b =
      (produce (reportAxisState (s.setAxis a r) a) a r.governed r.state.mode false).delivery b := by
  have new : (reportAxisState (s.setAxis a r) a).axis a = r := State.axis_setAxis_same s a r
  rw [changeAxis, handOver, new]

theorem changeAxis_delivery_other (s : State) (a b : Axis) (r : AxisRecord) (h : b ≠ a) :
    (changeAxis s a r).delivery b = s.delivery b := by
  rw [changeAxis_delivery, produce_delivery_other _ a b _ _ _ h]
  rfl

/-- An axis taken to NEUTRAL hands 0 and NEUTRAL over. -/
theorem changeAxis_toNeutralFor_delivery (s : State) (a : Axis) (c : ExitCause) (connected : isBusOff s .machine = false) :
    (changeAxis s a ((s.axis a).toNeutralFor c)).delivery a = (s.delivery a).handed 0 .neutral := by
  rw [changeAxis_delivery]
  exact produce_neutral_delivery_same _ a connected

/-- In BUS_OFF a change of an axis makes no frame (R150). -/
theorem changeAxis_delivery_busOff (s : State) (a b : Axis) (r : AxisRecord) (off : isBusOff s .machine = true) :
    (changeAxis s a r).delivery b = s.delivery b := by
  have still : isBusOff (reportAxisState (s.setAxis a r) a) .machine = true := off
  rw [changeAxis_delivery, produce_busOff _ a _ _ _ still]
  rfl

theorem neutralise_axis_other (c : ExitCause) (s : State) (a b : Axis) (h : b ≠ a) :
    (neutralise c s a).axis b = s.axis b := by
  obtain hin | hout := (s.axis a).state.inService_or_outOfService
  · rw [neutralise_of_inService c s a hin, changeAxis_axis_other s a b _ h]
  · rw [neutralise_of_outOfService c s a hout]

theorem neutralise_delivery_other (c : ExitCause) (s : State) (a b : Axis) (h : b ≠ a) :
    (neutralise c s a).delivery b = s.delivery b := by
  obtain hin | hout := (s.axis a).state.inService_or_outOfService
  · rw [neutralise_of_inService c s a hin, changeAxis_delivery_other s a b _ h]
  · rw [neutralise_of_outOfService c s a hout]

/-- With the axis out of service, or the machine port in BUS_OFF, the neutral exit leaves the delivery. -/
theorem neutralise_delivery_kept (c : ExitCause) (s : State) (a : Axis)
    (h : (s.axis a).state.outOfService ∨ isBusOff s .machine = true) : (neutralise c s a).delivery a = s.delivery a := by
  obtain hin | hout := (s.axis a).state.inService_or_outOfService
  · obtain hout | off := h
    · rw [neutralise_of_outOfService c s a hout]
    · rw [neutralise_of_inService c s a hin, changeAxis_delivery_busOff s a a _ off]
  · rw [neutralise_of_outOfService c s a hout]

/-- With the axis in service and the machine port not in BUS_OFF, the neutral exit hands 0 and NEUTRAL over. -/
theorem neutralise_delivery_handed (c : ExitCause) (s : State) (a : Axis) (hin : (s.axis a).state.inService)
    (connected : isBusOff s .machine = false) : (neutralise c s a).delivery a = (s.delivery a).handed 0 .neutral := by
  rw [neutralise_of_inService c s a hin, changeAxis_toNeutralFor_delivery s a c connected]

/-! ## One axis at a time

An operation on all three axes acts on each as if alone: what the two other turns change is not read at it. -/

/-- What an operation on axis `a` reads and writes is the same in both states: the axis, its delivery and the ports. -/
structure SameAt (a : Axis) (s t : State) : Prop where
  axis     : t.axis a = s.axis a
  delivery : t.delivery a = s.delivery a
  ports    : t.ports = s.ports

@[refl] theorem SameAt.refl (a : Axis) (s : State) : SameAt a s s := ⟨rfl, rfl, rfl⟩

theorem SameAt.trans {a : Axis} {s t u : State} (h : SameAt a s t) (k : SameAt a t u) : SameAt a s u :=
  ⟨k.axis.trans h.axis, k.delivery.trans h.delivery, k.ports.trans h.ports⟩

theorem SameAt.busOff {a : Axis} {s t : State} (h : SameAt a s t) (p : Port) : isBusOff t p = isBusOff s p := by
  simp only [isBusOff, State.port, h.ports]

/-- Of an operation on all three axes, axis `a` sees its own turn alone. -/
theorem foldl_allAxes_at {f : State → Axis → State} (others : ∀ s a b, b ≠ a → SameAt b s (f s a)) (s : State) (a : Axis) :
    ∃ u, SameAt a s u ∧ SameAt a (f u a) (allAxes.foldl f s) := by
  cases a with
  | rotary =>
    exact ⟨s, SameAt.refl _ _, (others _ .crowd _ (by decide)).trans (others _ .hoist _ (by decide))⟩
  | crowd => exact ⟨f s .rotary, others _ _ _ (by decide), others _ .hoist _ (by decide)⟩
  | hoist =>
    exact ⟨f (f s .rotary) .crowd, (others _ _ _ (by decide)).trans (others _ _ _ (by decide)), SameAt.refl _ _⟩

theorem neutraliseAll_at (s : State) (c : ExitCause) (a : Axis) :
    ∃ u, SameAt a s u ∧ SameAt a (neutralise c u a) (neutraliseAll s c) :=
  foldl_allAxes_at (fun s a b h =>
    ⟨neutralise_axis_other c s a b h, neutralise_delivery_other c s a b h, (neutralise_frame c s a).ports⟩) s a

theorem neutralRewriteAll_at (s : State) (a : Axis) :
    ∃ u, SameAt a s u ∧ SameAt a (neutralRewrite u a) (neutralRewriteAll s) :=
  foldl_allAxes_at (fun s a b h =>
    ⟨neutralRewrite_axis s a b, neutralRewrite_delivery_other s a b h, (neutralRewrite_frame s a).ports⟩) s a

theorem madeChoices_at (s : State) (n : Nat) (a : Axis) : SameAt a s (madeChoices s n) := ⟨rfl, rfl, rfl⟩

/-- An abort leaves ROTARY to its caller (R160). -/
theorem abortSequence_at (s : State) (c : AbortCause) (a : Axis) : SameAt a s (abortSequence s c) := by
  unfold abortSequence
  split
  · rfl
  · exact ⟨rfl, rfl, rfl⟩

/-! ## An entry into HOLD or STOPPED -/

/-- The hand-offs of an entry are the neutral exits alone, or with the abort before or after them (R25, log 10). -/
theorem leaveService_cases (s : State) (exit : ExitCause) (abort : AbortCause) :
    (s.sequencer = .idle ∧ leaveService s exit abort = neutraliseAll s exit) ∨
    (s.sequencer ≠ .idle ∧
      (leaveService s exit abort = neutraliseAll (abortSequence (madeChoices s 1) abort) exit ∨
       leaveService s exit abort = abortSequence (neutraliseAll (madeChoices s 1) exit) abort)) := by
  unfold leaveService
  split
  · exact .inl ⟨‹_›, rfl⟩
  · split
    · exact .inr ⟨‹_›, .inl rfl⟩
    · exact .inr ⟨‹_›, .inr rfl⟩

theorem leaveService_at (s : State) (exit : ExitCause) (abort : AbortCause) (a : Axis) :
    ∃ u, SameAt a s u ∧ SameAt a (neutralise exit u a) (leaveService s exit abort) := by
  have choice := madeChoices_at s 1 a
  obtain ⟨-, h⟩ | ⟨-, h | h⟩ := leaveService_cases s exit abort <;> rw [h]
  · exact neutraliseAll_at s exit a
  · obtain ⟨u, before, turn⟩ := neutraliseAll_at (abortSequence (madeChoices s 1) abort) exit a
    exact ⟨u, (choice.trans (abortSequence_at _ abort a)).trans before, turn⟩
  · obtain ⟨u, before, turn⟩ := neutraliseAll_at (madeChoices s 1) exit a
    exact ⟨u, choice.trans before, turn.trans (abortSequence_at _ abort a)⟩

/-- The hand-offs of an entry and the neutral rewrite, at one axis: its neutral exit, then its rewrite. -/
theorem leaveService_rewrite_at (s : State) (exit : ExitCause) (abort : AbortCause) (a : Axis) :
    ∃ u v, SameAt a s u ∧ SameAt a (neutralise exit u a) v ∧
      SameAt a (neutralRewrite v a) (neutralRewriteAll (leaveService s exit abort)) := by
  obtain ⟨u, before, turn⟩ := leaveService_at s exit abort a
  obtain ⟨v, between, rewrite⟩ := neutralRewriteAll_at (leaveService s exit abort) a
  exact ⟨u, v, before, turn.trans between, rewrite⟩

/-- After an entry every axis is as its neutral exit leaves it. -/
theorem leaveService_rewrite_axis (s : State) (exit : ExitCause) (abort : AbortCause) (a : Axis) :
    ((s.axis a).state.inService →
      (neutralRewriteAll (leaveService s exit abort)).axis a = (s.axis a).toNeutralFor exit) ∧
    ((s.axis a).state.outOfService → (neutralRewriteAll (leaveService s exit abort)).axis a = s.axis a) := by
  obtain ⟨u, v, before, turn, rewrite⟩ := leaveService_rewrite_at s exit abort a
  rw [rewrite.axis, neutralRewrite_axis, turn.axis, ← before.axis]
  refine ⟨fun hin => ?_, fun hout => ?_⟩
  · rw [neutralise_of_inService exit u a hin, changeAxis_axis_same]
  · rw [neutralise_of_outOfService exit u a hout]

/-- A delivery that is pending, or whose axis was in service with the machine port not in BUS_OFF, ends with 0 and NEUTRAL as
its latest frame (R26, R149). -/
theorem leaveService_rewrite_delivery_handed (s : State) (exit : ExitCause) (abort : AbortCause) (a : Axis)
    (h : (s.delivery a).state ≠ .idle ∨ ((s.axis a).state.inService ∧ isBusOff s .machine = false)) :
    (neutralRewriteAll (leaveService s exit abort)).delivery a = (s.delivery a).handed 0 .neutral := by
  obtain ⟨u, v, before, turn, rewrite⟩ := leaveService_rewrite_at s exit abort a
  rw [← before.axis, ← before.delivery, ← before.busOff] at h
  rw [rewrite.delivery, ← before.delivery]
  by_cases exits : (u.axis a).state.inService ∧ isBusOff u .machine = false
  · have handed : v.delivery a = (u.delivery a).handed 0 .neutral := by
      rw [turn.delivery, neutralise_delivery_handed exit u a exits.1 exits.2]
    by_cases idle : (v.delivery a).state = .idle
    · rw [neutralRewrite_of_idle v a idle, handed]
    · rw [neutralRewrite_delivery_of_pending v a idle, handed, DeliveryRecord.handed_handed]
  · have stays : (u.axis a).state.outOfService ∨ isBusOff u .machine = true := by
      obtain hin | hout := (u.axis a).state.inService_or_outOfService
      · exact .inr (by simpa [hin] using exits)
      · exact .inl hout
    have kept : v.delivery a = u.delivery a := by rw [turn.delivery, neutralise_delivery_kept exit u a stays]
    have pending : (v.delivery a).state ≠ .idle := by rw [kept]; tauto
    rw [neutralRewrite_delivery_of_pending v a pending, kept]

/-- An idle delivery whose axis was out of service, or whose machine port is in BUS_OFF, is left (R26, R149). -/
theorem leaveService_rewrite_delivery_kept (s : State) (exit : ExitCause) (abort : AbortCause) (a : Axis)
    (idle : (s.delivery a).state = .idle) (h : (s.axis a).state.outOfService ∨ isBusOff s .machine = true) :
    (neutralRewriteAll (leaveService s exit abort)).delivery a = s.delivery a := by
  obtain ⟨u, v, before, turn, rewrite⟩ := leaveService_rewrite_at s exit abort a
  rw [← before.axis, ← before.busOff] at h
  have kept : v.delivery a = s.delivery a := by
    rw [turn.delivery, neutralise_delivery_kept exit u a h, before.delivery]
  rw [rewrite.delivery, neutralRewrite_of_idle v a (by rw [kept, idle]), kept]

/-- A frame of 0 and NEUTRAL stands through an entry. -/
theorem leaveService_rewrite_delivery_neutral (s : State) (exit : ExitCause) (abort : AbortCause) (a : Axis)
    (value : (s.delivery a).value = 0) (mode : (s.delivery a).mode = .neutral) :
    (neutralRewriteAll (leaveService s exit abort)).delivery a = s.delivery a := by
  by_cases h : (s.delivery a).state ≠ .idle ∨ ((s.axis a).state.inService ∧ isBusOff s .machine = false)
  · rw [leaveService_rewrite_delivery_handed s exit abort a h, DeliveryRecord.handed_of_same _ _ _ value mode]
  · push Not at h
    obtain ⟨idle, off⟩ := h
    refine leaveService_rewrite_delivery_kept s exit abort a idle ?_
    obtain hin | hout := (s.axis a).state.inService_or_outOfService
    · exact .inr (by simpa using off hin)
    · exact .inl hout

/-- A running sequence aborts in IDLE with its timer cancelled and the cause added (R160). -/
theorem abortSequence_of_running (s : State) (c : AbortCause) (running : s.sequencer ≠ .idle) :
    (abortSequence s c).sequencer = .idle ∧ (abortSequence s c).sequenceTimer = none ∧
      (abortSequence s c).aborts = addAbort s.aborts c := by
  rw [abortSequence, if_neg running]
  exact ⟨rfl, rfl, rfl⟩

theorem leaveService_of_idle (s : State) (exit : ExitCause) (abort : AbortCause) (idle : s.sequencer = .idle) :
    leaveService s exit abort = neutraliseAll s exit := by
  rw [leaveService, if_pos idle]

/-- An entry while a sequence runs aborts it, in either order of the hand-offs (R25, R160). -/
theorem leaveService_of_running (s : State) (exit : ExitCause) (abort : AbortCause) (running : s.sequencer ≠ .idle) :
    (leaveService s exit abort).sequencer = .idle ∧ (leaveService s exit abort).sequenceTimer = none ∧
      (leaveService s exit abort).aborts = addAbort s.aborts abort := by
  obtain ⟨idle, -⟩ | ⟨-, h | h⟩ := leaveService_cases s exit abort
  · exact absurd idle running
  · have exits := neutraliseAll_frame (abortSequence (madeChoices s 1) abort) exit
    rw [h, exits.sequencer, exits.sequenceTimer, exits.aborts]
    exact abortSequence_of_running (madeChoices s 1) abort running
  · have exits := neutraliseAll_frame (madeChoices s 1) exit
    rw [h, show s.aborts = (neutraliseAll (madeChoices s 1) exit).aborts from exits.aborts.symm]
    exact abortSequence_of_running _ abort (by rw [exits.sequencer]; exact running)

/-- The hand-offs of an entry with the neutral rewrite are what R25 and R26 say of an entry into HOLD or STOPPED. -/
theorem leaveService_rewrite_leftService (s : State) (exit : ExitCause) (abort : AbortCause) :
    LeftService s (neutralRewriteAll (leaveService s exit abort)) exit abort := by
  have rewrite := neutralRewriteAll_frame (leaveService s exit abort)
  have exits := neutraliseAll_frame s exit
  exact {
    inService := fun a => (leaveService_rewrite_axis s exit abort a).1
    outOfService := fun a => (leaveService_rewrite_axis s exit abort a).2
    idle := by
      rw [rewrite.sequencer]
      by_cases idle : s.sequencer = .idle
      · rw [leaveService_of_idle s exit abort idle, exits.sequencer, idle]
      · exact (leaveService_of_running s exit abort idle).1
    aborted := fun running => by
      rw [rewrite.sequenceTimer, rewrite.aborts]
      exact (leaveService_of_running s exit abort running).2
    notAborted := fun idle => by
      rw [rewrite.sequenceTimer, rewrite.aborts, leaveService_of_idle s exit abort idle]
      exact ⟨exits.sequenceTimer, exits.aborts⟩
    neutralFrame := fun a differs h => by
      rw [leaveService_rewrite_delivery_handed s exit abort a h, DeliveryRecord.handed_of_differs _ _ _ differs]
    keptNeutral := leaveService_rewrite_delivery_neutral s exit abort
    keptIdle := leaveService_rewrite_delivery_kept s exit abort }

/-- A frame that lets the count of free choices go on can be continued by one that makes none. -/
theorem SameTracking.trans_choices {s t u : State} (h : SameTracking { s with choices := t.choices } t)
    (k : SameTracking t u) : SameTracking { s with choices := u.choices } u := by
  rw [k.choices]
  exact h.trans k

/-- The hand-offs of an entry touch axes, deliveries, sequencer, reports and counters, and may make one free choice. -/
theorem leaveService_frame (s : State) (exit : ExitCause) (abort : AbortCause) :
    SameTracking { s with choices := (leaveService s exit abort).choices } (leaveService s exit abort) := by
  have start : SameTracking { s with choices := s.choices } s := SameTracking.refl s
  have choice : SameTracking { s with choices := (madeChoices s 1).choices } (madeChoices s 1) := SameTracking.refl _
  obtain ⟨-, h⟩ | ⟨-, h | h⟩ := leaveService_cases s exit abort <;> rw [h]
  · exact start.trans_choices (neutraliseAll_frame s exit).toSameTracking
  · exact choice.trans_choices ((abortSequence_frame _ abort).trans (neutraliseAll_frame _ exit).toSameTracking)
  · exact choice.trans_choices ((neutraliseAll_frame _ exit).toSameTracking.trans (abortSequence_frame _ abort))

theorem leaveService_counts (s : State) (exit : ExitCause) (abort : AbortCause) :
    SameCounts s (leaveService s exit abort) := by
  have choice := madeChoices_counts s 1
  obtain ⟨-, h⟩ | ⟨-, h | h⟩ := leaveService_cases s exit abort <;> rw [h]
  · exact neutraliseAll_counts s exit
  · exact (choice.trans (abortSequence_counts _ abort)).trans (neutraliseAll_counts _ exit)
  · exact (choice.trans (neutraliseAll_counts _ exit)).trans (abortSequence_counts _ abort)

/-! ## The controls as they are served -/

/-- A CONTROL of a known code is taken by the Load Unit once its frame is heard (R163, R171). -/
theorem control_served (s : State) (code : Byte) (c : Control) (serves : servesManagement s)
    (known : controlOf code.toNat = some c) : control s code = loadControl (heard s .operator) c := by
  have request : requestOf [5, code] = .control c := by simp [requestOf, u8At, known]
  rw [control, manage_served s _ serves (by simp), request]
  rfl

theorem exec_hold_served (s : State) (serves : servesManagement s) :
    exec .hold s = .next (controlHold (heard s .operator)) :=
  congrArg Host.Outcome.next (control_served s 2 .hold serves rfl)

theorem exec_release_served (s : State) (serves : servesManagement s) :
    exec .release s = .next (controlRelease (heard s .operator)) :=
  congrArg Host.Outcome.next (control_served s 1 .release serves rfl)

theorem exec_stopClear_served (s : State) (serves : servesManagement s) :
    exec .stopClear s = .next (controlStopClear (heard s .operator)) :=
  congrArg Host.Outcome.next (control_served s 3 .stopClear serves rfl)

theorem exec_stopQuietTimerExpiry (s : State) :
    exec .stopQuietTimerExpiry s = .next (onExpiry s s.quiet { s with quiet := none }) := rfl

/-- The status reply of a CONTROL fills an empty reply slot, with no table or row and the governor state as detail; the channel
is still that of the state `s` in which the control came. -/
theorem replyControl_of_empty {s u : State} {g : GovernorState} (status : StatusCode) (cause : ReplyCause)
    (empty : u.replies = []) (channel : u.channel = s.channel) (governor : u.governor = g) :
    replyControl u status cause = { u with replies := [statusReply s 5 status cause 255 255 g.code] } := by
  have same : statusReply u 5 status cause noneByte noneByte g.code = statusReply s 5 status cause 255 255 g.code := by
    rw [statusReply, statusReply, replyFrame, replyFrame, channel]
    rfl
  rw [replyControl, reply, empty, governor, same]
  rfl

/-- The OK of a change of governor state shows the new state. -/
theorem replyControl_changeGovernor {s u : State} (g : GovernorState) (c : GovernorDetail) (empty : u.replies = [])
    (channel : u.channel = s.channel) :
    replyControl (changeGovernor u g c) .ok .none =
      { report { u with governor := g } .governorState g.code c.code with
        replies := [statusReply s 5 .ok .none 255 255 g.code] } :=
  replyControl_of_empty (u := changeGovernor u g c) .ok .none empty channel rfl

/-! ## HOLD -/

theorem controlHold_of_hold (s : State) (hold : s.governor = .hold) : controlHold s = replyControl s .ok .none := by
  simp [controlHold, hold]

theorem controlHold_of_stopped (s : State) (stopped : s.governor = .stopped) :
    controlHold s = replyControl s .refused .state := by
  simp [controlHold, stopped]

theorem enterHold_frame (s : State) :
    SameTracking { changeGovernor s .hold .hold with choices := (enterHold s).choices } (enterHold s) :=
  (leaveService_frame _ _ _).trans_choices (neutralRewriteAll_frame _).toSameTracking

theorem changeGovernor_counts (s : State) (g : GovernorState) (c : GovernorDetail) : SameCounts s (changeGovernor s g c) :=
  ⟨rfl, rfl, rfl, fun _ => rfl, rfl⟩

theorem enterHold_counts (s : State) : SameCounts s (enterHold s) :=
  (changeGovernor_counts s .hold .hold).trans ((leaveService_counts _ _ _).trans (neutralRewriteAll_counts _))

/-- What leaves service after a frame was heard and the governor's state changed has left it from the state before both, and
the reply slot plays no part. -/
theorem LeftService.answered {s t : State} {p : Port} {g : GovernorState} {c : GovernorDetail} {exit : ExitCause}
    {abort : AbortCause} (left : LeftService (changeGovernor (heard s p) g c) t exit abort) (replies : List Frame) :
    LeftService s { t with replies := replies } exit abort := by
  have off : isBusOff (changeGovernor (heard s p) g c) .machine = isBusOff s .machine := heard_busOff s p .machine
  obtain ⟨hin, hout, idle, aborted, notAborted, neutral, keptNeutral, keptIdle⟩ := left
  rw [off] at neutral keptIdle
  exact ⟨hin, hout, idle, aborted, notAborted, neutral, keptNeutral, keptIdle⟩

/-- The reply slot can be written on both sides of a frame. -/
theorem SameTracking.withReplies {s t : State} (h : SameTracking s t) (replies : List Frame) :
    SameTracking { s with replies := replies } { t with replies := replies } :=
  { h with replies := rfl }

theorem SameCounts.withReplies {s t : State} (h : SameCounts s t) (replies : List Frame) :
    SameCounts s { t with replies := replies } :=
  ⟨h.port, h.axis, h.quantity, h.delivery, h.part⟩

/-- The entry into HOLD with its answer, around the GOVERNOR_STATE that it hands over. -/
theorem enterHold_answered_frame (s : State) (replies : List Frame) :
    SameTracking { s with governor := .hold, replies := replies, choices := (enterHold s).choices }
      { enterHold s with replies := replies } := by
  have raised := report_frame
    { s with governor := .hold, replies := replies, choices := (enterHold s).choices } .governorState 0 1
  exact raised.toSameTracking.trans ((enterHold_frame s).withReplies replies)

/-- From GOVERN the control enters HOLD and fills the empty reply slot with OK. -/
theorem controlHold_of_govern (s : State) (govern : s.governor = .govern) (empty : s.replies = []) :
    controlHold s = { enterHold s with replies := [statusReply s 5 .ok .none 255 255 0] } := by
  have kept := enterHold_frame s
  have taken : controlHold s = replyControl (enterHold s) .ok .none := by simp [controlHold, govern]
  rw [taken]
  exact replyControl_of_empty .ok .none (kept.replies.trans empty) kept.channel kept.governor

/-- Settles O14, by the governor state: from GOVERN the entry into HOLD is an entry of `leaveService_rewrite_leftService`, and
in HOLD and STOPPED the control is its reply. -/
theorem holdControlEntersHold : Obligations.HoldControlEntersHold := by
  intro s serves u
  have empty : u.replies = [] := serves.2
  rw [exec_hold_served s serves]
  refine ⟨fun govern => ⟨_, congrArg _ (controlHold_of_govern u govern empty), ?_⟩, fun hold => ?_, fun stopped => ?_⟩
  · have left := leaveService_rewrite_leftService (changeGovernor u .hold .hold) .hold .hold
    have counts : SameCounts s u := SameCounts.same rfl
    exact ⟨left.answered _, (counts.trans (enterHold_counts u)).withReplies _, enterHold_answered_frame u _,
      (enterHold_frame u).grows⟩
  · rw [controlHold_of_hold u hold]
    exact congrArg _ (replyControl_of_empty .ok .none empty rfl hold)
  · rw [controlHold_of_stopped u stopped]
    exact congrArg _ (replyControl_of_empty .refused .state empty rfl stopped)

/-! ## RELEASE -/

theorem controlRelease_of_refusal (s : State) (status : StatusCode) (cause : ReplyCause)
    (refused : releaseRefusal s = some (status, cause)) : controlRelease s = replyControl s status cause := by
  simp [controlRelease, refused]

theorem controlRelease_of_passed (s : State) (passed : releaseRefusal s = none) :
    controlRelease s = replyControl (changeGovernor s .govern .release) .ok .none := by
  simp [controlRelease, passed]

theorem releaseRefusal_of_stopped (s : State) (noFlight : s.flight = none) (stopped : s.governor = .stopped) :
    releaseRefusal s = some (.refused, .state) := by
  simp [releaseRefusal, noFlight, stopped]

theorem releaseRefusal_of_govern (s : State) (noFlight : s.flight = none) (govern : s.governor = .govern) :
    releaseRefusal s = some (.ok, .none) := by
  simp [releaseRefusal, noFlight, govern]

/-- With no commit in flight HOLD makes the checks of the profiles and then of the two quantities (R22). -/
theorem releaseRefusal_of_hold (s : State) (noFlight : s.flight = none) (hold : s.governor = .hold) :
    releaseRefusal s =
      if ¬(s.tables.rig.valid = true ∧ s.tables.bar.valid = true) then some (.refused, .notValid)
      else if ¬(isFresh s .payout = true ∧ isFresh s .head = true) then some (.refused, .state)
      else none := by
  simp [releaseRefusal, noFlight, hold, -not_and, not_and_or]

/-- Settles O15: each clause names the first check of R22 that applies, and `controlRelease` answers by it. -/
theorem releaseControlFollowsItsChecks : Obligations.ReleaseControlFollowsItsChecks := by
  intro s serves u ready fresh
  have empty : u.replies = [] := serves.2
  have refusal (status : StatusCode) (cause : ReplyCause) (g : GovernorState) (state : s.governor = g)
      (refused : releaseRefusal u = some (status, cause)) :
      exec .release s = .next { u with replies := [statusReply s 5 status cause 255 255 g.code] } := by
    rw [exec_release_served s serves, controlRelease_of_refusal u status cause refused]
    exact congrArg _ (replyControl_of_empty status cause empty rfl state)
  have checks (noFlight : s.flight = none) (hold : s.governor = .hold) := releaseRefusal_of_hold u noFlight hold
  refine ⟨fun flying => ?_, fun noFlight stopped => ?_, fun noFlight govern => ?_, fun noFlight hold notReady => ?_,
    fun noFlight hold isReady notFresh => ?_, fun noFlight hold isReady allFresh => ?_⟩
  · exact refusal .busy .none s.governor rfl (if_pos flying)
  · exact refusal .refused .state .stopped stopped (releaseRefusal_of_stopped u noFlight stopped)
  · exact refusal .ok .none .govern govern (releaseRefusal_of_govern u noFlight govern)
  · exact refusal .refused .notValid .hold hold ((checks noFlight hold).trans (if_pos notReady))
  · exact refusal .refused .state .hold hold
      ((checks noFlight hold).trans ((if_neg (not_not_intro isReady)).trans (if_pos notFresh)))
  · have passed : releaseRefusal u = none :=
      (checks noFlight hold).trans ((if_neg (not_not_intro isReady)).trans (if_neg (not_not_intro allFresh)))
    rw [exec_release_served s serves, controlRelease_of_passed u passed]
    exact congrArg _ (replyControl_changeGovernor .govern .release empty rfl)

/-! ## STOP_CLEAR and the quiet timer -/

theorem controlStopClear_of_running (s : State) (stopped : s.governor = .stopped) (running : s.quiet.isSome = true) :
    controlStopClear s = replyControl s .refused .state := by
  simp [controlStopClear, stopped, running]

theorem controlStopClear_of_quiet (s : State) (stopped : s.governor = .stopped) (quiet : s.quiet = none) :
    controlStopClear s = replyControl (changeGovernor s .hold .stopClear) .ok .none := by
  simp [controlStopClear, stopped, quiet]

theorem controlStopClear_of_not_stopped (s : State) (elsewhere : s.governor ≠ .stopped) :
    controlStopClear s = replyControl s .ok .none := by
  unfold controlStopClear
  split
  · exact absurd ‹_› elsewhere
  all_goals rfl

/-- Settles O16: STOP_CLEAR by the governor state and the quiet timer, and the expiry of the timer by itself. -/
theorem stopClearNeedsTheQuietPeriod : Obligations.StopClearNeedsTheQuietPeriod := by
  intro s
  refine ⟨?_, fun high out => ?_⟩
  · intro serves u
    have empty : u.replies = [] := serves.2
    rw [exec_stopClear_served s serves]
    refine ⟨fun stopped running => ?_, fun stopped quiet => ?_, fun elsewhere => ?_⟩
    · rw [controlStopClear_of_running u stopped running]
      exact congrArg _ (replyControl_of_empty .refused .state empty rfl stopped)
    · rw [controlStopClear_of_quiet u stopped quiet]
      exact congrArg _ (replyControl_changeGovernor .hold .stopClear empty rfl)
    · rw [controlStopClear_of_not_stopped u elsewhere]
      exact congrArg _ (replyControl_of_empty .ok .none empty rfl rfl)
  · rw [exec_stopQuietTimerExpiry, onExpiry_due s s.quiet _ high out]

end Sys2Proof.Machine
end

section
/-! The nearest row of a joint: by rounded division in UNIFORM mode (R54), by least distance in LISTED mode (R55). -/

namespace Sys2Proof.Machine

open Sys2Proof

/-! ## UNIFORM mode -/

/-- Short of the first row offset the nearest row is row 0 (R54). -/
theorem nearestUniform_of_lt (first pitch e : Int) (rows : Nat) (short : e < first) :
    nearestUniform first pitch rows e = 0 := by
  simp [nearestUniform, short]

/-- From the first row offset on it is the offset in pitches, rounded, but at most the last row (R54). -/
theorem nearestUniform_of_le (first pitch e : Int) (rows : Nat) (reached : first ≤ e) :
    nearestUniform first pitch rows e = min ((e - first + pitch / 2) / pitch).toNat (rows - 1) := by
  rw [nearestUniform, if_neg (not_lt.mpr reached)]

theorem clamp_zero_of_nonneg {hi v : Int} (nonneg : 0 ≤ v) : clamp 0 hi v = min v hi := by
  rw [clamp, if_neg (not_lt.mpr nonneg)]
  split <;> omega

/-- The rounded quotient of an offset from the first row on is not negative. -/
theorem roundedQuotient_nonneg {first pitch e : Int} (positive : 0 < pitch) (reached : first ≤ e) :
    0 ≤ (e - first + pitch / 2) / pitch :=
  Int.ediv_nonneg (by omega) positive.le

/-- The nearest row is R54's quotient clamped into 0 to the last row. -/
theorem nearestUniform_eq_clamp {first pitch : Int} (e : Int) {rows : Nat} (positive : 0 < pitch) (present : 1 ≤ rows) :
    (nearestUniform first pitch rows e : Int) =
      clamp 0 (rows - 1) (if e < first then 0 else (e - first + pitch / 2) / pitch) := by
  obtain short | reached := lt_or_ge e first
  · rw [nearestUniform_of_lt _ _ _ _ short, if_pos short, clamp_zero_of_nonneg le_rfl]
    omega
  · have nonneg := roundedQuotient_nonneg positive reached
    rw [nearestUniform_of_le _ _ _ _ reached, if_neg (not_lt.mpr reached), clamp_zero_of_nonneg nonneg]
    omega

/-- The offset halfway between rows `k` and `k + 1` of an even pitch gives the upper of the two (R54). -/
theorem nearestUniform_halfway {first pitch : Int} {rows k : Nat} (positive : 0 < pitch) (upper : k + 1 < rows)
    (even : 2 ∣ pitch) : nearestUniform first pitch rows (first + k * pitch + pitch / 2) = k + 1 := by
  have halves : pitch / 2 + pitch / 2 = pitch := by omega
  have steps : 0 ≤ k * pitch := by positivity
  have quotient : (first + k * pitch + pitch / 2 - first + pitch / 2) / pitch = k + 1 := by
    rw [show first + k * pitch + pitch / 2 - first + pitch / 2 = (k + 1) * pitch by linarith]
    exact Int.mul_ediv_cancel _ positive.ne'
  rw [nearestUniform_of_le _ _ _ _ (by omega), quotient]
  omega

/-- Up to the first row offset the nearest row is row 0. -/
theorem nearestUniform_of_le_first {first pitch e : Int} (rows : Nat) (positive : 0 < pitch) (low : e ≤ first) :
    nearestUniform first pitch rows e = 0 := by
  obtain short | rfl := lt_or_eq_of_le low
  · exact nearestUniform_of_lt _ _ _ _ short
  · have quotient : (e - e + pitch / 2) / pitch = 0 := Int.ediv_eq_zero_of_lt (by omega) (by omega)
    rw [nearestUniform_of_le _ _ _ _ le_rfl, quotient]
    exact Nat.zero_min _

/-- From the offset of the last row on the nearest row is the last. -/
theorem nearestUniform_of_last_le {first pitch e : Int} {rows : Nat} (positive : 0 < pitch) (present : 1 ≤ rows)
    (high : first + (rows - 1) * pitch ≤ e) : nearestUniform first pitch rows e = rows - 1 := by
  have steps : 0 ≤ ((rows : Int) - 1) * pitch := mul_nonneg (by omega) positive.le
  have quotient : (rows : Int) - 1 ≤ (e - first + pitch / 2) / pitch :=
    (Int.le_ediv_iff_mul_le positive).mpr (by omega)
  rw [nearestUniform_of_le _ _ _ _ (by omega)]
  omega

/-! ## LISTED mode -/

/-- Row `best` is among the first `rows`, differs least from `e`, and is the lower of equals (R55). -/
structure IsNearestListed (position : Nat → Int) (rows : Nat) (e : Int) (best : Nat) : Prop where
  inRange : best < rows
  least   : ∀ k < rows, |position best - e| ≤ |position k - e|
  lowest  : ∀ k < best, |position best - e| < |position k - e|

/-- Among one row, that row is nearest. -/
theorem nearestListed_one (position : Nat → Int) (e : Int) : nearestListed position 1 e = 0 := by
  simp [nearestListed]

/-- A further row is nearest if it is strictly nearer than the nearest of those before it. -/
theorem nearestListed_succ (position : Nat → Int) (rows : Nat) (e : Int) :
    nearestListed position (rows + 1) e =
      if |position rows - e| < |position (nearestListed position rows e) - e| then rows
      else nearestListed position rows e := by
  rw [nearestListed, List.range_succ]
  exact List.foldl_concat ..

theorem IsNearestListed.one (position : Nat → Int) (e : Int) : IsNearestListed position 1 e 0 where
  inRange := Nat.one_pos
  least k below := by rw [Nat.lt_one_iff.mp below]
  lowest k below := absurd below k.not_lt_zero

/-- A further row that is strictly nearer takes the place of the nearest row. -/
theorem IsNearestListed.replaced {position : Nat → Int} {rows best : Nat} {e : Int}
    (h : IsNearestListed position rows e best) (nearer : |position rows - e| < |position best - e|) :
    IsNearestListed position (rows + 1) e rows where
  inRange := rows.lt_succ_self
  least k below := by
    obtain earlier | rfl := Nat.lt_succ_iff_lt_or_eq.mp below
    · exact nearer.le.trans (h.least k earlier)
    · exact le_rfl
  lowest k earlier := nearer.trans_le (h.least k earlier)

/-- A further row that is not strictly nearer, one at the same distance too, leaves the nearest row. -/
theorem IsNearestListed.kept {position : Nat → Int} {rows best : Nat} {e : Int}
    (h : IsNearestListed position rows e best) (notNearer : |position best - e| ≤ |position rows - e|) :
    IsNearestListed position (rows + 1) e best where
  inRange := h.inRange.trans rows.lt_succ_self
  least k below := by
    obtain earlier | rfl := Nat.lt_succ_iff_lt_or_eq.mp below
    · exact h.least k earlier
    · exact notNearer
  lowest := h.lowest

/-- Of at least one row, the search finds the nearest (R55), by induction on the number of rows. -/
theorem nearestListed_isNearest (position : Nat → Int) {rows : Nat} (e : Int) (present : 1 ≤ rows) :
    IsNearestListed position rows e (nearestListed position rows e) := by
  induction rows, present using Nat.le_induction with
  | base => exact nearestListed_one position e ▸ IsNearestListed.one position e
  | succ rows _ ih =>
    rw [nearestListed_succ]
    split_ifs with nearer
    · exact ih.replaced nearer
    · exact ih.kept (not_lt.mp nearer)

/-- Settles O44: the rounded quotient of R54 with its boundaries, the search of R55, and the worked examples of both. -/
theorem nearestRowIsNearest : Obligations.NearestRowIsNearest := by
  refine ⟨fun first pitch e rows positive present => ⟨nearestUniform_eq_clamp e positive present,
      fun k upper even => nearestUniform_halfway positive upper even, nearestUniform_of_le_first rows positive,
      nearestUniform_of_last_le positive present⟩,
    by decide, by decide, by decide, fun position rows e present => ?_, by decide⟩
  obtain ⟨inRange, least, lowest⟩ := nearestListed_isNearest position e present
  exact ⟨inRange, least, lowest⟩

end Sys2Proof.Machine
end

section
/-! Key travel at an accepted ANGLE sample: the rotation the shorter way round (R74), the reference outside TRACKING (R75), and
the lock test before the release test (R77). -/

namespace Sys2Proof.Machine

open Sys2Proof

/-! ## The rotation -/

/-- The rotation is the difference of the angles modulo 3600, in the half-open range about 0 (R74). -/
theorem rotation_spec (reference angle : Int) :
    -1800 ≤ rotation reference angle ∧ rotation reference angle ≤ 1799 ∧
      (3600 : Int) ∣ angle - reference - rotation reference angle := by
  unfold rotation
  obtain far | near := le_or_gt 1800 ((angle - reference) % 3600)
  · rw [if_pos far]
    omega
  · rw [if_neg (not_le.mpr near)]
    omega

/-! ## The accepted sample -/

/-- Outside TRACKING an ANGLE sample only replaces the reference (R75). -/
theorem kellyAngle_of_not_tracking {s : State} (elsewhere : geometry s ≠ .tracking) :
    kellyAngle s = { s with angleRef := some (sensorValue s .angle) } := by
  unfold kellyAngle
  split
  · next tracking _ => exact absurd tracking elsewhere
  · rfl

/-- Without a reference an ANGLE sample gives it (R74). -/
theorem kellyAngle_of_no_reference {s : State} (first : s.angleRef = none) :
    kellyAngle s = { s with angleRef := some (sensorValue s .angle) } := by
  unfold kellyAngle
  split
  · next reference => exact absurd (first.symm.trans reference) nofun
  · rfl

/-- In TRACKING a later ANGLE sample counts the rotation, replaces the reference and makes the key tests (R74). -/
theorem kellyAngle_of_tracking {s : State} {r : Int} (tracking : geometry s = .tracking) (reference : s.angleRef = some r) :
    kellyAngle s = keyTests { s with
      keyTravel := clamp (-3600) 3600 (s.keyTravel + rotation r (sensorValue s .angle))
      angleRef := some (sensorValue s .angle) } := by
  simp only [kellyAngle, tracking, reference]

/-! ## The key tests -/

/-- The aligned set holds a joint where one that is not LOCKED is aligned. -/
theorem anyJoint_alignedSet_iff (s : State) :
    anyJoint (alignedSet s) = true ↔ ∃ j ∈ s.joints, j.aligned = true ∧ j.lock ≠ .locked := by
  simp [anyJoint, alignedSet, Joint.inAlignedSet]

theorem anyNotFree_iff (s : State) : anyNotFree s = true ↔ ∃ j ∈ s.joints, j.lock ≠ .free := by
  simp [anyNotFree]

/-- Key travel has reached the lock angle and a joint that is not LOCKED is aligned (R77). -/
def LockTest (s : State) : Prop :=
  Bar.lockAngle s.tables.bar ≤ s.keyTravel ∧ ∃ j ∈ s.joints, j.aligned = true ∧ j.lock ≠ .locked

/-- Key travel has reached minus the release angle and a joint is not FREE (R77). -/
def ReleaseTest (s : State) : Prop :=
  s.keyTravel ≤ - Bar.releaseAngle s.tables.bar ∧ ∃ j ∈ s.joints, j.lock ≠ .free

/-- The lock test passed makes a lock event, whatever the release test would say. -/
theorem keyTests_of_lockTest {s : State} (locks : LockTest s) : keyTests s = lockEvent s := by
  rw [LockTest, ← anyJoint_alignedSet_iff] at locks
  rw [keyTests, if_pos locks]

/-- After a lock test that fails, the release test passed makes a release event. -/
theorem keyTests_of_releaseTest {s : State} (noLock : ¬ LockTest s) (releases : ReleaseTest s) :
    keyTests s = releaseEvent s := by
  rw [LockTest, ← anyJoint_alignedSet_iff] at noLock
  rw [ReleaseTest, ← anyNotFree_iff] at releases
  rw [keyTests, if_neg noLock, if_pos releases]

/-- Where both tests fail nothing changes. -/
theorem keyTests_of_no_test {s : State} (noLock : ¬ LockTest s) (noRelease : ¬ ReleaseTest s) : keyTests s = s := by
  rw [LockTest, ← anyJoint_alignedSet_iff] at noLock
  rw [ReleaseTest, ← anyNotFree_iff] at noRelease
  rw [keyTests, if_neg noLock, if_neg noRelease]

/-- Settles O45: what an ANGLE sample does in and outside TRACKING, the two key tests in order, and the worked examples. -/
theorem rotationIsCountedTheShorterWay : Obligations.RotationIsCountedTheShorterWay := by
  refine ⟨fun s => ⟨kellyAngle_of_not_tracking, fun _ first => kellyAngle_of_no_reference first,
      fun r tracking reference => ?_⟩,
    fun s => ⟨keyTests_of_lockTest, keyTests_of_releaseTest, keyTests_of_no_test⟩, by decide, by decide⟩
  exact ⟨rotation r (sensorValue s .angle), kellyAngle_of_tracking tracking reference, rotation_spec _ _⟩

end Sys2Proof.Machine
end

section
/-! The stages of the governing arithmetic that shape the demand: cap and scale (R109), slew (R110), and the elapsed
time (R101). -/

namespace Sys2Proof.Machine

open Sys2Proof

/-! ## Truncated quotients -/

/-- Truncation takes a quotient by a positive number no further from 0 (R109). -/
theorem abs_tdiv_mul_le (x : Int) {k : Int} (positive : 0 < k) : |x.tdiv k| * k ≤ |x| := by
  lift k to ℕ using positive.le
  rw [Int.abs_eq_natAbs, Int.natAbs_tdiv, Int.abs_eq_natAbs]
  exact_mod_cast Nat.div_mul_le_self x.natAbs k

/-- Truncation takes a quotient by a positive number to no other side of 0 (R109). -/
theorem tdiv_mul_nonneg {x d k : Int} (positive : 0 < k) (side : 0 ≤ x * d) : 0 ≤ x.tdiv k * d := by
  obtain ⟨xs, ds⟩ | ⟨xs, ds⟩ := mul_nonneg_iff.mp side
  · exact mul_nonneg (Int.tdiv_nonneg xs positive.le) ds
  · have quotient : 0 ≤ -x.tdiv k := Int.neg_tdiv x k ▸ Int.tdiv_nonneg (neg_nonneg.mpr xs) positive.le
    exact mul_nonneg_of_nonpos_of_nonpos (neg_nonneg.mp quotient) ds

/-! ## Cap and scale -/

theorem cappedDemand_of_neg {d : Int} (c : Int) (negative : d < 0) : cappedDemand d c = - min |d| c := if_pos negative

theorem cappedDemand_of_nonneg {d : Int} (c : Int) (nonneg : 0 ≤ d) : cappedDemand d c = min |d| c :=
  if_neg (not_lt.mpr nonneg)

/-- The magnitude of the capped demand is the lesser of those of the demand and the cap (R109). -/
theorem abs_cappedDemand (d : Int) {c : Int} (nonneg : 0 ≤ c) : |cappedDemand d c| = min |d| c := by
  have magnitude : |min |d| c| = min |d| c := abs_of_nonneg (le_min (abs_nonneg d) nonneg)
  obtain negative | positive := lt_or_ge d 0
  · rw [cappedDemand_of_neg c negative, abs_neg, magnitude]
  · rw [cappedDemand_of_nonneg c positive, magnitude]

/-- The capped demand has the sign of the demand, or is 0 (R109). -/
theorem cappedDemand_mul_nonneg (d : Int) {c : Int} (nonneg : 0 ≤ c) : 0 ≤ cappedDemand d c * d := by
  have least : 0 ≤ min |d| c := le_min (abs_nonneg d) nonneg
  obtain negative | positive := lt_or_ge d 0
  · rw [cappedDemand_of_neg c negative]
    exact mul_nonneg_of_nonpos_of_nonpos (neg_nonpos.mpr least) negative.le
  · rw [cappedDemand_of_nonneg c positive]
    exact mul_nonneg least positive

/-- The scaled demand is no further from 0 than the capped demand times the scale (R109). -/
theorem abs_scaledDemand_mul_le (d' : Int) {g : Int} (nonneg : 0 ≤ g) : |scaledDemand d' g| * 1000 ≤ |d'| * g := by
  have truncated : |scaledDemand d' g| * 1000 ≤ |d' * g| := abs_tdiv_mul_le (d' * g) (by norm_num)
  rwa [abs_mul, abs_of_nonneg nonneg] at truncated

/-- A scale of at most 1000 takes the demand no further from 0 (R109). -/
theorem abs_scaledDemand_le (d' : Int) {g : Int} (nonneg : 0 ≤ g) (full : g ≤ 1000) : |scaledDemand d' g| ≤ |d'| := by
  have scaled := abs_scaledDemand_mul_le d' nonneg
  have bounded : |d'| * g ≤ |d'| * 1000 := mul_le_mul_of_nonneg_left full (abs_nonneg d')
  omega

/-- A scale of 1000 leaves the demand (R109). -/
theorem scaledDemand_full (d' : Int) : scaledDemand d' 1000 = d' := Int.mul_tdiv_cancel d' (by norm_num)

/-- Scaling takes a demand to no other side of 0 (R109). -/
theorem scaledDemand_mul_nonneg {d' d g : Int} (nonneg : 0 ≤ g) (side : 0 ≤ d' * d) : 0 ≤ scaledDemand d' g * d :=
  tdiv_mul_nonneg (by norm_num) (by rw [mul_right_comm]; exact mul_nonneg side nonneg)

/-! ## Slew -/

theorem one_le_slewStep (slew elapsed : Int) : 1 ≤ slewStep slew elapsed := le_max_left _ _

/-- Two evaluations at the same millisecond are a step of 1 apart (R110). -/
theorem slewStep_zero (slew : Int) : slewStep slew 0 = 1 := by simp [slewStep]

/-- A reversal passes through 0 (R110). -/
theorem slewed_of_reversal {prev raw : Int} (step : Int) (opposite : prev * raw < 0) : slewed prev raw step = 0 :=
  if_pos (mul_neg_iff.mp opposite)

/-- A fall in magnitude takes effect at once (R110). -/
theorem slewed_of_unloading {prev raw : Int} (step : Int) (side : 0 ≤ prev * raw) (falls : |raw| ≤ |prev|) :
    slewed prev raw step = raw := by
  rw [slewed, if_neg (fun h => side.not_gt (mul_neg_iff.mpr h)), if_pos falls]

/-- A rise in magnitude is by at most the step, toward the scaled demand (R110). -/
theorem slewed_of_loading {prev raw : Int} (step : Int) (side : 0 ≤ prev * raw) (rises : |prev| < |raw|) :
    slewed prev raw step = prev + raw.sign * min (|raw| - |prev|) step := by
  rw [slewed, if_neg (fun h => side.not_gt (mul_neg_iff.mpr h)), if_neg (not_le.mpr rises)]
  obtain negative | rfl | positive := lt_trichotomy raw 0
  · rw [if_pos negative, Int.sign_eq_neg_one_of_neg negative]
    ring
  · exact absurd rises (by simp)
  · rw [if_neg positive.le.not_gt, Int.sign_eq_one_of_pos positive]
    ring

/-- A rise keeps the sign of the scaled demand and does not pass it (R110). -/
theorem slewed_bounds_of_loading {prev raw step : Int} (positive : 1 ≤ step) (side : 0 ≤ prev * raw)
    (rises : |prev| < |raw|) :
    0 < slewed prev raw step * raw ∧ |slewed prev raw step| ≤ |raw| := by
  rw [slewed_of_loading step side rises]
  obtain negative | rfl | above := lt_trichotomy raw 0
  · have prevSide : prev ≤ 0 := nonpos_of_mul_nonneg_left side negative
    rw [Int.sign_eq_neg_one_of_neg negative]
    rw [abs_of_neg negative, abs_of_nonpos prevSide] at rises ⊢
    exact ⟨mul_pos_of_neg_of_neg (by omega) negative, abs_le.mpr ⟨by omega, by omega⟩⟩
  · exact absurd rises (by simp)
  · have prevSide : 0 ≤ prev := nonneg_of_mul_nonneg_left side above
    rw [Int.sign_eq_one_of_pos above]
    rw [abs_of_pos above, abs_of_nonneg prevSide] at rises ⊢
    exact ⟨mul_pos (by omega) above, abs_le.mpr ⟨by omega, by omega⟩⟩

/-- G never lies further from 0 than the scaled demand, and never on its other side (R110). -/
theorem slewed_within (prev raw : Int) {step : Int} (positive : 1 ≤ step) :
    |slewed prev raw step| ≤ |raw| ∧ 0 ≤ slewed prev raw step * raw := by
  obtain opposite | side := lt_or_ge (prev * raw) 0
  · rw [slewed_of_reversal step opposite]
    simp
  obtain falls | rises := le_or_gt |raw| |prev|
  · rw [slewed_of_unloading step side falls]
    exact ⟨le_rfl, mul_self_nonneg raw⟩
  · obtain ⟨sameSign, bounded⟩ := slewed_bounds_of_loading positive side rises
    exact ⟨bounded, sameSign.le⟩

/-! ## The elapsed time and the whole run -/

/-- The elapsed time is capped at 100 (R101). -/
theorem elapsedTime_bounds (s : State) (a : Axis) : 0 ≤ elapsedTime s a ∧ elapsedTime s a ≤ 100 := by
  unfold elapsedTime
  split <;> omega

/-- No time has passed since an evaluation at the same millisecond (R101). -/
theorem elapsedTime_of_now {s : State} {a : Axis} (now : (s.axis a).lastEval = some s.millis) : elapsedTime s a = 0 := by
  simp [elapsedTime, now]

/-- For a demand other than 0, G is the demand capped, scaled and slewed (R108 to R110). -/
theorem governedValue_value (s : State) (a : Axis) {d : Int} (nonzero : d ≠ 0) :
    (governedValue s a d).1 = slewed (s.axis a).governed
      (scaledDemand (cappedDemand d (leastCap (capsOf s a (decide (0 < d)))).2)
        (kneeScale ((limitOf s a (decide (0 < d))).map Limit.value) (Rig.knee s.tables.rig a)
          (directedLoad s a (decide (0 < d)))))
      (slewStep (Rig.slew s.tables.rig a) (elapsedTime s a)) := by
  rw [governedValue, if_neg nonzero]

/-- Settles O52: the stages of R109 and R110 one by one, the elapsed time, and the run that composes them. -/
theorem capScaleAndSlewStayWithinTheDemand : Obligations.CapScaleAndSlewStayWithinTheDemand := by
  refine ⟨fun d c g cap scale full => ?_, fun prev raw slew elapsed => ?_, fun s a => ?_,
    fun s a d nonzero => governedValue_value s a nonzero⟩
  · have capped := abs_cappedDemand d cap
    have side := cappedDemand_mul_nonneg d cap
    have withinDemand : |scaledDemand (cappedDemand d c) g| ≤ |d| :=
      calc _ ≤ |cappedDemand d c| := abs_scaledDemand_le _ scale full
        _ = min |d| c := capped
        _ ≤ |d| := min_le_left _ _
    exact ⟨capped, side, rfl, abs_scaledDemand_mul_le _ scale, fun whole => whole ▸ scaledDemand_full _,
      scaledDemand_mul_nonneg scale side, withinDemand⟩
  · have positive := one_le_slewStep slew elapsed
    obtain ⟨bounded, sameSide⟩ := slewed_within prev raw positive
    exact ⟨rfl, slewed_of_reversal _, slewed_of_unloading _,
      fun side rises => ⟨slewed_of_loading _ side rises, (slewed_bounds_of_loading positive side rises).1⟩,
      bounded, sameSide, fun same => same ▸ slewStep_zero slew⟩
  · obtain ⟨nonneg, capped⟩ := elapsedTime_bounds s a
    exact ⟨nonneg, capped, elapsedTime_of_now⟩

end Sys2Proof.Machine
end

section
/-! Evaluations seen from one axis (R135, R140), the stall timer that lowers the backoff factor (R116), and the recovery timer
that raises it (R117). -/

namespace Sys2Proof.Machine

open Sys2Proof

/-! ## An evaluation and its hand-off -/

/-- The latest frame of an axis after a hand-off: left in BUS_OFF and where value and mode are carried already, else a new one,
neutral outside GOVERN (R140, R150). -/
theorem produce_delivery_same (s : State) (a : Axis) (g : Int) (m : Mode) (refresh : Bool) :
    (produce s a g m refresh).delivery a =
      if isBusOff s .machine then s.delivery a
      else if refresh ∨ (s.delivery a).value ≠ g ∨ (s.delivery a).mode ≠ m then
        (s.delivery a).withFrame (if s.governor = .govern then g else 0) (if s.governor = .govern then m else .neutral)
      else s.delivery a := by
  rw [← newFrame_delivery_same, produce]
  split_ifs <;> rfl

/-- An evaluation leaves of its axis the record and the frame of the values evaluated (R135). -/
theorem evaluateNow_evaluatedIn (s : State) (a : Axis) : EvaluatedIn s s (evaluateNow s a) a := by
  refine ⟨evaluate_axis_same s a false, ?_⟩
  rw [evaluateNow, evaluate, handOver, produce_delivery_same, produce_delivery_same, State.axis_setAxis_same]
  rfl

/-! ## The stall timer -/

/-- Both timers loaded and the backoff factor lowered, as a stall expiry leaves them (R116). -/
def backedOffAndTimed (s : State) : State :=
  { s with
    backoff := backedOff s
    recoveryTimer := some (Rig.recoveryPeriod s.tables.rig)
    stallTimer := some (Rig.stallTime s.tables.rig) }

/-- One stall more. -/
def stallCounted (c : PartCounters) : PartCounters := { c with stalls := bump c.stalls }

/-- The state in which a stall expiry evaluates CROWD: the stall is counted and reported besides. -/
def stallRecorded (s : State) : State :=
  report ((backedOffAndTimed s).countPart stallCounted) .stall (bandIndex s) (backedOff s)

theorem stallExpiry_eq_evaluateNow (s : State) : stallExpiry s = evaluateNow (stallRecorded s) .crowd := rfl

/-- The count, the report and the timers are no inputs of an evaluation (R101). -/
theorem evaluated_stallRecorded (s : State) (a : Axis) :
    evaluated (stallRecorded s) a = evaluated { s with backoff := backedOff s } a := rfl

theorem stallRecorded_frame (s : State) : SameSequence (backedOffAndTimed s) (stallRecorded s) :=
  (State.countPart_frame _ _).trans (report_frame _ _ _ _)

theorem stallRecorded_counts (s : State) :
    SameCounts (s.countPart stallCounted) (stallRecorded s) := by
  have counted : SameCounts (s.countPart stallCounted) ((backedOffAndTimed s).countPart stallCounted) := SameCounts.same rfl
  exact counted.trans (report_counts _ _ _ _)

/-- A stall expiry evaluates CROWD with the factor lowered (R116). -/
theorem stallExpiry_evaluatedIn (s : State) :
    EvaluatedIn { s with backoff := backedOff s } s (stallExpiry s) .crowd := by
  obtain ⟨axis, delivery⟩ := evaluateNow_evaluatedIn (stallRecorded s) .crowd
  rw [evaluated_stallRecorded] at axis delivery
  refine ⟨axis, delivery.trans ?_⟩
  rw [produce_delivery_same, produce_delivery_same]
  rfl

theorem exec_stallTimerExpiry_due (s : State) (high : s.resetLow = false) (out : s.stallTimer = some 0) :
    exec .stallTimerExpiry s = .next (stallExpiry s) :=
  congrArg _ (onExpiry_due s s.stallTimer _ high out)

/-! ## The recovery timer -/

theorem exec_recoveryTimerExpiry_due (s : State) (high : s.resetLow = false) (out : s.recoveryTimer = some 0) :
    exec .recoveryTimerExpiry s = .next (recoveryExpiry s) :=
  congrArg _ (onExpiry_due s s.recoveryTimer _ high out)

/-- Short of 1000 the factor rises by the step and the timer is loaded again (R117). -/
theorem recoveryExpiry_of_short {s : State} (short : min 1000 (s.backoff + Rig.recoveryStep s.tables.rig) < 1000) :
    recoveryExpiry s = { s with
      backoff := min 1000 (s.backoff + Rig.recoveryStep s.tables.rig)
      recoveryTimer := some (Rig.recoveryPeriod s.tables.rig) } := by
  rw [recoveryExpiry, if_pos short]

/-- At 1000 the factor is reported and the timer stays idle (R117). -/
theorem recoveryExpiry_of_recovered {s : State}
    (recovered : min 1000 (s.backoff + Rig.recoveryStep s.tables.rig) = 1000) :
    recoveryExpiry s = report { s with backoff := 1000, recoveryTimer := none } .backoffRecovered 0 1000 := by
  rw [recoveryExpiry, recovered, if_neg (lt_irrefl _)]

/-- Settles O41: a stall expiry as one evaluation of CROWD in the state that has recorded the stall, and a recovery expiry on
either side of 1000. -/
theorem stallAndRecoveryMoveTheBackoff : Obligations.StallAndRecoveryMoveTheBackoff := by
  intro s high
  obtain ⟨crowdRecord, crowdFrame⟩ := stallExpiry_evaluatedIn s
  refine ⟨fun out => ⟨stallExpiry s, exec_stallTimerExpiry_due s high out, ?frame, ?counts, ?reports, ?axis, ?delivery,
      ?others⟩,
    fun out short => ?_, fun out recovered => ?_⟩
  case frame => exact (stallRecorded_frame s).trans (evaluateNow_frame _ _)
  case counts => exact (stallRecorded_counts s).trans (evaluateNow_counts _ _)
  case reports => exact evaluateNow_reports _ _
  case axis => exact crowdRecord
  case delivery => exact crowdFrame
  case others =>
    exact fun a other => ⟨evaluate_axis_other _ _ _ _ other, evaluate_delivery_other _ _ _ _ other⟩
  · rw [exec_recoveryTimerExpiry_due s high out, recoveryExpiry_of_short short]
  · rw [exec_recoveryTimerExpiry_due s high out, recoveryExpiry_of_recovered recovered]

end Sys2Proof.Machine
end

section
/-! One step of the part: the command at the front of the queue, or the timebase (log 2, log 3, log 26), and how an invariant of
commands and of a millisecond becomes an invariant of steps. -/

namespace Sys2Proof.Machine

open Sys2Proof

/-! ## The command at the front -/

/-- With a command waiting a step is that command, run with the queue's rest. -/
theorem step_of_pending {s : State} {c : Instr} {cs : List Instr} (waits : s.pending = c :: cs) :
    step s = exec c { s with pending := cs } := by
  simp [step, waits]

/-- With no command waiting a step is the part's own clock. -/
theorem step_of_idle {s : State} (idle : s.pending = []) : step s = idleStep s := by
  simp [step, idle]

/-- Settles O1. -/
theorem stepRunsTheFrontCommand : Obligations.StepRunsTheFrontCommand := fun _ _ _ waits => step_of_pending waits

/-! ## The timebase -/

theorem idleStep_of_low {s : State} (low : s.resetLow = true) : idleStep s = .next s := by
  simp [idleStep, low]

theorem idleStep_of_none_due {s : State} (high : s.resetLow = false) (none : dueEvents s = []) :
    idleStep s = .next (tick s) := by
  simp [idleStep, high, none]

theorem idleStep_of_one_due {s : State} {c : Instr} (high : s.resetLow = false) (one : dueEvents s = [c]) :
    idleStep s = exec c s := by
  simp [idleStep, high, one]

/-- The free pick is one of the expiries due. -/
theorem pickDue_mem (s : State) (c : Instr) (rest : List Instr) : pickDue s c rest ∈ c :: rest := by
  have inRange : Config.freePick s.choices % (rest.length + 1) < (c :: rest).length := Nat.mod_lt _ (Nat.succ_pos _)
  rw [pickDue, List.getD_eq_getElem _ _ inRange]
  exact List.getElem_mem inRange

/-- Of several expiries due a step takes one, and counts the free choice (log 2). -/
theorem idleStep_of_several_due {s : State} (high : s.resetLow = false) (several : 2 ≤ (dueEvents s).length) :
    ∃ c ∈ dueEvents s, idleStep s = exec c (madeChoices s 1) := by
  match due : dueEvents s with
  | [] => simp [due] at several
  | [c] => simp [due] at several
  | c :: d :: cs => exact ⟨_, pickDue_mem s c (d :: cs), by simp [idleStep, high, due]⟩

/-- An expiry is due where its timer runs with 0 ms left (log 3). -/
theorem mem_dueEvent (t : Timer) (c x : Instr) : c ∈ dueEvent t x ↔ c = x ∧ t = some 0 := by
  unfold dueEvent Timer.due
  split <;> simp_all

theorem mem_dueSensors (s : State) (c : Instr) :
    c ∈ dueSensors s ↔ ∃ q, c = .sensorFreshnessExpiry q ∧ (s.sensor q).timer = some 0 := by
  have all (q : Quantity) : q ∈ allQuantities := by cases q <;> decide
  simp [dueSensors, mem_dueEvent, all]

theorem mem_dueAxis (s : State) (a : Axis) (c : Instr) :
    c ∈ dueAxis s a ↔ (c = .operatorFreshnessExpiry a ∧ (s.axis a).freshness = some 0) ∨
      (c = .rampTimerExpiry a ∧ (s.axis a).ramp = some 0) ∨ (c = .echoTimerExpiry a ∧ (s.delivery a).echo = some 0) ∨
      (c = .refreshTimerExpiry a ∧ (s.delivery a).refresh = some 0) := by
  simp [dueAxis, mem_dueEvent]

theorem mem_allAxes (a : Axis) : a ∈ allAxes := by cases a <;> decide

/-- A commit is due to complete where its window has 0 ms left (log 26). -/
theorem flight_left_eq_zero_iff (s : State) :
    s.flight.map Flight.left = some 0 ↔ ∃ f, s.flight = some f ∧ f.left = 0 := by
  simp [Option.map_eq_some_iff]

/-- The expiries due, by their timers. -/
theorem mem_dueEvents (s : State) (c : Instr) :
    c ∈ dueEvents s ↔
      (c = .stopQuietTimerExpiry ∧ s.quiet = some 0) ∨
      (∃ q, c = .sensorFreshnessExpiry q ∧ (s.sensor q).timer = some 0) ∨
      (∃ a, c = .operatorFreshnessExpiry a ∧ (s.axis a).freshness = some 0) ∨
      (∃ a, c = .rampTimerExpiry a ∧ (s.axis a).ramp = some 0) ∨
      (∃ a, c = .echoTimerExpiry a ∧ (s.delivery a).echo = some 0) ∨
      (∃ a, c = .refreshTimerExpiry a ∧ (s.delivery a).refresh = some 0) ∨
      (c = .stallTimerExpiry ∧ s.stallTimer = some 0) ∨ (c = .recoveryTimerExpiry ∧ s.recoveryTimer = some 0) ∨
      (c = .sequenceTimerExpiry ∧ s.sequenceTimer = some 0) ∨ (c = .statusTimerExpiry ∧ s.statusTimer = some 0) ∨
      (c = .commitCompletion ∧ ∃ f, s.flight = some f ∧ f.left = 0) := by
  simp only [dueEvents, List.mem_append, mem_dueEvent, mem_dueSensors, List.mem_flatMap, mem_allAxes, true_and, mem_dueAxis,
    exists_or, flight_left_eq_zero_iff, or_assoc]

theorem tick_axis (s : State) (a : Axis) : (tick s).axis a = (s.axis a).tick := by cases a <;> rfl
theorem tick_delivery (s : State) (a : Axis) : (tick s).delivery a = (s.delivery a).tick := by cases a <;> rfl
theorem tick_sensor (s : State) (q : Quantity) : (tick s).sensor q = (s.sensor q).tick := by cases q <;> rfl

/-- The millisecond counter is of 16 bits. -/
theorem millis_succ_toNat (m : Millis) : (m + 1).toNat = (m.toNat + 1) % 65536 := by simp

/-- Settles O2: the branches of a step on an empty queue, and the members of the expiries due. -/
theorem idleStepIsTheTimebase : Obligations.IdleStepIsTheTimebase := by
  intro s idle less
  rw [step_of_idle idle]
  exact ⟨idleStep_of_low,
    fun high none => ⟨tick s, idleStep_of_none_due high none, rfl, millis_succ_toNat _, tick_sensor s, tick_axis s,
      tick_delivery s⟩,
    fun c high one => idleStep_of_one_due high one, idleStep_of_several_due, mem_dueEvents s⟩

/-! ## Invariants of steps -/

/-- What commands and a millisecond keep, and what does not read the queue of waiting commands or the count of free choices,
every step keeps. -/
theorem step_keeps {P : State → Prop} (queue : ∀ s cs, P s → P { s with pending := cs })
    (choice : ∀ s, P s → P (madeChoices s 1)) (millisecond : ∀ s, P s → P (tick s))
    (command : ∀ c s t, P s → exec c s = .next t → P t) (s t : State) (holds : P s) (taken : step s = .next t) : P t := by
  match waits : s.pending with
  | c :: cs =>
    rw [step_of_pending waits] at taken
    exact command c _ t (queue s cs holds) taken
  | [] =>
    rw [step_of_idle waits] at taken
    by_cases low : s.resetLow = true
    · rw [idleStep_of_low low] at taken
      exact (Host.Outcome.next.inj taken) ▸ holds
    have high : s.resetLow = false := by simpa using low
    match due : dueEvents s with
    | [] =>
      rw [idleStep_of_none_due high due] at taken
      exact (Host.Outcome.next.inj taken) ▸ millisecond s holds
    | [c] =>
      rw [idleStep_of_one_due high due] at taken
      exact command c s t holds taken
    | c :: d :: cs =>
      obtain ⟨e, -, picked⟩ := idleStep_of_several_due high (by simp [due] : 2 ≤ (dueEvents s).length)
      rw [picked] at taken
      exact command e _ t (choice s holds) taken

/-! ## Power-on reset -/

/-- Settles O4: `powerOn` writes every field. -/
theorem powerOnResetGivesEveryValue : Obligations.PowerOnResetGivesEveryValue := fun _ _ => rfl

end Sys2Proof.Machine
end

section
/-! What the Report Unit does with an event and with a fault (R174, R175, R177). -/

namespace Sys2Proof.Machine

open Sys2Proof

/-! ## Bytes -/

theorem byte1_natCast (n : Nat) : byte1 (n : Int) = [BitVec.ofNat 8 n] := by simp [byte1, leBytes, BitVec.ofInt_natCast]

@[simp] theorem leBytes_length (k : Nat) (i : Int) : (leBytes k i).length = k := by
  induction k generalizing i with
  | zero => rfl
  | succ k ih => simp [leBytes, ih]

@[simp] theorem byte1_length (i : Int) : (byte1 i).length = 1 := leBytes_length 1 i
@[simp] theorem byte2_length (i : Int) : (byte2 i).length = 2 := leBytes_length 2 i

/-! ## Events -/

/-- The built-in levels of R174. -/
theorem builtInLevel_eq (k : EventKind) :
    k.builtInLevel = if k = .stopSeen ∨ k = .axisFault ∨ k = .lockSlip ∨ k = .busState then 3 else 1 := by
  cases k <;> rfl

/-- At level 0 an event is dropped (R174). -/
theorem report_of_dropped {s : State} {k : EventKind} (subject : Nat) (detail : Int) (level : reportLevel s k = 0) :
    report s k subject detail = s := by
  simp [report, reportsAfter, reportsLostAfter, level]

/-- With room in the queue an event becomes its frame at the tail (R175). -/
theorem report_of_room {s : State} {k : EventKind} (subject : Nat) (detail : Int) (level : reportLevel s k ≠ 0)
    (room : s.reports.length < 16) :
    report s k subject detail = { s with reports := s.reports ++ [reportFrame s k subject detail] } := by
  simp [report, reportsAfter, reportsLostAfter, level, Nat.not_le.mpr room]

/-- At a full queue an event is counted as lost (R175). -/
theorem report_of_full {s : State} {k : EventKind} (subject : Nat) (detail : Int) (level : reportLevel s k ≠ 0)
    (full : 16 ≤ s.reports.length) :
    report s k subject detail = { s with counters := { s.counters with
      part := { s.counters.part with reportsLost := bump s.counters.part.reportsLost } } } := by
  simp [report, reportsAfter, reportsLostAfter, level, full]

/-- The bytes of a REPORT frame (R173, R174). -/
theorem reportFrame_eq (s : State) (k : EventKind) (subject : Nat) (detail : Int) :
    reportFrame s k subject detail = ⟨false, false, (8 - reportLevel s k) * 128 + s.channel.toNat, 6,
      [BitVec.ofNat 8 k.code, BitVec.ofNat 8 subject] ++ byte2 detail ++ byte2 s.millis.toNat⟩ := by
  simp [reportFrame, ownFrame, byte1_natCast]

/-! ## Faults -/

theorem capture_of_machineSide {s : State} {k : FaultKind} (subject : Nat) (side : k.machineSide = true) :
    capture s k subject = { s with machineFault := FaultRecord.offer s.machineFault (freshFault s k subject) } := by
  simp [capture, side]

theorem capture_of_barSide {s : State} {k : FaultKind} (subject : Nat) (side : k.machineSide = false) :
    capture s k subject = { s with barFault := FaultRecord.offer s.barFault (freshFault s k subject) } := by
  simp [capture, side]

/-- The faults of the machine side (R177). -/
theorem machineSide_iff (k : FaultKind) : k.machineSide = true ↔ k = .driverLost ∨ k = .driverFault ∨ k = .busOff := by
  cases k <;> simp [FaultKind.machineSide]

/-- Settles O43: an event by its level and the room in the queue, a fault by its side and the record that takes it. -/
theorem eventsAndFaultsAreRecorded : Obligations.EventsAndFaultsAreRecorded := by
  refine ⟨?events, ?faults⟩
  case events =>
    intro s k subject detail level
    have level_eq : reportLevel s k = level := by simp only [reportLevel, builtInLevel_eq, level]
    rw [← level_eq]
    refine ⟨report_of_dropped subject detail, fun kept room => ?_, report_of_full subject detail⟩
    rw [report_of_room subject detail kept room, reportFrame_eq]
  case faults =>
    intro s k subject fresh machine
    have barSide : ¬machine → k.machineSide = false := by simp [machine, ← machineSide_iff]
    refine ⟨fun side empty => ?_, fun side empty => ?_, fun r side filled => ?_, fun r side filled => ?_⟩
    · rw [capture_of_machineSide subject ((machineSide_iff k).mpr side), empty]
      rfl
    · rw [capture_of_barSide subject (barSide side), empty]
      rfl
    · rw [capture_of_machineSide subject ((machineSide_iff k).mpr side), filled]
      rfl
    · rw [capture_of_barSide subject (barSide side), filled]
      rfl

/-! ## The reset state -/

/-- Settles O54: after power-on reset there is no joint, no pending frame, no fault and no table row, every axis is in NEUTRAL at 0
with no demand stored, and the sequencer is in IDLE. -/
theorem invariantsHoldAfterReset : Obligations.InvariantsHoldAfterReset := by
  have neutral (a : Axis) : State.reset.axis a = AxisRecord.initial := by cases a <;> rfl
  have idle (a : Axis) : State.reset.delivery a = DeliveryRecord.initial := by cases a <;> rfl
  have port (p : Port) : State.reset.port p = PortRecord.initial := by cases p <;> rfl
  have noRow (j : Nat) : State.reset.tables.bar.present j = false := by
    simp only [Table.present, State.reset, Tables.empty, Table.empty, List.getD_eq_getElem?_getD, List.getElem?_replicate]
    split <;> rfl
  refine ⟨⟨?_, by decide, by decide, by decide, by decide, by simp [State.reset]⟩, ⟨?_, ?_, fun _ => rfl, ?_⟩,
    ⟨by decide, by decide, by decide⟩,
    ⟨by decide, ?_, ?_, ?_, ?_, by simp [State.reset], by simp [State.reset], by decide, by decide, by decide⟩,
    ⟨by decide, by decide, by simp [State.reset, numbered], by simp [State.reset, numbered], by simp [State.reset, numbered],
      by simp [State.reset, numbered], by decide, by decide, ?_⟩, ?_, ⟨by decide, by decide, by decide⟩⟩
  · intro p; simp [port, PortRecord.initial]
  · intro a _; simp [neutral, AxisRecord.initial]
  · intro _ a; simp [neutral, AxisRecord.initial, AxisState.outOfService]
  · intro _ a; simp [idle, DeliveryRecord.initial]
  · intro a; simp [neutral, AxisRecord.initial]
  · intro a; simp [idle, DeliveryRecord.initial]
  · intro a; simp [idle, DeliveryRecord.initial]
  · intro p; simp [port, PortRecord.initial]
  · intro j _; simp [noRow]
  · intro a; simp [neutral, AxisRecord.initial]

end Sys2Proof.Machine
end

section
/-! The lists of the part: no command changes the queue of waiting commands, and none takes a list beyond its capacity (R10, R164,
R166, R167, R175, R176). -/

namespace Sys2Proof.Machine

open Sys2Proof

/-! ## The state that a command leaves -/

/-- The state that a command leaves: no command stops the part. -/
def effect (c : Instr) (s : State) : State :=
  match exec c s with
  | .next t => t
  | .fault _ => s
  | .refused _ => s

theorem exec_eq_next_effect (c : Instr) (s : State) : exec c s = .next (effect c s) := by cases c <;> rfl

theorem eq_effect_of_exec {c : Instr} {s t : State} (taken : exec c s = .next t) : t = effect c s :=
  (Host.Outcome.next.inj ((exec_eq_next_effect c s).symm.trans taken)).symm

/-! ## The frame: queue and capacities -/

/-- A change leaves the queue of waiting commands, and takes no list beyond its capacity. -/
structure ListsKept (s t : State) : Prop where
  pending  : t.pending = s.pending
  capacity : WithinCapacity s → WithinCapacity t

@[refl] theorem ListsKept.refl (s : State) : ListsKept s s := ⟨rfl, id⟩

theorem ListsKept.trans {s t u : State} (h : ListsKept s t) (k : ListsKept t u) : ListsKept s u :=
  ⟨k.pending.trans h.pending, fun c => k.capacity (h.capacity c)⟩

/-- No list grows but a queue with room, and the commit in flight with its rows stays. -/
theorem ListsKept.of_fields {s t : State} (pending : t.pending = s.pending)
    (queues : ∀ p, (s.port p).queue.length ≤ 32 → (t.port p).queue.length ≤ 32)
    (reports : s.reports.length ≤ 16 → t.reports.length ≤ 16) (buffer : t.buffer = s.buffer)
    (pages : s.statusSlot.length ≤ 3 → t.statusSlot.length ≤ 3) (replies : t.replies.length ≤ s.replies.length)
    (flight : t.flight = s.flight) : ListsKept s t :=
  ⟨pending, fun c => ⟨fun p => queues p (c.queues p), reports c.reports, buffer ▸ c.buffer, pages c.pages,
    by rw [flight]; have := c.replies; omega, by rw [flight, buffer]; exact c.taken⟩⟩

/-- The drive and tracking blocks keep the lists. -/
theorem Kept.lists {s t : State} (h : Kept s t) : ListsKept s t :=
  .of_fields h.pending (fun p => by simp only [State.port, h.ports]; exact id) h.bound h.buffer (h.statusSlot ▸ id)
    (by rw [h.replies]) h.flight

/-- A record of a port whose queue has not grown. -/
theorem setPort_lists (s : State) (p : Port) (r : PortRecord) (queue : r.queue.length ≤ (s.port p).queue.length) :
    ListsKept s (s.setPort p r) := by
  refine .of_fields rfl (fun q room => ?_) id rfl id le_rfl rfl
  by_cases h : q = p
  · subst h; rw [State.port_setPort_same]; omega
  · rwa [State.port_setPort_other s p q r h]

theorem countPort_lists (s : State) (p : Port) (f : PortCounters → PortCounters) : ListsKept s (s.countPort p f) :=
  .of_fields rfl (fun _ => id) id rfl id le_rfl rfl

/-- A status reply placed in an empty slot. -/
theorem reply_lists {s u : State} (h : ListsKept s u) (empty : u.replies = []) (k : Nat) (c : StatusCode) (w : ReplyCause)
    (t r d : Nat) : ListsKept s (reply u k c w t r d) := by
  refine ⟨h.pending, fun cap => ?_⟩
  obtain ⟨queues, reports, buffer, pages, -, taken⟩ := h.capacity cap
  refine ⟨queues, reports, buffer, pages, ?_, taken⟩
  simp only [reply_replies, empty, List.nil_append, List.length_singleton]
  split <;> omega

/-! ## Governor Control -/

theorem changeGovernor_lists (s : State) (g : GovernorState) (c : GovernorDetail) : ListsKept s (changeGovernor s g c) :=
  (ListsKept.of_fields rfl (fun _ => id) id rfl id le_rfl rfl : ListsKept s { s with governor := g }).trans
    (report_frame _ _ _ _).lists

theorem leaveService_lists (s : State) (exit : ExitCause) (abort : AbortCause) :
    ListsKept s (neutralRewriteAll (leaveService s exit abort)) := by
  have choice : ListsKept s { s with choices := (leaveService s exit abort).choices } :=
    .of_fields rfl (fun _ => id) id rfl id le_rfl rfl
  exact (choice.trans (leaveService_frame s exit abort).lists).trans (neutralRewriteAll_frame _).lists

theorem governorStop_lists (s : State) (p : Port) (id_ : Nat) : ListsKept s (governorStop s p id_) := by
  have quiet (u : State) (q : Timer) : ListsKept u { u with quiet := q } := .of_fields rfl (fun _ => id) id rfl id le_rfl rfl
  unfold governorStop
  split
  · exact quiet s _
  · exact (((report_frame s .stopSeen p.code id_).lists.trans (changeGovernor_lists _ .stopped (stopDetail p))).trans
      (quiet _ _)).trans (leaveService_lists _ .stop .stop)

/-! ## Receptions -/

theorem appendFrame_lists (s : State) (p : Port) (f : Frame) (room : (s.port p.other).queue.length < 32) :
    ListsKept s (appendFrame s p f) := by
  have longer : ListsKept s (s.setPort p.other { s.port p.other with queue := (s.port p.other).queue ++ [f] }) := by
    refine .of_fields rfl (fun q kept => ?_) id rfl id le_rfl rfl
    by_cases h : q = p.other
    · subst h; rw [State.port_setPort_same]; simp; omega
    · rwa [State.port_setPort_other s _ q _ h]
  exact longer.trans (countPort_lists _ p _)

theorem dropFrame_lists (s : State) (p : Port) : ListsKept s (dropFrame s p) := by
  have counted := countPort_lists s p (fun c => { c with drops := bump c.drops })
  unfold dropFrame
  dsimp only
  split
  · exact counted
  · exact (counted.trans (setPort_lists _ p.other _ (by rfl))).trans (report_frame _ _ _ _).lists

theorem forwardFrame_lists (s : State) (p : Port) (f : Frame) : ListsKept s (forwardFrame s p f) := by
  obtain room | full := lt_or_ge (s.port p.other).queue.length 32
  · exact forwardFrame_of_room s p f room ▸ appendFrame_lists s p f room
  · exact forwardFrame_of_full s p f full ▸ dropFrame_lists s p

theorem countFormat_lists (s : State) (p : Port) : ListsKept s (countFormat s p) := countPort_lists s p _

theorem receiveCommand_lists (s : State) (p : Port) (a : Axis) (f : Frame) : ListsKept s (receiveCommand s p a f) := by
  unfold receiveCommand
  split
  · exact (takeCommand_frame s a _).lists
  · exact (countFormat_lists s p).trans (State.countAxis_frame _ a _).lists

theorem receiveEcho_lists (s : State) (p : Port) (a : Axis) (f : Frame) : ListsKept s (receiveEcho s p a f) := by
  unfold receiveEcho
  split
  · exact (takeEcho_frame s a _).lists
  · exact countFormat_lists s p

theorem receiveSample_lists (s : State) (p : Port) (q : Quantity) (f : Frame) : ListsKept s (receiveSample s p q f) := by
  unfold receiveSample
  split
  · exact (takeSample_frame s q _).lists
  · exact (countFormat_lists s p).trans (State.countQuantity_frame _ q _).lists

theorem snoop_lists (s : State) (p : Port) (q : Quantity) (f : Frame) : ListsKept s (snoop s p q f) := by
  have choice := (madeChoices_frame s 1).lists
  unfold snoop
  split
  · split
    · exact (choice.trans (receiveSample_lists _ p q f)).trans (forwardFrame_lists _ p f)
    · exact (choice.trans (forwardFrame_lists _ p f)).trans (receiveSample_lists _ p q f)
  · exact (forwardFrame_lists s p f).trans (receiveSample_lists _ p q f)

/-! ## The Load Unit: requests to an empty reply slot -/

theorem deselect_lists (s : State) : ListsKept s (deselect s) := .of_fields rfl (fun _ => id) id rfl id le_rfl rfl

theorem raiseFlag_lists (s : State) (f : LoadFlag) : ListsKept s (raiseFlag s f) :=
  .of_fields rfl (fun _ => id) id rfl id le_rfl rfl

theorem loadSelect_lists (s : State) (table row : Nat) (check : Byte) (empty : s.replies = []) :
    ListsKept s (loadSelect s table row check) := by
  unfold loadSelect
  split
  · exact reply_lists (deselect_lists s) empty _ _ _ _ _ _
  split
  · exact reply_lists ((raiseFlag_lists s _).trans (deselect_lists _)) empty _ _ _ _ _ _
  split
  · exact reply_lists (deselect_lists s) empty _ _ _ _ _ _
  · exact .of_fields rfl (fun _ => id) id rfl id le_rfl rfl

theorem discardRow_lists (s : State) (x : Selection) (f : LoadFlag) (empty : s.replies = []) :
    ListsKept s (discardRow s x f) :=
  reply_lists ((raiseFlag_lists s f).trans (deselect_lists _)) empty _ _ _ _ _ _

theorem completeRow_lists (s : State) (x : Selection) (bytes : Row) (empty : s.replies = []) :
    ListsKept s (completeRow s x bytes) := by
  unfold completeRow
  split
  · exact discardRow_lists s x _ empty
  split
  · exact discardRow_lists s x _ empty
  · refine ⟨rfl, fun c => ⟨c.queues, c.reports, ?_, c.pages, c.replies, fun f flying => ?_⟩⟩
    · simp; omega
    · have := c.taken f flying
      simp; omega

theorem loadSegment_lists (s : State) (body : List Byte) (empty : s.replies = []) : ListsKept s (loadSegment s body) := by
  unfold loadSegment
  split
  · exact (s.countPart_frame _).lists
  split
  · exact discardRow_lists s _ _ empty
  split
  · exact completeRow_lists s _ _ empty
  · exact .of_fields rfl (fun _ => id) id rfl id le_rfl rfl

theorem loadCommit_lists (s : State) (empty : s.replies = []) : ListsKept s (loadCommit s) := by
  unfold loadCommit
  split
  · exact reply_lists (.refl s) empty _ _ _ _ _ _
  split
  · exact reply_lists (.refl s) empty _ _ _ _ _ _
  split
  · exact reply_lists (.refl s) empty _ _ _ _ _ _
  · exact ⟨rfl, fun c => ⟨c.queues, c.reports, c.buffer, c.pages, by simp [empty],
      fun f flying => by simp only [Option.some.injEq] at flying; simp [← flying]⟩⟩

/-- A row shown fills four of the five places of an empty slot (R164). -/
theorem replyRow_lists (s : State) (table row : Nat) (bytes : Row) (detail : Nat) (empty : s.replies = []) :
    ListsKept s (replyRow s table row bytes detail) := by
  refine ⟨rfl, fun c => ⟨c.queues, c.reports, c.buffer, c.pages, ?_, c.taken⟩⟩
  simp only [replyRow, reply_replies, reply_flight, empty, dataReplies, List.nil_append, List.length_append,
    List.length_cons, List.length_nil]
  split <;> omega

theorem loadRead_lists (s : State) (table row view : Nat) (empty : s.replies = []) :
    ListsKept s (loadRead s table row view) := by
  have shown (bytes : Row) (detail : Nat) := replyRow_lists s table row bytes detail empty
  have refused (c : StatusCode) (w : ReplyCause) := reply_lists (.refl s) empty 4 c w table row 0
  unfold loadRead readTable readState
  split
  · split
    · exact shown _ _
    split
    · split
      · exact shown _ _
      · exact shown _ _
    · exact refused _ _
  split
  · split
    · exact shown _ _
    split
    · exact refused _ _
    · exact refused _ _
  · exact refused _ _

theorem replyControl_lists {s u : State} (h : ListsKept s u) (empty : u.replies = []) (c : StatusCode) (w : ReplyCause) :
    ListsKept s (replyControl u c w) := reply_lists h empty _ _ _ _ _ _

theorem enterHold_lists (s : State) : ListsKept s (enterHold s) :=
  (changeGovernor_lists s .hold .hold).trans (leaveService_lists _ .hold .hold)

theorem clearAxisFaults_frame (s : State) : SameSequence s (allAxes.foldl clearAxisFault s) :=
  SameSequence.foldl clearAxisFault_frame _ s

theorem loadControl_lists (s : State) (c : Control) (empty : s.replies = []) : ListsKept s (loadControl s c) := by
  have plain := fun c w => replyControl_lists (.refl s) empty c w
  cases c with
  | release =>
    show ListsKept s (controlRelease s)
    unfold controlRelease
    split
    · exact plain _ _
    · exact replyControl_lists (changeGovernor_lists s _ _) empty _ _
  | hold =>
    show ListsKept s (controlHold s)
    unfold controlHold
    split
    · exact replyControl_lists (enterHold_lists s) ((enterHold_frame s).replies.trans empty) _ _
    · exact plain _ _
    · exact plain _ _
  | stopClear =>
    show ListsKept s (controlStopClear s)
    unfold controlStopClear
    split
    · split
      · exact plain _ _
      · exact replyControl_lists (changeGovernor_lists s _ _) empty _ _
    · exact plain _ _
    · exact plain _ _
  | clearFaults =>
    have cleared := clearAxisFaults_frame s
    have emptied (u : State) : ListsKept u (emptyFaults u) := .of_fields rfl (fun _ => id) id rfl id le_rfl rfl
    exact replyControl_lists (cleared.lists.trans (emptied _)) (cleared.replies.trans empty) .ok .none
  | clearLoadErrors =>
    have flags : ListsKept s { s with loadFlags := 0 } := .of_fields rfl (fun _ => id) id rfl id le_rfl rfl
    exact replyControl_lists flags empty .ok .none
  | discardPending =>
    show ListsKept s (controlDiscardPending s)
    unfold controlDiscardPending
    split
    · exact plain _ _
    · next noFlight =>
      have none : s.flight = none := by simpa using noFlight
      have emptied : ListsKept s { s with buffer := [] } :=
        ⟨rfl, fun c => ⟨c.queues, c.reports, Nat.zero_le _, c.pages, c.replies,
          fun _ flying => absurd (none.symm.trans flying) nofun⟩⟩
      exact replyControl_lists emptied empty .ok .none
  | clearCounters =>
    have counts : ListsKept s { s with counters := Counters.zero } := .of_fields rfl (fun _ => id) id rfl id le_rfl rfl
    exact replyControl_lists counts empty .ok .none
  | restart =>
    have abandoned : ListsKept s { s with flight := none, restarting := true } :=
      ⟨rfl, fun c => ⟨c.queues, c.reports, c.buffer, c.pages, by simp [empty], fun f flying => by simp at flying⟩⟩
    exact replyControl_lists abandoned empty .ok .none

theorem takeManagement_lists (s : State) (pl : List Byte) : ListsKept s (takeManagement s pl) := by
  unfold takeManagement
  split
  · exact (s.countPart_frame _).lists
  · next slot =>
    have empty : s.replies = [] := by simpa using slot
    unfold serve
    split
    · exact loadSelect_lists s _ _ _ empty
    · exact loadSegment_lists s _ empty
    · exact loadCommit_lists s empty
    · exact loadRead_lists s _ _ _ empty
    · exact loadControl_lists s _ empty
    · unfold replyUnknown
      exact reply_lists (.refl s) empty _ _ _ _ _ _

theorem treat_lists (s : State) (p : Port) (t : Treatment) (f : Frame) : ListsKept s (treat s p t f) := by
  cases t with
  | stop => exact (setPort_lists s p.other _ (by rfl)).trans (governorStop_lists _ p f.id)
  | command a => exact receiveCommand_lists s p a f
  | management =>
    show ListsKept s (receiveManagement s p f)
    unfold receiveManagement
    split
    · exact countFormat_lists s p
    · exact takeManagement_lists s _
  | echo a => exact receiveEcho_lists s p a f
  | snoop q => exact snoop_lists s p q f
  | forward => exact forwardFrame_lists s p f
  | foreign => exact (countPort_lists s p _).trans (report_frame _ _ _ _).lists

theorem receiveUnder_lists (s : State) (p : Port) (map : Option (List Nat)) (f : Frame) :
    ListsKept s (receiveUnder s p map f) := by
  unfold receiveUnder
  split
  · exact (setPort_lists s p _ (by rfl)).trans (treat_lists _ p _ f)
  · rfl

/-! ## The completion of a commit -/

theorem followOn_lists (s : State) (es : List BufferEntry) (old : Tables) (oldMap : Option (List Nat)) :
    ListsKept s (followOn s es old oldMap) := by
  have touched (id_ : Nat) (effect : State → State) (h : ∀ u, ListsKept u (effect u)) (u : State) :
      ListsKept u (whenTouched es id_ effect u) := by
    unfold whenTouched
    split
    · exact h u
    · rfl
  have bar (u : State) : ListsKept u (if touches es 2 || touches es 3 then kellyTableChange u old.bar.valid else u) := by
    split
    · exact (kellyTableChange_frame u _).lists
    · rfl
  have timers (u : State) : ListsKept u (rigTimers u old.rig) := by
    unfold rigTimers
    dsimp only
    split <;> exact .of_fields rfl (fun _ => id) id rfl id le_rfl rfl
  have channel (u : State) : ListsKept u { u with channel := channelOf u.tables } :=
    .of_fields rfl (fun _ => id) id rfl id le_rfl rfl
  exact (((((touched 1 _ (fun u => (remapSensors_frame u oldMap).lists) s).trans (bar _)).trans
    (touched 4 _ (fun u => (bandCommit_frame u es).lists) _)).trans
    (touched 1 _ (fun u => (backoffReset_frame u).lists) _)).trans (touched 1 _ timers _)).trans
    (touched 1 _ channel _)

theorem followOn_flight (s : State) (es : List BufferEntry) (old : Tables) (oldMap : Option (List Nat)) :
    (followOn s es old oldMap).flight = s.flight ∧ (followOn s es old oldMap).replies = s.replies := by
  have touched (id_ : Nat) (effect : State → State) (h : ∀ u, (effect u).flight = u.flight ∧ (effect u).replies = u.replies)
      (u : State) :
      (whenTouched es id_ effect u).flight = u.flight ∧ (whenTouched es id_ effect u).replies = u.replies := by
    unfold whenTouched
    split
    · exact h u
    · exact ⟨rfl, rfl⟩
  have ofKept {u v : State} (h : Kept u v) : v.flight = u.flight ∧ v.replies = u.replies := ⟨h.flight, h.replies⟩
  have bar (u : State) : let v := if touches es 2 || touches es 3 then kellyTableChange u old.bar.valid else u
      v.flight = u.flight ∧ v.replies = u.replies := by
    dsimp only
    split
    · exact ofKept (kellyTableChange_frame u _)
    · exact ⟨rfl, rfl⟩
  have timers (u : State) : (rigTimers u old.rig).flight = u.flight ∧ (rigTimers u old.rig).replies = u.replies := by
    unfold rigTimers
    dsimp only
    split <;> exact ⟨rfl, rfl⟩
  have channel (u : State) : { u with channel := channelOf u.tables }.flight = u.flight ∧
      { u with channel := channelOf u.tables }.replies = u.replies := ⟨rfl, rfl⟩
  have compose {u v w : State} (h : v.flight = u.flight ∧ v.replies = u.replies) (k : w.flight = v.flight ∧ w.replies = v.replies) :
      w.flight = u.flight ∧ w.replies = u.replies := ⟨k.1.trans h.1, k.2.trans h.2⟩
  exact compose (compose (compose (compose (compose (touched 1 _ (fun u => ofKept (remapSensors_frame u oldMap)) s) (bar _))
    (touched 4 _ (fun u => ofKept (bandCommit_frame u es)) _)) (touched 1 _ (fun u => ofKept (backoffReset_frame u)) _))
    (touched 1 _ timers _)) (touched 1 _ channel _)

/-- The rows taken leave the buffer, and the place kept free for the commit in flight takes its reply (R164, R169). -/
theorem leaveBuffer_reply_capacity {s u : State} {f : Flight} (flying : s.flight = some f) (cap : WithinCapacity s)
    (kept : ListsKept (leaveBuffer s f) u) (flight : u.flight = none) (replies : u.replies = s.replies) (k : Nat)
    (c : StatusCode) (w : ReplyCause) (t r d : Nat) : WithinCapacity (reply u k c w t r d) := by
  have room := cap.replies
  simp only [flying, Option.isSome_some, if_true] at room
  have left : WithinCapacity (leaveBuffer s f) :=
    ⟨cap.queues, cap.reports, by simp [leaveBuffer]; have := cap.buffer; omega, cap.pages, by simp [leaveBuffer]; omega, nofun⟩
  obtain ⟨queues, reports, buffer, pages, -, -⟩ := kept.capacity left
  refine ⟨queues, reports, buffer, pages, ?_, fun g flown => absurd (flight.symm.trans flown) nofun⟩
  simp only [reply_replies, reply_flight, flight, replies, List.length_append, List.length_singleton, Option.isSome_none]
  simpa using room

theorem commitCompletion_lists (s : State) : ListsKept s (commitCompletion s) := by
  unfold commitCompletion
  split
  · rfl
  next f flying =>
  split
  · exact ⟨rfl, fun cap => leaveBuffer_reply_capacity flying cap (.refl _) rfl rfl _ _ _ _ _ _⟩
  · unfold passCommit
    dsimp only
    have applied : ListsKept (leaveBuffer s f) (leaveBuffer (applyRows s (takenRows s f)) f) :=
      .of_fields rfl (fun _ => id) id rfl id le_rfl rfl
    have followed := followOn_lists (leaveBuffer (applyRows s (takenRows s f)) f) (takenRows s f) s.tables (sensorMapInForce s)
    obtain ⟨flight, replies⟩ :=
      followOn_flight (leaveBuffer (applyRows s (takenRows s f)) f) (takenRows s f) s.tables (sensorMapInForce s)
    exact ⟨followed.pending, fun cap =>
      leaveBuffer_reply_capacity flying cap (applied.trans followed) flight replies _ _ _ _ _ _⟩

/-! ## Resets -/

/-- A reset empties every list (R1, R19, R48). -/
theorem capacity_of_empty {t : State} (queues : ∀ p, (t.port p).queue = []) (reports : t.reports.length ≤ 16)
    (buffer : t.buffer = []) (pages : t.statusSlot = []) (replies : t.replies = []) (flight : t.flight = none) :
    WithinCapacity t :=
  ⟨fun p => by simp [queues p], reports, by simp [buffer], by simp [pages], by simp [replies, flight], by simp [flight]⟩

theorem warmValues_lists (s : State) : ListsKept s (warmValues s) :=
  ⟨rfl, fun _ => capacity_of_empty (fun p => by cases p <;> rfl) (Nat.zero_le _) rfl rfl rfl rfl⟩

theorem powerOn_lists (s : State) (rateHigh : Bool) : ListsKept s (powerOn s rateHigh) := by
  refine ⟨rfl, fun _ => capacity_of_empty (fun p => by cases p <;> rfl) ?_ rfl rfl rfl rfl⟩
  simp only [powerOn]
  split <;> simp

theorem resetLevel_lists (s : State) (low : Bool) : ListsKept s { s with resetLow := low } :=
  .of_fields rfl (fun _ => id) id rfl id le_rfl rfl

theorem endReset_lists (s : State) (rateHigh : Bool) : ListsKept s (endReset s rateHigh) := by
  unfold endReset
  dsimp only
  refine ListsKept.trans ?_ (report_frame _ _ _ _).lists
  split <;> exact .of_fields rfl (fun _ => id) id rfl id le_rfl rfl

/-! ## Transmissions and errors -/

theorem signalOwner_lists (s : State) (p : Port) (x : TxSource) (rateHigh : Bool) :
    ListsKept s (signalOwner s p x rateHigh) := by
  cases x with
  | stop => exact setPort_lists s p _ (by rfl)
  | governed a n => exact (transmitCompleteGoverned_frame s a n).lists
  | forwarded => exact setPort_lists s p _ (by simp)
  | report => exact .of_fields rfl (fun _ => id) (by simp only [signalOwner, List.length_tail]; omega) rfl id le_rfl rfl
  | reply =>
    have sent : ListsKept s { s with replies := s.replies.tail } := .of_fields rfl (fun _ => id) id rfl id (by simp) rfl
    unfold signalOwner replySent
    dsimp only
    split
    · exact (sent.trans (warmValues_lists _)).trans (endReset_lists _ rateHigh)
    · exact sent
  | status => exact .of_fields rfl (fun _ => id) id rfl (by simp only [signalOwner, List.length_tail]; omega) le_rfl rfl
  | replaced => rfl

theorem transmitComplete_lists (s : State) (p : Port) (rateHigh : Bool) : ListsKept s (transmitComplete s p rateHigh) := by
  unfold transmitComplete
  split
  · rfl
  · exact (setPort_lists s p _ (by rfl)).trans (signalOwner_lists _ p _ rateHigh)

theorem lostArbitration_lists (s : State) (p : Port) (winner : Option Frame) : ListsKept s (lostArbitration s p winner) := by
  have stopped : ListsKept s (stopSending s p) := setPort_lists s p _ (by rfl)
  unfold lostArbitration
  split
  · rfl
  split
  · exact stopped
  · exact stopped.trans (receiveUnder_lists _ p _ _)

theorem enterBusOff_lists (s : State) (p : Port) : ListsKept s (enterBusOff s p) := by
  have entered := (((setPort_lists s p { s.port p with recovery := 0 } le_rfl).trans
    (countPort_lists _ p (fun c => { c with busOff := bump c.busOff }))).trans
    (report_frame _ .busState p.code 1).lists).trans (capture_frame _ .busOff p.code).lists
  cases p
  · exact entered
  · exact entered.trans (machineBusOff_frame _).lists

theorem transmissionError_lists (s : State) (p : Port) (unseen : Bool) : ListsKept s (transmissionError s p unseen) := by
  unfold transmissionError
  split
  · rfl
  split
  · exact setPort_lists s p _ (by rfl)
  · dsimp only
    have counted := setPort_lists s p { s.port p with txErrors := (s.port p).txErrors + 8, sending := none } le_rfl
    split
    · exact counted.trans (enterBusOff_lists _ p)
    · exact counted

theorem leaveBusOff_lists (s : State) (p : Port) : ListsKept s (leaveBusOff s p) := by
  have left := (setPort_lists s p { s.port p with txErrors := 0, rxErrors := 0, recovery := 0 } le_rfl).trans
    (report_frame _ .busState p.code 0).lists
  cases p
  · exact left
  · exact left.trans (deliveriesRecovered_frame _).lists

theorem countRecovery_lists (s : State) (p : Port) (runs : Nat) : ListsKept s (countRecovery s p runs) := by
  unfold countRecovery
  split
  · split
    · exact leaveBusOff_lists s p
    · exact setPort_lists s p _ (by rfl)
  · rfl

/-! ## Every command -/

theorem onExpiry_lists (s : State) (t : Timer) {effect : State} (h : ListsKept s effect) : ListsKept s (onExpiry s t effect) := by
  unfold onExpiry
  split
  · exact h
  · rfl

theorem statusExpiry_lists (s : State) : ListsKept s (statusExpiry s) :=
  .of_fields rfl (fun p => by cases p <;> exact id) id rfl (fun _ => le_rfl) le_rfl rfl

theorem effect_lists (c : Instr) (s : State) : ListsKept s (effect c s) := by
  cases c with
  | powerOnReset rateHigh => exact powerOn_lists s rateHigh
  | resetLow => exact (warmValues_lists s).trans (resetLevel_lists _ true)
  | resetHigh rateHigh =>
    unfold effect exec execResetHigh
    dsimp only
    split
    · exact (resetLevel_lists s false).trans (endReset_lists _ rateHigh)
    · rfl
  | transmitStart p =>
    unfold effect exec execTransmitStart transmitStart
    dsimp only
    split
    · exact setPort_lists s p _ (by rfl)
    · rfl
  | transmitComplete p rateHigh => exact transmitComplete_lists s p rateHigh
  | lostArbitration p winner => exact lostArbitration_lists s p winner
  | transmissionError p unseen => exact transmissionError_lists s p unseen
  | receiveError p =>
    unfold effect exec execReceiveError receiveError
    dsimp only
    split
    · exact setPort_lists s p _ (by rfl)
    · rfl
  | busOffRecovery p runs => exact countRecovery_lists s p runs
  | commitCompletion => exact commitCompletion_lists s
  | stopQuietTimerExpiry => exact onExpiry_lists s _ (.of_fields rfl (fun _ => id) id rfl id le_rfl rfl)
  | sensorFreshnessExpiry q => exact onExpiry_lists s _ (becomeStale_frame s q .expiry).lists
  | operatorFreshnessExpiry a => exact onExpiry_lists s _ (operatorExpiry_frame s a).lists
  | rampTimerExpiry a => exact onExpiry_lists s _ (rampExpiry_frame s a).lists
  | echoTimerExpiry a => exact onExpiry_lists s _ (echoExpiry_frame s a).lists
  | refreshTimerExpiry a => exact onExpiry_lists s _ (refreshExpiry_frame s a).lists
  | stallTimerExpiry => exact onExpiry_lists s _ (stallExpiry_frame s).lists
  | recoveryTimerExpiry => exact onExpiry_lists s _ (recoveryExpiry_frame s).lists
  | sequenceTimerExpiry => exact onExpiry_lists s _ (sequenceExpiry_frame s).lists
  | statusTimerExpiry => exact onExpiry_lists s _ (statusExpiry_lists s)
  | _ => exact receiveUnder_lists s _ _ _

/-- Settles O3: `ListsKept` of every command. -/
theorem commandsKeepTheQueue : Obligations.CommandsKeepTheQueue := by
  intro c s t taken
  rw [eq_effect_of_exec taken]
  exact (effect_lists c s).pending

/-- One millisecond moves no list. -/
theorem tick_capacity {s : State} (cap : WithinCapacity s) : WithinCapacity (tick s) := by
  obtain ⟨queues, reports, buffer, pages, replies, taken⟩ := cap
  refine ⟨queues, reports, buffer, pages, ?_, fun f flying => ?_⟩
  · simpa [tick] using replies
  · obtain ⟨g, flies, rfl⟩ := Option.map_eq_some_iff.mp (show s.flight.map Flight.tick = some f from flying)
    exact taken g flies

/-- Settles O55: `ListsKept` of every command, and a millisecond. -/
theorem stepsKeepEveryListWithinCapacity : Obligations.StepsKeepEveryListWithinCapacity := by
  refine step_keeps (fun s cs cap => ?_) (fun s cap => ?_) (fun s => tick_capacity) (fun c s t cap taken => ?_)
  · exact ⟨cap.queues, cap.reports, cap.buffer, cap.pages, cap.replies, cap.taken⟩
  · exact ⟨cap.queues, cap.reports, cap.buffer, cap.pages, cap.replies, cap.taken⟩
  · rw [eq_effect_of_exec taken]
    exact (effect_lists c s).capacity cap

end Sys2Proof.Machine
end

section
/-! The ports: what a transmission takes and empties, the error counts, bus-off and its recovery (R12 to R17, R150), and the warm
reset (R1, R20, R21). -/

namespace Sys2Proof.Machine

open Sys2Proof

/-! ## Candidates and the arbiter (R12) -/

theorem mem_candidateOf (x : Transmission) (source : TxSource) (f : Option Frame) :
    x ∈ candidateOf source f ↔ ∃ g, f = some g ∧ x = ⟨g, source⟩ := by
  cases f <;> simp [candidateOf]

theorem mem_candidateOf_head (x : Transmission) (source : TxSource) (fs : List Frame) :
    x ∈ candidateOf source fs.head? ↔ ∃ f rest, fs = f :: rest ∧ x = ⟨f, source⟩ := by
  cases fs <;> simp [mem_candidateOf]

theorem mem_governedCandidate (s : State) (a : Axis) (x : Transmission) :
    x ∈ governedCandidate s a ↔ (s.delivery a).state = .queued ∧
      x = ⟨governedCommand a (s.delivery a), .governed a (s.delivery a).sequence⟩ := by
  unfold governedCandidate
  split <;> simp_all

theorem exists_axis {P : Axis → Prop} : (∃ a, P a) ↔ P .rotary ∨ P .crowd ∨ P .hoist :=
  ⟨fun ⟨a, h⟩ => by cases a <;> simp [h], by rintro (h | h | h) <;> exact ⟨_, h⟩⟩

theorem mem_ownCandidates (s : State) (p : Port) (x : Transmission) :
    x ∈ ownCandidates s p ↔
      (∃ f, (s.port p).stopSlot = some f ∧ x = ⟨f, .stop⟩) ∨
      (p = .machine ∧ ∃ a, (s.delivery a).state = .queued ∧
        x = ⟨governedCommand a (s.delivery a), .governed a (s.delivery a).sequence⟩) ∨
      (p = .operator ∧
        ((∃ f rest, s.reports = f :: rest ∧ x = ⟨f, .report⟩) ∨ (∃ f rest, s.replies = f :: rest ∧ x = ⟨f, .reply⟩) ∨
        (∃ f rest, s.statusSlot = f :: rest ∧ x = ⟨f, .status⟩))) := by
  cases p
  · simp only [ownCandidates, List.mem_append, mem_candidateOf_head, reduceCtorEq, false_and, false_or, true_and, or_assoc]
    rw [mem_candidateOf]
  · simp only [ownCandidates, List.mem_append, mem_governedCandidate, exists_axis, reduceCtorEq, false_and, or_false, true_and,
      or_assoc]
    rw [mem_candidateOf]

theorem mem_candidates (s : State) (p : Port) (x : Transmission) :
    x ∈ candidates s p ↔ x ∈ ownCandidates s p ∨ ∃ f rest, (s.port p).queue = f :: rest ∧ x = ⟨f, .forwarded⟩ := by
  rw [candidates, List.mem_append, mem_candidateOf_head]

/-- The arbiter offers nothing only where there is no candidate. -/
theorem lowest_eq_none {cs : List Candidate} (none : lowest cs = none) : cs = [] := by
  cases cs with
  | nil => rfl
  | cons c cs =>
    simp only [lowest] at none
    split at none
    · cases none
    · split at none <;> cases none

/-- The candidate offered is one of the candidates, of lowest identifier, and no candidate before it has its identifier. -/
theorem lowest_eq_some {cs : List Candidate} {b : Candidate} (best : lowest cs = some b) :
    ∃ before after, cs = before ++ b :: after ∧ (∀ c ∈ cs, b.frame.id ≤ c.frame.id) ∧
      ∀ c ∈ before, c.frame.id ≠ b.frame.id := by
  induction cs generalizing b with
  | nil => cases best
  | cons c cs ih =>
    simp only [lowest] at best
    split at best
    · next empty =>
      cases best
      rw [lowest_eq_none empty]
      exact ⟨[], [], rfl, by simp, by simp⟩
    · next d lowestRest =>
      obtain ⟨before, after, split_, least, first⟩ := ih lowestRest
      split at best
      · next notAbove =>
        cases best
        refine ⟨[], cs, rfl, fun x member => ?_, by simp⟩
        obtain rfl | inRest := List.mem_cons.mp member
        · rfl
        · exact notAbove.trans (least x inRest)
      · next above =>
        cases best
        have lower : b.frame.id < c.frame.id := not_le.mp above
        refine ⟨c :: before, after, by rw [split_]; rfl, fun x member => ?_, fun x member => ?_⟩
        · obtain rfl | inRest := List.mem_cons.mp member
          · exact lower.le
          · exact least x inRest
        · obtain rfl | inBefore := List.mem_cons.mp member
          · exact lower.ne'
          · exact first x inBefore

/-- Every candidate of a port's own comes from elsewhere than the forwarding queue. -/
theorem ownCandidates_source {s : State} {p : Port} {x : Transmission} (member : x ∈ ownCandidates s p) :
    x.source ≠ .forwarded := by
  rw [mem_ownCandidates] at member
  obtain ⟨f, -, rfl⟩ | ⟨-, a, -, rfl⟩ | ⟨-, ⟨f, rest, -, rfl⟩ | ⟨f, rest, -, rfl⟩ | ⟨f, rest, -, rfl⟩⟩ := member <;> simp

/-- A frame from the forwarding queue is offered only with no own frame of its identifier (R12). -/
theorem offered_forwarded {s : State} {p : Port} {b : Transmission} (best : offered s p = some b)
    (source : b.source = .forwarded) : ∀ c ∈ ownCandidates s p, c.frame.id ≠ b.frame.id := by
  obtain ⟨before, after, split_, -, first⟩ := lowest_eq_some best
  intro c member
  obtain ⟨l, eq, -⟩ | ⟨l, own, rest⟩ := List.append_eq_append_iff.mp split_
  · exact first c (eq ▸ List.mem_append_left _ member)
  · cases l with
    | nil =>
      rw [List.append_nil] at own
      exact first c (own ▸ member)
    | cons d l =>
      obtain ⟨rfl, -⟩ := List.cons.inj rest
      exact absurd source (ownCandidates_source (s := s) (p := p) (by rw [own]; simp))

theorem mayStart_of {s : State} {p : Port} (takes : takesPart s p = true) (free : (s.port p).sending = none) :
    mayStart s p = true := by
  simp [mayStart, takes, free]

theorem exec_transmitStart (s : State) (p : Port) (takes : takesPart s p = true) (free : (s.port p).sending = none) :
    exec (.transmitStart p) s = .next (s.setPort p { s.port p with sending := offered s p }) := by
  show Host.Outcome.next (transmitStart s p) = _
  rw [transmitStart, if_pos (mayStart_of takes free)]

theorem lostArbitration_of_sending {s : State} {p : Port} {x : Transmission} (sending : (s.port p).sending = some x)
    (winner : Option Frame) :
    lostArbitration s p winner =
      match winner with
      | none => stopSending s p
      | some f => receive (stopSending s p) p f := by
  simp only [lostArbitration, sending] <;> rfl

/-- Settles O6: membership of `mem_ownCandidates`, the choice of `lowest_eq_some`, and the winner received as any frame. -/
theorem transmissionsStartAndLoseArbitration : Obligations.TransmissionsStartAndLoseArbitration := by
  refine ⟨?members, fun s p takes free => ?_, ?lost⟩
  case members =>
    intro s p x own
    exact ⟨mem_ownCandidates s p x, by rw [mem_candidates, mem_ownCandidates]⟩
  case lost =>
    intro s p x sending u
    refine ⟨congrArg _ (lostArbitration_of_sending sending none), fun f => ⟨receive u p f, ?_, rfl⟩⟩
    exact congrArg _ (lostArbitration_of_sending sending (some f))
  · refine ⟨offered s p, exec_transmitStart s p takes free, lowest_eq_none, fun b best => ?_⟩
    obtain ⟨before, after, split_, least, -⟩ := lowest_eq_some best
    exact ⟨by rw [split_]; simp, least, offered_forwarded best⟩

/-! ## A frame sent (R13, R14, R142) -/

@[simp] theorem State.setPort_setPort (s : State) (p : Port) (r q : PortRecord) : (s.setPort p r).setPort p q = s.setPort p q := by
  cases p <;> rfl

theorem exec_transmitComplete {s : State} {p : Port} {x : Transmission} (sending : (s.port p).sending = some x)
    (rateHigh : Bool) :
    exec (.transmitComplete p rateHigh) s =
      .next (signalOwner (s.setPort p (s.port p).transmitted) p x.source rateHigh) := by
  show Host.Outcome.next (transmitComplete s p rateHigh) = _
  simp only [transmitComplete, sending]

/-- A governed command sent that is the latest is awaited (R142). -/
theorem sent_of_latest {d : DeliveryRecord} {rig : Table} {n : Nat} (latest : d.state = .queued ∧ d.sequence = n) :
    d.sent rig n = { d with refresh := some (Rig.refreshPeriod rig), state := .await, echo := some (Rig.echoWindow rig) } := by
  rw [DeliveryRecord.sent, if_pos latest]

/-- A governed command sent that has been superseded, or is not queued, loads the refresh timer alone (R142). -/
theorem sent_of_other {d : DeliveryRecord} {rig : Table} {n : Nat} (other : ¬(d.state = .queued ∧ d.sequence = n)) :
    d.sent rig n = { d with refresh := some (Rig.refreshPeriod rig) } := by
  rw [DeliveryRecord.sent, if_neg other]

/-- Settles O7, by the source of the frame sent. -/
theorem transmitCompleteEmptiesTheSource : Obligations.TransmitCompleteEmptiesTheSource := by
  intro s p rateHigh x sending r
  rw [exec_transmitComplete sending]
  obtain ⟨f, source⟩ := x
  have port : (s.setPort p r).port p = r := State.port_setPort_same s p r
  cases source with
  | stop =>
    show Host.Outcome.next ((s.setPort p r).setPort p { (s.setPort p r).port p with stopSlot := none }) = _
    rw [State.setPort_setPort, port]
  | forwarded =>
    show Host.Outcome.next ((s.setPort p r).setPort p { (s.setPort p r).port p with
      queue := ((s.setPort p r).port p).queue.tail, dropMark := false }) = _
    rw [State.setPort_setPort, port]
  | report => rfl
  | status => rfl
  | replaced => rfl
  | reply =>
    intro running
    show Host.Outcome.next (replySent (s.setPort p r) rateHigh) = _
    rw [replySent, if_neg (by simp [running])]
    rfl
  | governed a n =>
    refine ⟨_, rfl, fun isLatest => ?_, fun isOther => ?_⟩
    · have awaited : transmitCompleteGoverned (s.setPort p r) a n = (s.setPort p r).setDelivery a
          { s.delivery a with refresh := some (Rig.refreshPeriod s.tables.rig), state := .await,
                              echo := some (Rig.echoWindow s.tables.rig) } :=
        congrArg _ (sent_of_latest isLatest)
      refine ⟨?_, awaited⟩
      show governedCandidate (transmitCompleteGoverned (s.setPort p r) a n) a = []
      simp [awaited, governedCandidate]
    · have kept : transmitCompleteGoverned (s.setPort p r) a n = (s.setPort p r).setDelivery a
          { s.delivery a with refresh := some (Rig.refreshPeriod s.tables.rig) } :=
        congrArg _ (sent_of_other isOther)
      refine ⟨?_, kept⟩
      show governedCandidate (transmitCompleteGoverned (s.setPort p r) a n) a = _
      simp [kept, governedCandidate]
      rfl

/-! ## Errors (R14, R16) -/

theorem ackExcepted_iff (s : State) (p : Port) (unseen : Bool) :
    ackExcepted s p unseen = true ↔ unseen = true ∧ (s.port p).status = .errorPassive := by
  simp [ackExcepted]

theorem exec_transmissionError_excepted {s : State} {p : Port} {x : Transmission} {unseen : Bool}
    (sending : (s.port p).sending = some x) (excepted : unseen = true ∧ (s.port p).status = .errorPassive) :
    exec (.transmissionError p unseen) s = .next (s.setPort p { s.port p with sending := none }) := by
  show Host.Outcome.next (transmissionError s p unseen) = _
  simp only [transmissionError, sending, (ackExcepted_iff s p unseen).mpr excepted, if_true]
  rfl

theorem exec_transmissionError_counted {s : State} {p : Port} {x : Transmission} {unseen : Bool}
    (sending : (s.port p).sending = some x) (seen : ¬(unseen = true ∧ (s.port p).status = .errorPassive)) :
    let t := s.setPort p { s.port p with txErrors := (s.port p).txErrors + 8, sending := none }
    exec (.transmissionError p unseen) s = .next (if 255 < (s.port p).txErrors + 8 then enterBusOff t p else t) := by
  show Host.Outcome.next (transmissionError s p unseen) = _
  simp only [transmissionError, sending]
  rw [if_neg (mt (ackExcepted_iff s p unseen).mp seen)]

/-- Settles O8. -/
theorem errorsRaiseTheCounts : Obligations.ErrorsRaiseTheCounts := by
  intro s p x unseen
  refine ⟨fun sending seen low => ?_, fun sending passive => ?_, ?busOff, fun takes => ?_⟩
  · rw [exec_transmissionError_counted sending (by tauto), if_neg (by omega)]
  · exact exec_transmissionError_excepted sending ⟨rfl, passive⟩
  case busOff =>
    intro sending seen high r
    rw [exec_transmissionError_counted sending (by tauto), if_pos high]
    rfl
  · show Host.Outcome.next (receiveError s p) = _
    rw [receiveError, if_pos takes]

/-! ## Machine port bus-off (R131, R150, R160) -/

theorem deliveriesBusOff_delivery (s : State) (a : Axis) : (deliveriesBusOff s).delivery a = (s.delivery a).busOff := by
  cases a <;> rfl

/-- In BUS_OFF a neutral exit makes no frame and counts none. -/
theorem changeAxis_busOff_counters (s : State) (a : Axis) (r : AxisRecord) (off : isBusOff s .machine = true) :
    (changeAxis s a r).counters.delivery = s.counters.delivery := by
  have still : isBusOff (reportAxisState (s.setAxis a r) a) .machine = true := off
  rw [changeAxis, handOver, produce_busOff _ a _ _ _ still]
  rfl

theorem neutralise_busOff_counters (c : ExitCause) (s : State) (a : Axis) (off : isBusOff s .machine = true) :
    (neutralise c s a).counters.delivery = s.counters.delivery := by
  obtain hin | hout := (s.axis a).state.inService_or_outOfService
  · rw [neutralise_of_inService c s a hin, changeAxis_busOff_counters s a _ off]
  · rw [neutralise_of_outOfService c s a hout]

theorem neutraliseAll_busOff_counters (c : ExitCause) (s : State) (off : isBusOff s .machine = true) :
    (neutraliseAll s c).counters.delivery = s.counters.delivery := by
  have still (t : State) (a : Axis) (h : isBusOff t .machine = true) : isBusOff (neutralise c t a) .machine = true := by
    have ports := (neutralise_frame c t a).ports
    simpa only [isBusOff, State.port, ports] using h
  show (neutralise c (neutralise c (neutralise c s .rotary) .crowd) .hoist).counters.delivery = _
  rw [neutralise_busOff_counters c _ _ (still _ _ (still _ _ off)), neutralise_busOff_counters c _ _ (still _ _ off),
    neutralise_busOff_counters c _ _ off]

theorem abortSequence_counters_delivery (s : State) (c : AbortCause) :
    (abortSequence s c).counters.delivery = s.counters.delivery := by
  unfold abortSequence
  split <;> rfl

theorem abortSequence_of_idle (s : State) (c : AbortCause) (idle : s.sequencer = .idle) : abortSequence s c = s := by
  rw [abortSequence, if_pos idle]

/-- A bus-off of the machine port at one axis: its delivery cleared, then its neutral exit. -/
theorem machineBusOff_at (s : State) (a : Axis) :
    ∃ u, SameAt a (deliveriesBusOff s) u ∧ SameAt a (neutralise .busOff u a) (machineBusOff s) := by
  obtain ⟨u, before, turn⟩ := neutraliseAll_at (deliveriesBusOff s) .busOff a
  exact ⟨u, before, turn.trans (abortSequence_at _ .busOff a)⟩

theorem machineBusOff_axis_of_inService (s : State) (a : Axis) (hin : (s.axis a).state.inService) :
    (machineBusOff s).axis a = (s.axis a).toNeutralFor .busOff := by
  obtain ⟨u, before, turn⟩ := machineBusOff_at s a
  have same : u.axis a = s.axis a := before.axis
  rw [turn.axis, neutralise_of_inService _ u a (same ▸ hin), changeAxis_axis_same, same]

theorem machineBusOff_axis_of_outOfService (s : State) (a : Axis) (hout : (s.axis a).state.outOfService) :
    (machineBusOff s).axis a = s.axis a := by
  obtain ⟨u, before, turn⟩ := machineBusOff_at s a
  have same : u.axis a = s.axis a := before.axis
  rw [turn.axis, neutralise_of_outOfService _ u a (same ▸ hout), same]

theorem machineBusOff_delivery (s : State) (a : Axis) (off : isBusOff s .machine = true) :
    (machineBusOff s).delivery a = (s.delivery a).busOff := by
  obtain ⟨u, before, turn⟩ := machineBusOff_at s a
  have offU : isBusOff u .machine = true := (before.busOff .machine).trans off
  rw [turn.delivery, neutralise_delivery_kept _ u a (.inr offU), before.delivery, deliveriesBusOff_delivery]

theorem machineBusOff_sequencer (s : State) :
    (machineBusOff s).sequencer = .idle ∧
    (s.sequencer ≠ .idle → (machineBusOff s).sequenceTimer = none ∧ (machineBusOff s).aborts = addAbort s.aborts .busOff) ∧
    (s.sequencer = .idle → (machineBusOff s).sequenceTimer = s.sequenceTimer ∧ (machineBusOff s).aborts = s.aborts) := by
  have exits := neutraliseAll_frame (deliveriesBusOff s) .busOff
  by_cases idle : s.sequencer = .idle
  · have stays : machineBusOff s = neutraliseAll (deliveriesBusOff s) .busOff :=
      abortSequence_of_idle _ _ (exits.sequencer.trans idle)
    rw [stays, exits.sequencer, exits.sequenceTimer, exits.aborts]
    exact ⟨idle, fun running => absurd idle running, fun _ => ⟨rfl, rfl⟩⟩
  · have runs : (neutraliseAll (deliveriesBusOff s) .busOff).sequencer ≠ .idle := by rw [exits.sequencer]; exact idle
    obtain ⟨ended, timer, aborts⟩ := abortSequence_of_running _ .busOff runs
    rw [exits.aborts] at aborts
    exact ⟨ended, fun _ => ⟨timer, aborts⟩, fun h => absurd h idle⟩

/-- A port whose transmit count exceeds 255 is in BUS_OFF, so not error-passive (R15, R16). -/
theorem enterBusOff_machine_eq (s : State) (n : Nat) :
    enterBusOff (s.setPort .machine { s.port .machine with txErrors := n, sending := none }) .machine =
      machineBusOff (capture (report ((s.setPort .machine
        { s.port .machine with txErrors := n, sending := none, recovery := 0 }).countPort .machine
          (fun c => { c with busOff := bump c.busOff })) .busState 1 1) .busOff 1) := by
  rfl

/-- Settles O9: the entry into BUS_OFF hands on to `machineBusOff`, axis by axis. -/
theorem machineBusOffNeutralisesEverything : Obligations.MachineBusOffNeutralisesEverything := by
  intro s x sending high u
  have taken := exec_transmissionError_counted (unseen := false) sending (by simp)
  simp only [high, if_true, enterBusOff_machine_eq] at taken
  let v := capture (report u .busState 1 1) .busOff 1
  have off : isBusOff v .machine = true := (isBusOff_iff v .machine).mpr (by simpa [v, u] using high)
  have frame := machineBusOff_frame v
  have entered : SameTracking { u with machineFault := FaultRecord.offer s.machineFault (freshFault s .busOff 1) } v :=
    (report_frame { u with machineFault := FaultRecord.offer s.machineFault (freshFault s .busOff 1) } .busState 1 1).toSameTracking
  obtain ⟨idle, running, resting⟩ := machineBusOff_sequencer v
  have cleared := machineBusOff_delivery v (off := off)
  refine ⟨machineBusOff v, taken, entered.trans frame,
    ((report_counts u _ _ _).trans (capture_counts _ _ _)).trans (machineBusOff_counts v), ?_, ?_, cleared,
    machineBusOff_axis_of_inService v, machineBusOff_axis_of_outOfService v, idle, running, resting⟩
  · have counts := neutraliseAll_busOff_counters .busOff (deliveriesBusOff v) off
    rw [machineBusOff, abortSequence_counters_delivery, counts]
    rfl
  · exact frame.grows

/-! ## Recovery (R17, R150) -/

theorem exec_busOffRecovery {s : State} {p : Port} (runs : Nat) (high : s.resetLow = false) (off : 255 < (s.port p).txErrors) :
    exec (.busOffRecovery p runs) s = .next
      (if 128 ≤ (s.port p).recovery + runs then leaveBusOff s p
        else s.setPort p { s.port p with recovery := (s.port p).recovery + runs }) := by
  show Host.Outcome.next (countRecovery s p runs) = _
  rw [countRecovery, if_pos (by simp [high, (isBusOff_iff s p).mpr off])]

/-- A refresh hand-off with the machine port not in BUS_OFF always makes a new frame (R140, R148). -/
theorem produce_refresh (s : State) (a : Axis) (g : Int) (m : Mode) (connected : isBusOff s .machine = false) :
    produce s a g m true = newFrame s a g m := by
  simp [produce, connected]

/-- The new frame of the latest G and mode at one axis. -/
theorem handOver_refresh_delivery (s : State) (a : Axis) (connected : isBusOff s .machine = false) :
    (s.governor = .govern →
      (handOver s a true).delivery a = (s.delivery a).renewed (s.axis a).governed (s.axis a).state.mode) ∧
    (s.governor ≠ .govern → (handOver s a true).delivery a = (s.delivery a).renewed 0 .neutral) := by
  rw [handOver, produce_refresh s a _ _ connected, newFrame_delivery_same]
  exact ⟨fun govern => by rw [if_pos govern, if_pos govern]; rfl, fun other => by rw [if_neg other, if_neg other]; rfl⟩

/-- What a hand-off reads and what it leaves to the other axes. -/
theorem handOver_other (s : State) (a b : Axis) (r : Bool) (h : b ≠ a) : SameAt b s (handOver s a r) :=
  ⟨by rw [State.axis, handOver_axes]; rfl, handOver_delivery_other s a b r h, (handOver_frame s a r).ports⟩

theorem handOver_same (s : State) (a b : Axis) (r : Bool) : (handOver s a r).axis b = s.axis b := by
  rw [State.axis, handOver_axes]; rfl

theorem deliveriesRecovered_of_invalid (s : State) (invalid : s.tables.rig.valid = false) : deliveriesRecovered s = s := by
  simp [deliveriesRecovered, invalid]

theorem deliveriesRecovered_of_valid (s : State) (valid : s.tables.rig.valid = true) :
    deliveriesRecovered s = handOver (handOver (handOver s .rotary true) .crowd true) .hoist true := by
  rw [deliveriesRecovered, if_pos valid]
  rfl

theorem deliveriesRecovered_axes (s : State) : (deliveriesRecovered s).axes = s.axes := by
  cases valid : s.tables.rig.valid
  · rw [deliveriesRecovered_of_invalid s valid]
  · rw [deliveriesRecovered_of_valid s valid, handOver_axes, handOver_axes, handOver_axes]

theorem deliveriesRecovered_reports (s : State) : (deliveriesRecovered s).reports = s.reports := by
  cases valid : s.tables.rig.valid
  · rw [deliveriesRecovered_of_invalid s valid]
  · rw [deliveriesRecovered_of_valid s valid, handOver_reports, handOver_reports, handOver_reports]

/-- Hand-offs of all three axes leave the governor state, which each reads. -/
theorem deliveriesRecovered_delivery (s : State) (a : Axis) (valid : s.tables.rig.valid = true)
    (connected : isBusOff s .machine = false) :
    (s.governor = .govern →
      (deliveriesRecovered s).delivery a = (s.delivery a).renewed (s.axis a).governed (s.axis a).state.mode) ∧
    (s.governor ≠ .govern → (deliveriesRecovered s).delivery a = (s.delivery a).renewed 0 .neutral) := by
  have turn (t : State) (at_ : SameAt a s t) (governor : t.governor = s.governor) := by
    have h := handOver_refresh_delivery t a ((at_.busOff .machine).trans connected)
    rw [governor, at_.axis, at_.delivery] at h
    exact h
  rw [deliveriesRecovered_of_valid s valid]
  cases a with
  | rotary =>
    rw [handOver_delivery_other _ .hoist .rotary true (by decide), handOver_delivery_other _ .crowd .rotary true (by decide)]
    exact turn s (.refl _ _) rfl
  | crowd =>
    rw [handOver_delivery_other _ .hoist .crowd true (by decide)]
    exact turn _ (handOver_other s .rotary .crowd true (by decide)) (handOver_frame s .rotary true).governor
  | hoist =>
    have first := handOver_other s .rotary .hoist true (by decide)
    exact turn _ (first.trans (handOver_other _ .crowd .hoist true (by decide)))
      ((handOver_frame _ .crowd true).governor.trans (handOver_frame s .rotary true).governor)

/-- Settles O10. -/
theorem busOffIsLeftAfter128Runs : Obligations.BusOffIsLeftAfter128Runs := by
  intro s p runs high off n back
  rw [exec_busOffRecovery runs high off]
  refine ⟨fun short => ?_, fun reached operator => ?_, fun reached machine => ?_⟩
  · rw [if_neg (by omega)]
  · subst operator
    rw [if_pos reached]
    rfl
  · subst machine
    rw [if_pos reached]
    have connected : isBusOff back .machine = false := by
      rw [← Bool.not_eq_true, isBusOff_iff]
      simp [back]
    refine ⟨deliveriesRecovered back, rfl, deliveriesRecovered_frame back, deliveriesRecovered_counts back,
      deliveriesRecovered_axes back, deliveriesRecovered_reports back, fun invalid => ?_, fun valid govern a => ?_,
      fun valid other a => ?_⟩
    · rw [deliveriesRecovered_of_invalid back invalid]
      rfl
    · exact (deliveriesRecovered_delivery back a valid connected).1 govern
    · exact (deliveriesRecovered_delivery back a valid connected).2 other

/-! ## The warm reset (R1, R20, R21) -/

theorem exec_resetHigh_of_low {s : State} (rateHigh : Bool) (low : s.resetLow = true) :
    exec (.resetHigh rateHigh) s = .next (endReset { s with resetLow := false } rateHigh) := by
  show Host.Outcome.next (if s.resetLow then endReset { s with resetLow := false } rateHigh else s) = _
  rw [if_pos low]

theorem endReset_of_valid {s : State} (rateHigh : Bool) (valid : s.tables.rig.valid = true) :
    endReset s rateHigh = report { loadRefresh { s with bitRate := rateOf rateHigh } with
      statusTimer := statusReload s.tables.rig } .governorState 0 5 := by
  simp only [endReset, valid, if_true]
  rfl

theorem endReset_of_invalid {s : State} (rateHigh : Bool) (invalid : s.tables.rig.valid = false) :
    endReset s rateHigh = report { s with bitRate := rateOf rateHigh } .governorState 0 5 := by
  simp only [endReset, invalid, Bool.false_eq_true, if_false]
  rfl

/-- The values of a warm reset do not depend on what has just been sent. -/
theorem warmValues_of_sent (s : State) (r : PortRecord) (high : s.resetLow = false) :
    warmValues { s.setPort .operator r with replies := s.replies.tail } = { warmValues s with resetLow := false } := by
  rw [← high]
  rfl

/-- Settles O5. -/
theorem resetPulseIsAWarmReset : Obligations.ResetPulseIsAWarmReset := by
  refine ⟨fun s => rfl, ?pulse, fun s rateHigh x high waits sending reply => ?_⟩
  case pulse =>
    intro rateHigh s rate period status
    refine ⟨fun low valid => ?_, fun low invalid => ?_, fun high => ?_⟩
    · rw [exec_resetHigh_of_low rateHigh low, endReset_of_valid (s := { s with resetLow := false }) rateHigh valid]
      rfl
    · rw [exec_resetHigh_of_low rateHigh low, endReset_of_invalid (s := { s with resetLow := false }) rateHigh invalid]
      rfl
    · show Host.Outcome.next (if s.resetLow then endReset { s with resetLow := false } rateHigh else s) = _
      rw [if_neg (by simp [high])]
  · refine ⟨{ warmValues s with resetLow := true }, _, rfl, exec_resetHigh_of_low rateHigh rfl, ?_⟩
    rw [exec_transmitComplete sending, reply]
    show Host.Outcome.next (replySent (s.setPort .operator (s.port .operator).transmitted) rateHigh) = _
    have restarts : (s.setPort .operator (s.port .operator).transmitted).restarting = true := waits
    rw [replySent, if_pos restarts]
    exact congrArg (fun t => Host.Outcome.next (endReset t rateHigh)) (warmValues_of_sent s _ high)

end Sys2Proof.Machine
end

section
/-! Frames as they are received: the classifier (R5, R6), payloads that only count (R7, R35 to R38, R122, R143), STOP frames (R9, R25
to R28), and management frames turned away (R7, R163). -/

namespace Sys2Proof.Machine

open Sys2Proof

/-! ## The classifier (R5, R6) -/

theorem classify_of_standard (s : State) (p : Port) (map : Option (List Nat)) (f : Frame) (base : f.extended = false)
    (data : f.remote = false) :
    classify s p map f = match p with
      | .operator => classifyOperator s.channel f
      | .machine => classifyMachine map f := by
  unfold classify
  rw [if_neg (by simp [base, data])] <;> rfl

theorem classifyOperator_class (c : Channel) (f : Frame) :
    (f.id / 128 = 0 → classifyOperator c f = .stop) ∧ (f.id / 128 = 1 → classifyOperator c f = .foreign) ∧
    (f.id / 128 = 2 → classifyOperator c f = .foreign) ∧
    (f.id / 128 = 3 → classifyOperator c f = match axisOfChannel (f.id % 128) with
      | some a => .command a
      | none => .forward) ∧
    (f.id / 128 = 8 → classifyOperator c f = if f.id % 128 = c.toNat then .management else .forward) ∧
    ((f.id / 128 = 4 ∨ f.id / 128 = 5 ∨ f.id / 128 = 6 ∨ f.id / 128 = 7 ∨ 9 ≤ f.id / 128) →
      classifyOperator c f = .forward) := by
  refine ⟨fun h => ?_, fun h => ?_, fun h => ?_, fun h => ?_, fun h => ?_, fun h => ?_⟩
  case refine_6 =>
    unfold classifyOperator Frame.cls
    split <;> first | rfl | omega
  all_goals simp only [classifyOperator, Frame.cls, Frame.chan, h] <;> rfl

theorem classifyMachine_class (map : Option (List Nat)) (f : Frame) :
    (f.id / 128 = 0 → classifyMachine map f = .stop) ∧ (f.id / 128 = 1 → classifyMachine map f = .foreign) ∧
    (f.id / 128 = 2 → classifyMachine map f = match axisOfChannel (f.id % 128) with
      | some a => .echo a
      | none => .forward) ∧
    (f.id / 128 = 3 → classifyMachine map f = .foreign) ∧
    (f.id / 128 = 4 → classifyMachine map f = match mappedQuantity map (f.id % 128) with
      | some q => .snoop q
      | none => .forward) ∧
    (5 ≤ f.id / 128 → classifyMachine map f = .forward) := by
  refine ⟨fun h => ?_, fun h => ?_, fun h => ?_, fun h => ?_, fun h => ?_, fun h => ?_⟩
  case refine_6 =>
    unfold classifyMachine Frame.cls
    split <;> first | rfl | omega
  all_goals simp only [classifyMachine, Frame.cls, Frame.chan, h] <;> rfl

theorem axisOfChannel_code (a : Axis) : axisOfChannel a.code = some a := by cases a <;> rfl

theorem axisOfChannel_of_le {ch : Nat} (other : 3 ≤ ch) : axisOfChannel ch = none := by
  unfold axisOfChannel
  split <;> first | omega | rfl

/-- Settles O11, by the class of the frame at each port. -/
theorem classifierFollowsTheTables : Obligations.ClassifierFollowsTheTables := by
  intro s map f
  refine ⟨fun other p => ?_, fun base data => ?_⟩
  · unfold classify
    rw [if_pos (by simpa using other)]
  have operator := classify_of_standard s .operator map f base data
  have machine := classify_of_standard s .machine map f base data
  obtain ⟨o0, o1, o2, o3, o8, oRest⟩ := classifyOperator_class s.channel f
  obtain ⟨m0, m1, m2, m3, m4, mRest⟩ := classifyMachine_class map f
  refine ⟨fun h p => ?_, fun h p => ?_, fun h => operator.trans (o2 h), fun h none => ?_, fun a h channel => ?_,
    fun h => machine.trans (m3 h), fun h none => ?_, fun a h channel => ?_, fun h => operator.trans (oRest (by omega)),
    fun h none => ?_, fun q h mapped => ?_, fun h channel => ?_, fun h channel => ?_,
    fun h => machine.trans (mRest (by omega)), fun h p => ?_⟩
  · cases p
    · exact operator.trans (o0 h)
    · exact machine.trans (m0 h)
  · cases p
    · exact operator.trans (o1 h)
    · exact machine.trans (m1 h)
  · exact machine.trans ((m2 h).trans (by rw [axisOfChannel_of_le none]))
  · exact machine.trans ((m2 h).trans (by rw [channel, axisOfChannel_code]))
  · exact operator.trans ((o3 h).trans (by rw [axisOfChannel_of_le none]))
  · exact operator.trans ((o3 h).trans (by rw [channel, axisOfChannel_code]))
  · exact machine.trans ((m4 h).trans (by rw [none]))
  · exact machine.trans ((m4 h).trans (by rw [mapped]))
  · exact operator.trans ((o8 h).trans (if_pos channel))
  · exact operator.trans ((o8 h).trans (if_neg channel))
  · cases p
    · exact operator.trans (oRest (by omega))
    · exact machine.trans (mRest (by omega))

/-! ## STOP frames (R9, R25 to R28) -/

theorem exec_stopFrame (s : State) (p : Port) (ch : Channel) (payload : List Byte) (takes : takesPart s p = true) :
    exec (.stopFrame p ch payload) s =
      .next (governorStop (relayStop (heard s p) p (ownFrame 0 ch.toNat payload)) p ch.toNat) :=
  congrArg Host.Outcome.next (stopFrame_eq s p ch payload takes)

theorem governorStop_of_stopped {s : State} (p : Port) (id : Nat) (stopped : s.governor = .stopped) :
    governorStop s p id = { s with quiet := some (stopQuietPeriod s) } := by
  rw [governorStop, if_pos stopped]

theorem governorStop_of_running {s : State} (p : Port) (id : Nat) (running : s.governor ≠ .stopped) :
    governorStop s p id = neutralRewriteAll (leaveService
      { changeGovernor (report s .stopSeen p.code id) .stopped (stopDetail p) with
        quiet := some (stopQuietPeriod s) } .stop .stop) := by
  rw [governorStop, if_neg running]

/-- The relay of a STOP leaves the port of arrival. -/
theorem relayStop_eq (s : State) (p : Port) (ch : Channel) (payload : List Byte) :
    relayStop (heard s p) p (ownFrame 0 ch.toNat payload) = (heard s p).setPort p.other { s.port p.other with
      stopSlot := (s.port p.other).stopSlot.or (some ⟨false, false, ch.toNat, payload.length, payload⟩) } := by
  have other : (heard s p).port p.other = s.port p.other := State.port_setPort_other s p _ _ (by cases p <;> decide)
  have frame : ownFrame 0 ch.toNat payload = ⟨false, false, ch.toNat, payload.length, payload⟩ := by simp [ownFrame]
  rw [relayStop, other, frame]

/-- What leaves service from a state that differs from `s` outside axes, deliveries, sequencer and bus-off alone has left it
from `s`. -/
theorem LeftService.of_same {s u t : State} {exit : ExitCause} {abort : AbortCause} (left : LeftService u t exit abort)
    (axes : u.axes = s.axes) (deliveries : u.deliveries = s.deliveries) (sequencer : u.sequencer = s.sequencer)
    (timer : u.sequenceTimer = s.sequenceTimer) (aborts : u.aborts = s.aborts)
    (off : isBusOff u .machine = isBusOff s .machine) : LeftService s t exit abort := by
  obtain ⟨hin, hout, idle, aborted, notAborted, neutral, keptNeutral, keptIdle⟩ := left
  simp only [State.axis, State.delivery, axes, deliveries, sequencer, timer, aborts, off] at *
  exact ⟨hin, hout, idle, aborted, notAborted, neutral, keptNeutral, keptIdle⟩

/-- An event stands in the report queue by the queue, the levels, the channel and the time. -/
theorem reportsAfter_congr {s u : State} (tables : u.tables = s.tables) (reports : u.reports = s.reports)
    (channel : u.channel = s.channel) (millis : u.millis = s.millis) (k : EventKind) (i : Nat) (d : Int) :
    reportsAfter u k i d = reportsAfter s k i d := by
  have level : reportLevel u k = reportLevel s k := by rw [reportLevel, reportLevel, tables]
  rw [reportsAfter, reportsAfter, reportFrame, reportFrame, level, reports, channel, millis]

/-- The entry into STOPPED, as `leaveService_rewrite_leftService` says, with its two events first (R25 to R28). -/
theorem governorStop_entry {s : State} (p : Port) (id : Nat) (running : s.governor ≠ .stopped) :
    let t := governorStop s p id
    SameTracking { s with governor := .stopped, quiet := some (stopQuietPeriod s), choices := t.choices } t ∧
    SameCounts s t ∧ LeftService s t .stop .stop ∧
    reportsAfter (report s .stopSeen p.code id) .governorState 2 (stopDetail p).code <+: t.reports := by
  rw [governorStop_of_running p id running]
  let v := { changeGovernor (report s .stopSeen p.code id) .stopped (stopDetail p) with quiet := some (stopQuietPeriod s) }
  have entry : SameTracking { v with choices := (neutralRewriteAll (leaveService v .stop .stop)).choices }
      (neutralRewriteAll (leaveService v .stop .stop)) :=
    (leaveService_frame v .stop .stop).trans_choices (neutralRewriteAll_frame _).toSameTracking
  have told (c : Nat) : SameTracking
      { s with governor := .stopped, quiet := some (stopQuietPeriod s), choices := c } { v with choices := c } :=
    ((report_frame { s with governor := .stopped, quiet := some (stopQuietPeriod s), choices := c } .stopSeen p.code id).trans
      (report_frame _ .governorState 2 (stopDetail p).code)).toSameTracking
  have counts : SameCounts s v := (report_counts s .stopSeen p.code id).trans
    ((changeGovernor_counts (report s .stopSeen p.code id) .stopped (stopDetail p)).trans (SameCounts.same rfl))
  have left : LeftService s (neutralRewriteAll (leaveService v .stop .stop)) .stop .stop :=
    (leaveService_rewrite_leftService v .stop .stop).of_same rfl rfl rfl rfl rfl rfl
  exact ⟨(told _).trans entry, counts.trans ((leaveService_counts v .stop .stop).trans (neutralRewriteAll_counts _)), left,
    entry.grows⟩

/-- Settles O13: from HOLD and GOVERN the entry of `governorStop_entry`, in STOPPED the quiet timer alone. -/
theorem stopFrameStops : Obligations.StopFrameStops := by
  refine ⟨fun s p ch payload takes running => ?_, fun s p ch payload takes stopped => ?_⟩
  · rw [exec_stopFrame s p ch payload takes, relayStop_eq]
    generalize relayed : (heard s p).setPort p.other { s.port p.other with
      stopSlot := (s.port p.other).stopSlot.or (some ⟨false, false, ch.toNat, payload.length, payload⟩) } = u
    have off : isBusOff u .machine = isBusOff s .machine := by
      rw [Bool.eq_iff_iff, isBusOff_iff, isBusOff_iff, ← relayed]
      cases p <;> exact Iff.rfl
    have running' : u.governor ≠ .stopped := relayed ▸ running
    obtain ⟨kept, counts, left, told⟩ := governorStop_entry p ch.toNat running'
    have quiet : stopQuietPeriod u = if s.tables.rig.valid then Rig.stopQuiet s.tables.rig else 500 := relayed ▸ rfl
    have same : SameCounts s u := SameCounts.same (relayed ▸ rfl)
    refine ⟨_, rfl, quiet ▸ kept, same.trans counts,
      left.of_same (relayed ▸ rfl) (relayed ▸ rfl) (relayed ▸ rfl) (relayed ▸ rfl) (relayed ▸ rfl) off, ?_⟩
    have first := reportsAfter_congr (s := s) (u := u) (relayed ▸ rfl) (relayed ▸ rfl) (relayed ▸ rfl) (relayed ▸ rfl)
      .stopSeen p.code ch.toNat
    rw [reportsAfter_congr (s := report s .stopSeen p.code ch.toNat) (u := report u .stopSeen p.code ch.toNat)
      (relayed ▸ rfl) first (relayed ▸ rfl) (relayed ▸ rfl)] at told
    cases p <;> exact told
  · rw [exec_stopFrame s p ch payload takes, relayStop_eq, governorStop_of_stopped]
    · rfl
    · exact stopped

/-! ## Payloads that only count -/

theorem exec_operatorCommand (s : State) (a : Axis) (payload : List Byte) (takes : takesPart s .operator = true) :
    exec (.operatorCommand a payload) s =
      .next (receiveCommand (heard s .operator) .operator a (ownFrame 3 a.code payload)) :=
  congrArg Host.Outcome.next (operatorCommand_eq s a payload takes)

theorem exec_driverEcho (s : State) (a : Axis) (payload : List Byte) (takes : takesPart s .machine = true) :
    exec (.driverEcho a payload) s = .next (receiveEcho (heard s .machine) .machine a (ownFrame 2 a.code payload)) :=
  congrArg Host.Outcome.next (driverEcho_eq s a payload takes)

theorem isDuplicate_iff (last : Option Nat) (alive : Nat) : isDuplicate last alive = true ↔ last = some alive := by
  simp [isDuplicate]

theorem receiveCommand_of_length {s : State} {p : Port} {a : Axis} {payload : List Byte} (long : payload.length = 4) :
    receiveCommand s p a (ownFrame 3 a.code payload) = takeCommand s a payload := by
  rw [receiveCommand, if_pos (show (ownFrame 3 a.code payload).len = 4 from long)]
  rfl

theorem receiveCommand_of_wrong_length {s : State} {p : Port} {a : Axis} {payload : List Byte} (wrong : payload.length ≠ 4) :
    receiveCommand s p a (ownFrame 3 a.code payload) =
      (countFormat s p).countAxis a (fun c => { c with checkFailures := bump c.checkFailures }) := by
  rw [receiveCommand, if_neg (show ¬(ownFrame 3 a.code payload).len = 4 from wrong)]

theorem takeCommand_of_failed {s : State} {a : Axis} {pl : List Byte} (failed : byteSum pl ≠ 0) :
    takeCommand s a pl = s.countAxis a (fun c => { c with checkFailures := bump c.checkFailures }) := by
  rw [takeCommand, if_pos (by simpa [checkPasses] using failed)]

theorem takeCommand_of_duplicate {s : State} {a : Axis} {pl : List Byte} (sound : byteSum pl = 0)
    (repeated : (s.axis a).lastAlive = some (commandAlive pl)) :
    takeCommand s a pl = s.countAxis a (fun c => { c with duplicates := bump c.duplicates }) := by
  rw [takeCommand, if_neg (by simpa [checkPasses] using sound), if_pos ((isDuplicate_iff _ _).mpr repeated)]

theorem takeCommand_of_new {s : State} {a : Axis} {pl : List Byte} (sound : byteSum pl = 0)
    (new : (s.axis a).lastAlive ≠ some (commandAlive pl)) : takeCommand s a pl = acceptCommand s a pl := by
  rw [takeCommand, if_neg (by simpa [checkPasses] using sound), if_neg (mt (isDuplicate_iff _ _).mp new)]

theorem receiveEcho_of_length {s : State} {p : Port} {a : Axis} {payload : List Byte} (long : payload.length = 4) :
    receiveEcho s p a (ownFrame 2 a.code payload) = takeEcho s a payload := by
  rw [receiveEcho, if_pos (show (ownFrame 2 a.code payload).len = 4 from long)]
  rfl

theorem receiveEcho_of_wrong_length {s : State} {p : Port} {a : Axis} {payload : List Byte} (wrong : payload.length ≠ 4) :
    receiveEcho s p a (ownFrame 2 a.code payload) = countFormat s p := by
  rw [receiveEcho, if_neg (show ¬(ownFrame 2 a.code payload).len = 4 from wrong)]

theorem takeEcho_of_failed {s : State} {a : Axis} {pl : List Byte} (failed : byteSum pl ≠ 0) :
    takeEcho s a pl = s.countDelivery a (fun c => { c with checkFailures := bump c.checkFailures }) := by
  rw [takeEcho, if_pos (by simpa [checkPasses] using failed)]

/-! ### Samples and their copies -/

/-- The frame of a SENSOR SAMPLE. -/
theorem ownFrame_sample (ch : Channel) (payload : List Byte) :
    ownFrame 4 ch.toNat payload = ⟨false, false, 4 * 128 + ch.toNat, payload.length, payload⟩ := rfl

/-- The copy of a sample alone, in the three cases of R10 and R11. -/
theorem copied_eq (s : State) (f : Frame) :
    copied s f =
      if queueFull s .machine && !(s.port .operator).dropMark then forwardFrame (madeChoices (heard s .machine) 1) .machine f
      else forwardFrame (heard s .machine) .machine f := by
  have operator : (heard s .machine).port .operator = s.port .operator := rfl
  obtain room | full := lt_or_ge (s.port .operator).queue.length 32
  · have notFull : queueFull s .machine = false := decide_eq_false (not_le.mpr room)
    rw [if_neg (by simp [notFull]), forwardFrame_of_room _ .machine f (by exact room)]
    simp only [copied, room, if_true]
    rfl
  · have isFull : queueFull s .machine = true := decide_eq_true full
    cases mark : (s.port .operator).dropMark
    · rw [if_pos (by simp [isFull])]
      rw [forwardFrame_of_full _ .machine f (by exact full), dropFrame_of_unmarked _ .machine (by exact mark)]
      simp only [copied, not_lt.mpr full, mark, if_false, Bool.false_eq_true]
      rfl
    · rw [if_neg (by simp)]
      rw [forwardFrame_of_full _ .machine f (by exact full), dropFrame_of_marked _ .machine (by exact mark)]
      simp only [copied, not_lt.mpr full, mark, if_false, if_true]

/-- A sample's two deliveries, where what Sensor Intake does with it commutes with the copy: the state is that of the copy, then
Sensor Intake, in whichever order they were made. -/
theorem snoop_of_commuting {s : State} {q : Quantity} {f : Frame} {act : State → State}
    (acts : ∀ u, u.sensors = s.sensors → u.tables = s.tables → receiveSample u .machine q f = act u)
    (commutes : ∀ u, act (forwardFrame u .machine f) = forwardFrame (act u) .machine f) :
    snoop (heard s .machine) .machine q f = act (copied s f) := by
  have frame (u : State) : (forwardFrame u .machine f).sensors = u.sensors ∧ (forwardFrame u .machine f).tables = u.tables := by
    unfold forwardFrame dropFrame
    split
    · dsimp only
      split <;> exact ⟨rfl, rfl⟩
    · exact ⟨rfl, rfl⟩
  have after (u : State) (sensors : u.sensors = s.sensors) (tables : u.tables = s.tables) :
      receiveSample (forwardFrame u .machine f) .machine q f = act (forwardFrame u .machine f) :=
    acts _ ((frame u).1.trans sensors) ((frame u).2.trans tables)
  rw [copied_eq, snoop]
  show (if queueFull s .machine && !(s.port .operator).dropMark then _ else _ : State) = _
  split
  · split
    · rw [acts (madeChoices (heard s .machine) 1) rfl rfl, ← commutes]
    · exact after _ rfl rfl
  · exact after _ rfl rfl

theorem exec_sensorSample {s : State} {ch : Channel} {payload : List Byte} {early : Bool} {q : Quantity}
    (takes : takesPart s .machine = true)
    (mapped : mappedQuantity (if early then s.earlierMap else sensorMapInForce s) ch.toNat = some q) :
    exec (.sensorSample ch payload early) s =
      .next (snoop (heard s .machine) .machine q (ownFrame 4 ch.toNat payload)) :=
  congrArg Host.Outcome.next (sensorSample_eq s _ ch payload q takes mapped)

theorem receiveSample_of_length {s : State} {q : Quantity} {ch : Channel} {payload : List Byte} (long : payload.length = 8) :
    receiveSample s .machine q (ownFrame 4 ch.toNat payload) = takeSample s q payload := by
  rw [receiveSample, if_pos (show (ownFrame 4 ch.toNat payload).len = 8 from long)]
  rfl

theorem receiveSample_of_wrong_length {s : State} {q : Quantity} {ch : Channel} {payload : List Byte}
    (wrong : payload.length ≠ 8) :
    receiveSample s .machine q (ownFrame 4 ch.toNat payload) =
      (countFormat s .machine).countQuantity q (fun c => { c with checkFailures := bump c.checkFailures }) := by
  rw [receiveSample, if_neg (show ¬(ownFrame 4 ch.toNat payload).len = 8 from wrong)]

/-- Counting at a quantity and forwarding touch different counters. -/
theorem countQuantity_forwardFrame (s : State) (p : Port) (f : Frame) (q : Quantity)
    (g : QuantityCounters → QuantityCounters) :
    (forwardFrame s p f).countQuantity q g = forwardFrame (s.countQuantity q g) p f := by
  unfold forwardFrame
  show (if queueFull s p then dropFrame s p else appendFrame s p f).countQuantity q g =
    if queueFull s p then dropFrame (s.countQuantity q g) p else appendFrame (s.countQuantity q g) p f
  split
  · unfold dropFrame
    show (if (s.port p.other).dropMark then _ else _ : State).countQuantity q g =
      if (s.port p.other).dropMark then _ else _
    split <;> rfl
  · rfl

/-- Counting a format failure and forwarding touch different counters of the port. -/
theorem countFormat_forwardFrame (s : State) (p : Port) (f : Frame) :
    countFormat (forwardFrame s p f) p = forwardFrame (countFormat s p) p f := by
  unfold forwardFrame
  show countFormat (if queueFull s p then dropFrame s p else appendFrame s p f) p =
    if queueFull s p then dropFrame (countFormat s p) p else appendFrame (countFormat s p) p f
  split
  · unfold dropFrame
    show countFormat (if (s.port p.other).dropMark then _ else _ : State) p =
      if (s.port p.other).dropMark then _ else _
    split <;> cases p <;> rfl
  · cases p <;> rfl

theorem takeSample_of_failed {s : State} {q : Quantity} {pl : List Byte} (failed : byteSum pl ≠ 0) :
    takeSample s q pl = s.countQuantity q (fun c => { c with checkFailures := bump c.checkFailures }) := by
  rw [takeSample, if_pos (by simpa [checkPasses] using failed)]

theorem takeSample_of_duplicate {s : State} {q : Quantity} {pl : List Byte} (sound : byteSum pl = 0)
    (repeated : (s.sensor q).lastAlive = some (sampleAlive pl)) :
    takeSample s q pl = s.countQuantity q (fun c => { c with duplicates := bump c.duplicates }) := by
  rw [takeSample, if_neg (by simpa [checkPasses] using sound), if_pos ((isDuplicate_iff _ _).mpr repeated)]

theorem takeSample_of_fault {s : State} {q : Quantity} {pl : List Byte} (sound : byteSum pl = 0)
    (new : (s.sensor q).lastAlive ≠ some (sampleAlive pl)) (fault : sampleStatus pl = .fault) :
    takeSample s q pl = sensorFault s q := by
  rw [takeSample, if_neg (by simpa [checkPasses] using sound), if_neg (mt (isDuplicate_iff _ _).mp new), if_pos fault]

theorem takeSample_of_healthy {s : State} {q : Quantity} {pl : List Byte} (sound : byteSum pl = 0)
    (new : (s.sensor q).lastAlive ≠ some (sampleAlive pl)) (healthy : sampleStatus pl ≠ .fault) :
    takeSample s q pl = if sampleInRange q pl then acceptSample s q pl
      else s.countQuantity q (fun c => { c with rangeErrors := bump c.rangeErrors }) := by
  rw [takeSample, if_neg (by simpa [checkPasses] using sound), if_neg (mt (isDuplicate_iff _ _).mp new), if_neg healthy]
  cases sampleInRange q pl <;> rfl

/-- Settles O17: each refusal is one count at its owner, which the copy of a sample does not touch. -/
theorem refusedPayloadsOnlyCount : Obligations.RefusedPayloadsOnlyCount := by
  refine ⟨fun s a payload => ⟨?commands, ?echoes⟩, ?samples⟩
  case commands =>
    intro takes u
    rw [exec_operatorCommand s a payload takes]
    refine ⟨fun wrong => ?_, fun long failed => ?_, fun long sound repeated => ?_⟩
    · rw [receiveCommand_of_wrong_length wrong]
      rfl
    · rw [receiveCommand_of_length long, takeCommand_of_failed failed]
    · rw [receiveCommand_of_length long, takeCommand_of_duplicate (s := heard s .operator) sound repeated]
  case echoes =>
    intro takes u
    rw [exec_driverEcho s a payload takes]
    refine ⟨fun wrong => ?_, fun long failed => ?_⟩
    · rw [receiveEcho_of_wrong_length wrong]
      rfl
    · rw [receiveEcho_of_length long, takeEcho_of_failed failed]
  case samples =>
    intro s ch payload early q takes mapped u repeated
    rw [exec_sensorSample takes mapped]
    have counted (g : QuantityCounters → QuantityCounters)
        (counts : ∀ v, v.sensors = s.sensors → v.tables = s.tables →
          receiveSample v .machine q (ownFrame 4 ch.toNat payload) = v.countQuantity q g) :
        Host.Outcome.next (snoop (heard s .machine) .machine q (ownFrame 4 ch.toNat payload)) =
          (.next (u.countQuantity q g) : Host.Outcome State Fault Refusal) :=
      congrArg _ (snoop_of_commuting counts (fun v => countQuantity_forwardFrame v .machine _ q g))
    refine ⟨fun wrong => ?_, fun long failed => ?_, fun long sound again => ?_, fun long sound new fault stale => ?_,
      fun long sound new healthy out => ?_⟩
    · refine congrArg _ (snoop_of_commuting (act := fun v => (countFormat v .machine).countQuantity q
        (fun c => { c with checkFailures := bump c.checkFailures }))
        (fun v _ _ => receiveSample_of_wrong_length wrong) (fun v => ?_))
      rw [countFormat_forwardFrame, countQuantity_forwardFrame]
    · exact counted _ (fun v _ _ => (receiveSample_of_length long).trans (takeSample_of_failed failed))
    · refine counted _ (fun v sensors _ => (receiveSample_of_length long).trans (takeSample_of_duplicate sound ?_))
      rw [State.sensor, sensors]
      exact again
    · refine congrArg _ (snoop_of_commuting (act := id) (fun v sensors _ => ?_) (fun _ => rfl))
      have same : v.sensor q = s.sensor q := by rw [State.sensor, sensors]; rfl
      rw [receiveSample_of_length long, takeSample_of_fault sound (by rw [same]; exact new) fault, sensorFault,
        if_pos (by rw [same]; exact stale)]
      rfl
    · refine counted _ (fun v sensors _ => ?_)
      have same : v.sensor q = s.sensor q := by rw [State.sensor, sensors]; rfl
      rw [receiveSample_of_length long, takeSample_of_healthy sound (by rw [same]; exact new) healthy, if_neg (by simp [out])]

/-! ## Management frames turned away (R7, R163) -/

/-- A management row's payload. -/
def managementPayload : Instr → Option (List Byte)
  | .unknownKind payload => some payload
  | .select table row check => some [1, table, row, check]
  | .segment body => some (2 :: body)
  | .commit => some [3]
  | .read table row view => some [4, table, row, view]
  | .release => some [5, 1]
  | .hold => some [5, 2]
  | .stopClear => some [5, 3]
  | .clearFaults => some [5, 4]
  | .clearLoadErrors => some [5, 5]
  | .discardPending => some [5, 6]
  | .clearCounters => some [5, 7]
  | .restart => some [5, 8]
  | _ => none

theorem exec_of_managementPayload {c : Instr} {payload : List Byte} (management : managementPayload c = some payload) (s : State) :
    exec c s = .next (manage s payload) := by
  have inj {pl : List Byte} (is : some pl = some payload) (arm : exec c s = .next (manage s pl)) :
      exec c s = .next (manage s payload) := Option.some.inj is ▸ arm
  cases c with
  | unknownKind | select | segment | commit | read | release | hold | stopClear | clearFaults | clearLoadErrors
  | discardPending | clearCounters | restart => exact inj management rfl
  | _ => cases management

theorem manage_empty (s : State) (takes : takesPart s .operator = true) :
    manage s [] = (heard s .operator).countPort .operator (fun c => { c with format := bump c.format }) := by
  have none_ : (ownFrame 8 s.channel.toNat []).len = 0 := rfl
  rw [manage_eq s [] takes, receiveManagement, if_pos none_]
  rfl

/-- A payload that is of no kind, or not of the length of its kind, carries no request (R163). -/
theorem requestOf_unknown {pl : List Byte}
    (wrong : u8At pl 0 = 0 ∨ 5 < u8At pl 0 ∨ (u8At pl 0 = 1 ∧ pl.length ≠ 4) ∨ (u8At pl 0 = 3 ∧ pl.length ≠ 1) ∨
      (u8At pl 0 = 4 ∧ pl.length ≠ 4)) : requestOf pl = .unknown (u8At pl 0) := by
  unfold requestOf
  dsimp only
  rw [if_neg (by omega), if_neg (by omega), if_neg (by omega), if_neg (by omega), if_neg (by omega)]

theorem controlOf_eq_none {code : Nat} (unknown : code = 0 ∨ 8 < code) : controlOf code = none := by
  unfold controlOf
  split <;> first | omega | rfl

theorem requestOf_unknown_control {pl : List Byte} (kind : u8At pl 0 = 5)
    (wrong : pl.length ≠ 2 ∨ u8At pl 1 = 0 ∨ 8 < u8At pl 1) : requestOf pl = .unknown 5 := by
  unfold requestOf
  simp only [kind]
  by_cases long : pl.length = 2
  · have code := controlOf_eq_none (code := u8At pl 1) (by tauto)
    simp [long, code]
  · simp [long]

theorem replyUnknown_of_empty {s : State} (kind : Nat) (empty : s.replies = []) :
    replyUnknown s kind = { s with
      replies := [statusReply s kind .refused .structure_ 255 255 (if kind = 5 then s.governor.code else 0)] } := by
  rw [replyUnknown, reply, empty]
  rfl

/-- Settles O28. -/
theorem managementFramesTurnedAway : Obligations.ManagementFramesTurnedAway := by
  intro s takes u
  refine ⟨congrArg Host.Outcome.next (manage_empty s takes), fun waits c payload body table row x some_ management => ?_,
    fun empty payload some_ => ?_⟩
  · have discarded {pl : List Byte} (is : managementPayload c = some pl) (nonempty : pl ≠ []) :
        exec c s = .next (u.countPart (fun k => { k with managementDrops := bump k.managementDrops })) := by
      rw [exec_of_managementPayload is, manage_discarded s pl takes waits nonempty]
    obtain rfl | rfl | rfl | rfl | rfl | rfl | rfl | rfl | rfl | rfl | rfl | rfl | rfl := management
    · exact discarded rfl some_
    all_goals exact discarded rfl (by simp)
  · have served : exec (.unknownKind payload) s = .next (serve u (requestOf payload)) :=
      congrArg Host.Outcome.next (manage_served s payload ⟨takes, empty⟩ some_)
    have slot : u.replies = [] := empty
    intro kind
    rw [served]
    refine ⟨fun wrong => ?_, fun isControl wrong => ⟨s.governor.code, ?_⟩⟩
    · have notControl : kind ≠ 5 := by omega
      rw [requestOf_unknown wrong]
      show Host.Outcome.next (replyUnknown u kind) = _
      rw [replyUnknown_of_empty kind slot, if_neg notControl]
      rfl
    · rw [requestOf_unknown_control isControl wrong]
      exact congrArg _ (replyUnknown_of_empty 5 slot)

end Sys2Proof.Machine
end

section
/-! The drives: hand-offs and governed commands (R4, R140, R141), entries into FAULT (R130), hand-backs of ROTARY (R129), echoes and
the delivery timers (R143 to R148), the axis and sequence timers (R128, R160), and CLEAR_FAULTS (R132, R161, R178). -/

namespace Sys2Proof.Machine

open Sys2Proof

/-! ## Hand-offs (R140, R141) -/

/-- What a hand-off leaves of its delivery depends on the delivery record, the machine port and the governor state. -/
theorem produce_delivery_congr {s u : State} {a : Axis} (delivery : u.delivery a = s.delivery a)
    (off : isBusOff u .machine = isBusOff s .machine) (governor : u.governor = s.governor) (g : Int) (m : Mode)
    (refresh : Bool) : (produce u a g m refresh).delivery a = (produce s a g m refresh).delivery a := by
  rw [produce_delivery_same, produce_delivery_same, delivery, off, governor]

theorem produce_of_new {s : State} {a : Axis} {g : Int} {m : Mode} {refresh : Bool} (connected : isBusOff s .machine = false)
    (differs : refresh = true ∨ (s.delivery a).value ≠ g ∨ (s.delivery a).mode ≠ m) :
    produce s a g m refresh = newFrame s a g m := by
  rw [produce, if_neg (by simp [connected]), if_pos differs]

theorem produce_of_same {s : State} {a : Axis} {g : Int} {m : Mode} (value : (s.delivery a).value = g)
    (mode : (s.delivery a).mode = m) : produce s a g m false = s := by
  simp [produce, value, mode]

theorem newFrame_delivery_renewed (s : State) (a : Axis) (g : Int) (m : Mode) :
    (newFrame s a g m).delivery a =
      if s.governor = .govern then (s.delivery a).renewed g m else (s.delivery a).renewed 0 .neutral := by
  rw [newFrame_delivery_same]
  split <;> rfl

/-- In GOVERN a hand-off with the machine port not in BUS_OFF is as `handed` says (R140). -/
theorem produce_delivery_handed {s : State} {a : Axis} {g : Int} {m : Mode} (govern : s.governor = .govern)
    (connected : isBusOff s .machine = false) : (produce s a g m false).delivery a = (s.delivery a).handed g m := by
  by_cases same : (s.delivery a).value = g ∧ (s.delivery a).mode = m
  · rw [produce_of_same same.1 same.2, DeliveryRecord.handed_of_same _ g m same.1 same.2]
  · have differs : (s.delivery a).value ≠ g ∨ (s.delivery a).mode ≠ m := by tauto
    rw [produce_of_new connected (.inr differs), newFrame_delivery_renewed, if_pos govern,
      DeliveryRecord.handed_of_differs _ _ _ differs]

/-- The count of superseded frames (R141). -/
theorem newFrame_superseded (s : State) (a : Axis) (g : Int) (m : Mode) :
    (newFrame s a g m).counters.delivery.get a = (if (s.delivery a).state = .idle then s.counters.delivery.get a
      else { s.counters.delivery.get a with superseded := bump (s.counters.delivery.get a).superseded }) := by
  simp only [newFrame, PerAxis.get_set_same]
  rfl

theorem byteSum_append (a b : List Byte) : byteSum (a ++ b) = byteSum a + byteSum b := by
  induction a with
  | nil => simp [byteSum]
  | cons x a ih => simp only [byteSum, List.cons_append, List.foldr_cons] at ih ⊢; rw [ih, BitVec.add_assoc]

/-- A check byte brings the sum to 0 (R4). -/
theorem byteSum_checked (bs : List Byte) : byteSum (bs ++ [checkByte bs]) = 0 := by
  rw [byteSum_append]
  simp [checkByte, byteSum]

/-- Settles O25. -/
theorem handOffsMakeGovernedCommands : Obligations.HandOffsMakeGovernedCommands := by
  refine ⟨?handOffs, fun a d => ⟨?_, ?_, ?_, byteSum_checked _⟩⟩
  case handOffs =>
    intro s a g m refresh d
    refine ⟨produce_busOff s a g m refresh, fun once value mode => once ▸ produce_of_same value mode,
      fun connected differs => ⟨_, produce_of_new connected differs, newFrame_delivery_renewed s a g m,
        fun b other => ⟨newFrame_delivery_other s a b g m other, ?_⟩, newFrame_superseded s a g m, rfl, rfl, rfl,
        newFrame_frame s a g m⟩⟩
    simp [newFrame, other]
  · cases a <;> rfl
  · rfl
  · rfl

/-! ## An entry into FAULT (R126, R130, R160) -/

/-- The axis record and the event of an entry into FAULT, before it is handed over. -/
def faulted (s : State) (a : Axis) (c : ExitCause) : State :=
  report (s.setAxis a { (s.axis a).toNeutralFor c with state := .fault }) .axisFault a.code c.bit

theorem enterFault_of_known {s : State} {a : Axis} {c : ExitCause} (fault : (s.axis a).state = .fault)
    (known : hasExit (s.axis a).exits c = true) : enterFault s a c = s := by
  simp [enterFault, fault, known]

theorem enterFault_of_fault {s : State} {a : Axis} {c : ExitCause} (fault : (s.axis a).state = .fault)
    (new : hasExit (s.axis a).exits c = false) :
    enterFault s a c =
      report (s.setAxis a { s.axis a with exits := addExit (s.axis a).exits c }) .axisFault a.code c.bit := by
  simp [enterFault, fault, new]

theorem enterFault_of_entry {s : State} {a : Axis} {c : ExitCause} (entry : (s.axis a).state ≠ .fault) :
    enterFault s a c = if (s.axis a).state = .auto then abortSequence (produce (faulted s a c) a 0 .neutral false) .fault
      else produce (faulted s a c) a 0 .neutral false := by
  have record : (faulted s a c).axis a = { (s.axis a).toNeutralFor c with state := .fault } := State.axis_setAxis_same s a _
  have handed : handOver (faulted s a c) a false = produce (faulted s a c) a 0 .neutral false := by rw [handOver, record]; rfl
  rw [← handed, enterFault, if_neg entry]
  rfl

theorem hasExit_iff_addExit (x : BitVec 7) (c : ExitCause) : hasExit x c = true → addExit x c = x := by
  cases c <;> revert x <;> decide

theorem produce_axis (s : State) (a b : Axis) (g : Int) (m : Mode) (refresh : Bool) :
    (produce s a g m refresh).axis b = s.axis b := by rw [State.axis, produce_axes]; rfl

theorem produce_same_at (s : State) (a b : Axis) (g : Int) (m : Mode) (refresh : Bool) (h : b ≠ a) :
    SameAt b s (produce s a g m refresh) :=
  ⟨produce_axis s a b g m refresh, produce_delivery_other s a b g m refresh h, (produce_frame s a g m refresh).ports⟩

theorem faulted_same_at (s : State) (a b : Axis) (c : ExitCause) (h : b ≠ a) : SameAt b s (faulted s a c) :=
  ⟨State.axis_setAxis_other s a b _ h, rfl, rfl⟩

/-- Everything an entry into FAULT does (R126, R130). -/
theorem enterFault_enteredFault (s : State) (a : Axis) (c : ExitCause) : EnteredFault s (enterFault s a c) a c := by
  by_cases fault : (s.axis a).state = .fault
  · have notAuto : (s.axis a).state ≠ .auto := by simp [fault]
    cases known : hasExit (s.axis a).exits c
    · rw [enterFault_of_fault fault known]
      exact {
        entered := fun entry => absurd fault entry
        already := fun _ => State.axis_setAxis_same s a _
        handed := fun entry => absurd fault entry
        notHanded := fun _ => rfl
        others := fun b other => ⟨State.axis_setAxis_other s a b _ other, rfl⟩
        raised := fun _ => List.prefix_rfl
        aborted := fun auto => absurd auto notAuto
        kept := fun _ => ⟨rfl, rfl, rfl⟩ }
    · rw [enterFault_of_known fault known]
      exact {
        entered := fun entry => absurd fault entry
        already := fun _ => by rw [hasExit_iff_addExit _ _ known]
        handed := fun entry => absurd fault entry
        notHanded := fun _ => rfl
        others := fun b _ => ⟨rfl, rfl⟩
        raised := fun new => by simp [fault, known] at new
        aborted := fun auto => absurd auto notAuto
        kept := fun _ => ⟨rfl, rfl, rfl⟩ }
  · have record : (faulted s a c).axis a = { (s.axis a).toNeutralFor c with state := .fault } := State.axis_setAxis_same s a _
    have told : reportsAfter s .axisFault a.code c.bit = (faulted s a c).reports := rfl
    have frame := produce_frame (faulted s a c) a 0 .neutral false
    have at_ (b : Axis) : SameAt b (produce (faulted s a c) a 0 .neutral false) (enterFault s a c) := by
      rw [enterFault_of_entry fault]
      split
      · exact abortSequence_at _ _ b
      · rfl
    exact {
      entered := fun _ => by rw [(at_ a).axis, produce_axis, record]; rfl
      already := fun h => absurd h fault
      handed := fun _ connected => by
        have on : isBusOff (faulted s a c) .machine = false := connected
        rw [(at_ a).delivery, produce_neutral_delivery_same _ a on]; rfl
      notHanded := fun h => by
        have off : isBusOff (faulted s a c) .machine = true := h.resolve_left fault
        rw [(at_ a).delivery, produce_busOff _ _ _ _ _ off]; rfl
      others := fun b other => by
        have through := (faulted_same_at s a b c other).trans
          ((produce_same_at (faulted s a c) a b 0 .neutral false other).trans (at_ b))
        exact ⟨through.axis, through.delivery⟩
      raised := fun _ => by
        rw [told, ← produce_reports (faulted s a c) a 0 .neutral false, enterFault_of_entry fault]
        split
        · exact (abortSequence_frame _ _).grows
        · exact List.prefix_rfl
      aborted := fun auto running => by
        rw [enterFault_of_entry fault, if_pos auto]
        have runs : (produce (faulted s a c) a 0 .neutral false).sequencer ≠ .idle := by rw [frame.sequencer]; exact running
        have ended := abortSequence_of_running _ .fault runs
        rw [frame.aborts] at ended
        exact ended
      kept := fun h => by
        have plain : (enterFault s a c).sequencer = (produce (faulted s a c) a 0 .neutral false).sequencer ∧
            (enterFault s a c).sequenceTimer = (produce (faulted s a c) a 0 .neutral false).sequenceTimer ∧
            (enterFault s a c).aborts = (produce (faulted s a c) a 0 .neutral false).aborts := by
          rw [enterFault_of_entry fault]
          split
          · next auto =>
            have idle : (produce (faulted s a c) a 0 .neutral false).sequencer = .idle := by
              rw [frame.sequencer]
              exact h.resolve_left (fun notAuto => notAuto auto)
            rw [abortSequence_of_idle _ _ idle]
            exact ⟨rfl, rfl, rfl⟩
          · exact ⟨rfl, rfl, rfl⟩
        rw [frame.sequencer, frame.sequenceTimer, frame.aborts] at plain
        exact plain }

/-- What an entry into FAULT reads is the same in two states that differ elsewhere. -/
theorem EnteredFault.of_same {s u t : State} {a : Axis} {c : ExitCause} (entered : EnteredFault u t a c)
    (axes : u.axes = s.axes) (deliveries : u.deliveries = s.deliveries) (ports : u.ports = s.ports)
    (sequencer : u.sequencer = s.sequencer) (timer : u.sequenceTimer = s.sequenceTimer) (aborts : u.aborts = s.aborts)
    (tables : u.tables = s.tables) (reports : u.reports = s.reports) (channel : u.channel = s.channel)
    (millis : u.millis = s.millis) : EnteredFault s t a c := by
  have told := reportsAfter_congr tables reports channel millis .axisFault a.code c.bit
  obtain ⟨entered, already, handed, notHanded, others, raised, aborted, kept⟩ := entered
  have axis (b : Axis) : u.axis b = s.axis b := by rw [State.axis, axes]; rfl
  have delivery (b : Axis) : u.delivery b = s.delivery b := by rw [State.delivery, deliveries]; rfl
  have off : isBusOff u .machine = isBusOff s .machine := by rw [isBusOff, State.port, ports]; rfl
  rw [axis] at entered already handed notHanded raised aborted kept
  rw [delivery] at handed notHanded
  rw [off] at handed notHanded
  rw [told] at raised
  rw [sequencer] at aborted kept
  rw [aborts] at aborted kept
  rw [timer] at kept
  exact ⟨entered, already, handed, notHanded, fun b h => axis b ▸ delivery b ▸ others b h, raised, aborted, kept⟩

/-- A fault of the machine side offered and handed to its axis. -/
theorem driverFaulted_enteredFault (s : State) (a : Axis) (k : FaultKind) (c : ExitCause) :
    EnteredFault s (driverFaulted s a k c) a c :=
  (enterFault_enteredFault (capture s k a.code) a c).of_same rfl rfl rfl rfl rfl rfl rfl rfl rfl rfl

theorem driverFaulted_tracking (s : State) (a : Axis) (k : FaultKind) (c : ExitCause) (side : k.machineSide = true) :
    SameTracking { s with machineFault := FaultRecord.offer s.machineFault (freshFault s k a.code) } (driverFaulted s a k c) := by
  have captured := capture_of_machineSide (s := s) a.code side
  exact captured ▸ enterFault_frame (capture s k a.code) a c

/-! ## Echoes (R143 to R145) -/

theorem matches_iff (d : DeliveryRecord) (pl : List Byte) :
    d.matches_ pl = true ↔ d.sequence = u8At pl 0 % 16 ∧ (d.state = .await ∨ (d.state = .queued ∧ 1 ≤ d.retry)) := by
  simp only [DeliveryRecord.matches_, DeliveryRecord.answerable, echoSequence, Bool.and_eq_true, Bool.or_eq_true, beq_iff_eq,
    decide_eq_true_eq]
  exact ⟨fun h => ⟨h.2.symm, h.1⟩, fun h => ⟨h.2, h.1.symm⟩⟩

theorem takeEcho_of_match {s : State} {a : Axis} {pl : List Byte} (sound : byteSum pl = 0)
    (matched : (s.delivery a).matches_ pl = true) : takeEcho s a pl = matchEcho s a pl := by
  rw [takeEcho, if_neg (by simpa [checkPasses] using sound), if_pos matched]

theorem takeEcho_of_late {s : State} {a : Axis} {pl : List Byte} (sound : byteSum pl = 0)
    (late : (s.delivery a).matches_ pl = false) :
    takeEcho s a pl = s.countDelivery a (fun c => { c with lateEchoes := bump c.lateEchoes }) := by
  rw [takeEcho, if_neg (by simpa [checkPasses] using sound), if_neg (by simp [late])]

theorem matchEcho_of_plain {s : State} {a : Axis} {pl : List Byte} (healthy : echoDriver pl ≠ .fault)
    (plain : ¬(echoDriver pl = .neutral ∧ (s.delivery a).value ≠ 0)) :
    matchEcho s a pl = s.setDelivery a ((s.delivery a).answered pl) := by
  simp only [matchEcho, plain, healthy, if_false]

theorem matchEcho_of_neutral {s : State} {a : Axis} {pl : List Byte}
    (neutral : echoDriver pl = .neutral ∧ (s.delivery a).value ≠ 0) :
    matchEcho s a pl = (s.setDelivery a ((s.delivery a).answered pl)).countDelivery a
      (fun c => { c with driverNeutral := bump c.driverNeutral }) := by
  have healthy : echoDriver pl ≠ .fault := by rw [neutral.1]; decide
  rw [matchEcho, if_pos neutral, if_neg healthy]

theorem matchEcho_of_fault {s : State} {a : Axis} {pl : List Byte} (fault : echoDriver pl = .fault) :
    matchEcho s a pl = driverFaulted (s.setDelivery a ((s.delivery a).answered pl)) a .driverFault .driverFault := by
  simp [matchEcho, fault]

/-- Settles O26: a match by the driver state it reports, or a late echo. -/
theorem echoesMatchOrAreLate : Obligations.EchoesMatchOrAreLate := by
  intro s a payload takes long sound d answered u
  rw [exec_driverEcho s a payload takes, receiveEcho_of_length long]
  have same : (heard s .machine).delivery a = d := rfl
  refine ⟨fun sequence answerable => ?_, fun late => ?_⟩
  · have matched : ((heard s .machine).delivery a).matches_ payload = true := (matches_iff _ _).mpr ⟨sequence, answerable⟩
    rw [takeEcho_of_match sound matched]
    refine ⟨fun healthy plain => ?_, fun neutral value => ?_, fun fault => ?_⟩
    · rw [matchEcho_of_plain (s := heard s .machine) (a := a) healthy plain]
      rfl
    · rw [matchEcho_of_neutral (s := heard s .machine) (a := a) ⟨neutral, value⟩]
      rfl
    · rw [matchEcho_of_fault fault]
      have counts : SameCounts s u := SameCounts.same rfl
      exact ⟨_, rfl, driverFaulted_enteredFault u a _ _, counts.trans (driverFaulted_counts u a _ _),
        driverFaulted_tracking u a _ _ rfl⟩
  · have unmatched : ((heard s .machine).delivery a).matches_ payload = false := by
      rw [← Bool.not_eq_true, matches_iff, same]
      rintro ⟨sequence, await | ⟨queued, retried⟩⟩
      · simp [sequence, await] at late
      · simp [sequence, queued] at late
        omega
    rw [takeEcho_of_late sound unmatched]

/-! ## The delivery timers (R146, R148) -/

theorem exec_echoTimerExpiry {s : State} {a : Axis} (high : s.resetLow = false) (out : (s.delivery a).echo = some 0) :
    exec (.echoTimerExpiry a) s = .next (echoExpiry s a) :=
  congrArg _ (onExpiry_due s _ _ high out)

theorem exec_refreshTimerExpiry {s : State} {a : Axis} (high : s.resetLow = false) (out : (s.delivery a).refresh = some 0) :
    exec (.refreshTimerExpiry a) s = .next (refreshExpiry s a) :=
  congrArg _ (onExpiry_due s _ _ high out)

theorem echoExpiry_of_retry {s : State} {a : Axis} (await : (s.delivery a).state = .await)
    (below : (s.delivery a).retry < Rig.retryLimit s.tables.rig) :
    echoExpiry s a = (s.setDelivery a (s.delivery a).retried).countDelivery a
      (fun c => { c with retries := bump c.retries }) := by
  simp only [echoExpiry, await, below, if_true]

theorem echoExpiry_of_miss {s : State} {a : Axis} (await : (s.delivery a).state = .await)
    (reached : Rig.retryLimit s.tables.rig ≤ (s.delivery a).retry) : echoExpiry s a = giveUp s a := by
  simp only [echoExpiry, await, if_true, if_neg (not_lt.mpr reached)]

theorem giveUp_of_few {s : State} {a : Axis} (few : (s.delivery a).givenUp.missStreak < Rig.missLimit s.tables.rig) :
    giveUp s a = (s.setDelivery a (s.delivery a).givenUp).countDelivery a (fun c => { c with misses := bump c.misses }) := by
  simp only [giveUp, if_neg (not_le.mpr few)]

theorem giveUp_of_many {s : State} {a : Axis} (many : Rig.missLimit s.tables.rig ≤ (s.delivery a).givenUp.missStreak) :
    giveUp s a = driverFaulted ((s.setDelivery a (s.delivery a).givenUp).countDelivery a
      (fun c => { c with misses := bump c.misses })) a .driverLost .driverLost := by
  simp only [giveUp, if_pos many]

theorem refreshExpiry_delivery {s : State} {a : Axis} (connected : isBusOff s .machine = false) :
    (refreshExpiry s a).delivery a = { (if s.governor = .govern
      then (s.delivery a).renewed (evaluated s a).1 (s.axis a).state.mode else (s.delivery a).renewed 0 .neutral) with
      refresh := none } := by
  let u := s.setDelivery a { s.delivery a with refresh := none }
  let v := u.setAxis a ((u.axis a).withEvaluation (evaluated u a) u.millis)
  have connected' : isBusOff v .machine = false := connected
  have record : v.axis a = (s.axis a).withEvaluation (evaluated s a) s.millis := State.axis_setAxis_same u a _
  have delivery : v.delivery a = { s.delivery a with refresh := none } := State.delivery_setDelivery_same s a _
  show (handOver v a true).delivery a = _
  rw [handOver, produce_refresh v a _ _ connected', newFrame_delivery_renewed, record, delivery]
  show (if s.governor = .govern then _ else _ : DeliveryRecord) = _
  split <;> rfl

/-- Settles O27. -/
theorem deliveryTimersRetryAndRefresh : Obligations.DeliveryTimersRetryAndRefresh := by
  refine ⟨?echo, ?refresh⟩
  case echo =>
    intro s a high out await d limit streak
    rw [exec_echoTimerExpiry high out]
    refine ⟨fun below => ?_, fun reached few => ?_, fun reached many => ?_⟩
    · rw [echoExpiry_of_retry await below]
      rfl
    · rw [echoExpiry_of_miss await reached, giveUp_of_few few]
      rfl
    · rw [echoExpiry_of_miss await reached, giveUp_of_many many]
      let u := s.setDelivery a (s.delivery a).givenUp
      let v := u.countDelivery a (fun c => { c with misses := bump c.misses })
      have counts : SameCounts (s.countDelivery a (fun c => { c with misses := bump c.misses })) v := SameCounts.same rfl
      have counted := u.countDelivery_frame a (fun c => { c with misses := bump c.misses })
      refine ⟨_, rfl, ?_, counts.trans (driverFaulted_counts v a _ _), ?_⟩
      · exact (driverFaulted_enteredFault v a _ _).of_same rfl rfl rfl rfl rfl rfl rfl rfl rfl rfl
      · have counted : SameTracking { u with machineFault := FaultRecord.offer s.machineFault (freshFault s .driverLost a.code) }
            { v with machineFault := FaultRecord.offer v.machineFault (freshFault v .driverLost a.code) } :=
          (State.countDelivery_frame
            { u with machineFault := FaultRecord.offer s.machineFault (freshFault s .driverLost a.code) } a
            (fun c => { c with misses := bump c.misses })).toSameTracking
        exact counted.trans (driverFaulted_tracking v a _ _ rfl)
  case refresh =>
    intro s a high out connected v
    refine ⟨_, exec_refreshTimerExpiry high out, evaluate_axis_same _ a true, refreshExpiry_delivery connected,
      fun b other => ⟨evaluate_axis_other _ a b true other, ?_⟩, evaluate_reports _ a true, refreshExpiry_frame s a,
      refreshExpiry_counts s a⟩
    exact (evaluate_delivery_other _ a b true other).trans (State.delivery_setDelivery_other s a b _ other)

/-! ## The axis timers (R128) -/

theorem exec_operatorFreshnessExpiry {s : State} {a : Axis} (high : s.resetLow = false)
    (out : (s.axis a).freshness = some 0) : exec (.operatorFreshnessExpiry a) s = .next (operatorExpiry s a) :=
  congrArg _ (onExpiry_due s _ _ high out)

theorem exec_rampTimerExpiry {s : State} {a : Axis} (high : s.resetLow = false) (out : (s.axis a).ramp = some 0) :
    exec (.rampTimerExpiry a) s = .next (rampExpiry s a) :=
  congrArg _ (onExpiry_due s _ _ high out)

/-- A change of an axis: AXIS_STATE with the new state, and the new G and mode handed over (R121, R126). -/
theorem changeAxis_eq (s : State) (a : Axis) (r : AxisRecord) :
    changeAxis s a r =
      produce (report (s.setAxis a r) .axisState a.code r.state.code) a r.governed r.state.mode false := by
  have new : (s.setAxis a r).axis a = r := State.axis_setAxis_same s a r
  have told : reportAxisState (s.setAxis a r) a = report (s.setAxis a r) .axisState a.code r.state.code := by
    rw [reportAxisState, new]
  have kept : (report (s.setAxis a r) .axisState a.code r.state.code).axis a = r := new
  rw [changeAxis, told, handOver, kept]

/-- A hand-off does not read the axis records and the reports. -/
theorem produce_reported_delivery (s : State) (a : Axis) (r : AxisRecord) (k : EventKind) (x y : Nat) (g : Int) (m : Mode) :
    (produce (report (s.setAxis a r) k x y) a g m false).delivery a = (produce s a g m false).delivery a :=
  produce_delivery_congr (s := s) (u := report (s.setAxis a r) k x y) (a := a) rfl rfl rfl g m false

theorem operatorExpiry_of_not_active {s : State} {a : Axis} (other : (s.axis a).state ≠ .active) :
    operatorExpiry s a = s.setAxis a { s.axis a with freshness := none } := by
  simp only [operatorExpiry, if_neg other]

theorem operatorExpiry_of_moving {s : State} {a : Axis} (active : (s.axis a).state = .active)
    (moving : (s.axis a).governed ≠ 0) :
    operatorExpiry s a = report (s.setAxis a { s.axis a with
      state := .rampdown, freshness := none, ramp := some (Rig.rampPeriod s.tables.rig) }) .axisState a.code 2 := by
  simp only [operatorExpiry, if_pos active, if_neg moving, reportAxisState, State.axis_setAxis_same]
  rfl

theorem operatorExpiry_of_resting {s : State} {a : Axis} (active : (s.axis a).state = .active)
    (resting : (s.axis a).governed = 0) :
    operatorExpiry s a = changeAxis s a ({ s.axis a with freshness := none }.toNeutralFor .stale) := by
  simp only [operatorExpiry, if_pos active, if_pos resting]

/-- The ramp step's G handed over with mode ACTIVE, and where it is 0 the entry into NEUTRAL. -/
theorem rampExpiry_of_rampdown {s : State} {a : Axis} (ramping : (s.axis a).state = .rampdown) :
    let r := (s.axis a).rampStep s.tables.rig
    let t := produce (s.setAxis a r) a r.governed .active false
    rampExpiry s a = if r.governed = 0 then changeAxis t a (r.toNeutralFor .stale) else t := by
  have record : (s.setAxis a ((s.axis a).rampStep s.tables.rig)).axis a = (s.axis a).rampStep s.tables.rig :=
    State.axis_setAxis_same s a _
  have mode : ((s.axis a).rampStep s.tables.rig).state.mode = .active := by rw [rampStep_state, ramping]; rfl
  simp only [rampExpiry, if_pos ramping, handOver, record, mode]

/-- Settles O40. -/
theorem staleOperatorRampsDown : Obligations.StaleOperatorRampsDown := by
  intro s a high r step neutral
  refine ⟨fun out => ?_, fun out ramping => ?_⟩
  · rw [exec_operatorFreshnessExpiry high out]
    refine ⟨fun other => by rw [operatorExpiry_of_not_active other], fun active moving => ?_, fun active resting => ?_⟩
    · rw [operatorExpiry_of_moving active moving]
    · rw [operatorExpiry_of_resting active resting, changeAxis_eq]
      rfl
  · obtain ⟨size, side⟩ := rampStepped_spec r.governed step
    rw [exec_rampTimerExpiry high out, rampExpiry_of_rampdown ramping]
    have governed : ((s.axis a).rampStep s.tables.rig).governed = rampStepped r.governed step := rfl
    refine ⟨fun far => ?_, ?near⟩
    · have left : |rampStepped r.governed step| = |r.governed| - step := by omega
      have moves : rampStepped r.governed step ≠ 0 := fun zero => by rw [zero, abs_zero] at left; omega
      have nonneg : 0 ≤ step := Int.natCast_nonneg _
      have moved : r.governed ≠ 0 := fun zero => by rw [zero, abs_zero] at far; omega
      refine ⟨_, left, lt_of_le_of_ne side (mul_ne_zero moves moved).symm, ?_⟩
      rw [governed, if_neg moves]
      have record : (s.axis a).rampStep s.tables.rig =
          { r with governed := rampStepped r.governed step, ramp := some (Rig.rampPeriod s.tables.rig) } := by
        simp only [AxisRecord.rampStep]
        rw [if_neg moves]
      rw [record]
    case near =>
      intro near stepped
      have zero : rampStepped r.governed step = 0 := by rw [rampStepped, if_pos near]
      have record : (s.axis a).rampStep s.tables.rig = { r with governed := 0, ramp := none } := by
        have stepZero : rampStepped (s.axis a).governed (Rig.rampStep s.tables.rig) = 0 := zero
        simp only [AxisRecord.rampStep, stepZero, if_true] <;> rfl
      rw [record, if_pos rfl, changeAxis_eq]
      rfl

/-! ## Hand-backs of ROTARY (R129) and the sequence timer (R160) -/

theorem handBackState_of_stale {s : State} (d : Int) (stale : s.axes.rotary.freshness = none) :
    handBackState s d = changeAxis s .rotary ({ s.axes.rotary with demand := some d }.toNeutralFor .stale) := by
  simp only [handBackState, stale, Option.isNone_none, if_true]

theorem handBackState_of_fresh {s : State} (d : Int) (fresh : s.axes.rotary.freshness.isSome = true) :
    handBackState s d =
      report (s.setAxis .rotary { s.axes.rotary with demand := some d, state := .active }) .axisState 0 1 := by
  have running : s.axes.rotary.freshness.isNone = false := by rw [Option.isNone_eq_false_iff]; exact fresh
  simp only [handBackState, running, Bool.false_eq_true, if_false]
  rfl

theorem handBack_of_stale {s : State} (d : Int) (stale : s.axes.rotary.freshness = none) :
    handBack s d = handBackState s d := by
  have neutral : (handBackState s d).axes.rotary.state ≠ .active := by
    rw [handBackState_of_stale d stale]
    exact (congrArg AxisRecord.state (changeAxis_axis_same s .rotary _)).trans_ne
      (show AxisState.neutral ≠ .active by decide)
  rw [handBack, if_neg neutral]

theorem handBack_of_fresh {s : State} (d : Int) (fresh : s.axes.rotary.freshness.isSome = true) :
    handBack s d = evaluateNow (handBackState s d) .rotary := by
  have active : (handBackState s d).axes.rotary.state = .active := by rw [handBackState_of_fresh d fresh]; rfl
  rw [handBack, if_pos active]

theorem governedValue_zero (s : State) (a : Axis) : governedValue s a 0 = (0, .none) := rfl

/-- A hand-back with demand 0 does what `HandedBackAtZero` says. -/
theorem handBack_handedBackAtZero (s : State) : HandedBackAtZero s (handBack s 0) := by
  rcases stale : s.axes.rotary.freshness with _ | left
  · have back := handBack_of_stale 0 stale
    have record := changeAxis_axis_same s .rotary ({ s.axes.rotary with demand := some 0 }.toNeutralFor .stale)
    refine ⟨fun fresh => by simp [stale] at fresh, fun _ => ?_, ?_⟩
    · rw [back, handBackState_of_stale 0 stale]
      exact record
    · rw [back, handBackState_of_stale 0 stale, changeAxis_eq, stale]
      exact produce_reported_delivery s .rotary _ _ _ _ _ _
  · have fresh : s.axes.rotary.freshness.isSome = true := by simp [stale]
    let t := handBackState s 0
    have restored : t = report (s.setAxis .rotary { s.axes.rotary with demand := some 0, state := .active }) .axisState 0 1 :=
      handBackState_of_fresh 0 fresh
    have zero : evaluated t .rotary = (0, .none) := by rw [restored]; rfl
    obtain ⟨record, frame⟩ := evaluateNow_evaluatedIn t .rotary
    rw [zero] at record frame
    rw [restored] at record frame
    refine ⟨fun _ => ?_, fun none => by simp [stale] at none, ?_⟩
    · rw [handBack_of_fresh 0 fresh]
      show (evaluateNow t .rotary).axis .rotary = _
      rw [restored, record]
      rfl
    · rw [handBack_of_fresh 0 fresh]
      show (evaluateNow t .rotary).delivery .rotary = _
      rw [restored, frame]
      simp only [stale, Option.isSome_some, if_true]
      exact produce_reported_delivery s .rotary _ _ _ _ _ _

/-- A hand-back from a state that agrees on ROTARY and what its hand-off reads. -/
theorem HandedBackAtZero.of_same {s u t : State} (back : HandedBackAtZero u t) (axis : u.axis .rotary = s.axis .rotary)
    (delivery : u.delivery .rotary = s.delivery .rotary) (off : isBusOff u .machine = isBusOff s .machine)
    (governor : u.governor = s.governor) (millis : u.millis = s.millis) : HandedBackAtZero s t := by
  have same : u.axes.rotary = s.axes.rotary := axis
  obtain ⟨active, neutral, sent⟩ := back
  rw [same] at active neutral sent
  rw [millis] at active
  exact ⟨active, neutral, sent.trans (produce_delivery_congr delivery off governor _ _ _)⟩

theorem handBackState_same_at (s : State) (d : Int) {b : Axis} (other : b ≠ .rotary) : SameAt b s (handBackState s d) := by
  unfold handBackState
  dsimp only
  split
  · exact ⟨changeAxis_axis_other s .rotary b _ other, changeAxis_delivery_other s .rotary b _ other,
      (changeAxis_frame s .rotary _).ports⟩
  · exact ⟨State.axis_setAxis_other s .rotary b _ other, rfl, rfl⟩

theorem evaluateNow_same_at (s : State) {a b : Axis} (other : b ≠ a) : SameAt b s (evaluateNow s a) :=
  ⟨evaluate_axis_other s a b false other, evaluate_delivery_other s a b false other, (evaluateNow_frame s a).ports⟩

theorem handBack_same_at (s : State) (d : Int) {b : Axis} (other : b ≠ .rotary) : SameAt b s (handBack s d) := by
  unfold handBack
  dsimp only
  split
  · exact (handBackState_same_at s d other).trans (evaluateNow_same_at _ other)
  · exact handBackState_same_at s d other

/-- An abort with its hand-back ends the running sequence, hands ROTARY back at 0, and leaves the other axes (R129, R160). -/
theorem abortAndHandBack_of_running (s : State) (c : AbortCause) (running : s.sequencer ≠ .idle) :
    let t := abortAndHandBack s c
    t.sequencer = .idle ∧ t.sequenceTimer = none ∧ t.aborts = addAbort s.aborts c ∧ HandedBackAtZero s t ∧
    (∀ a, a ≠ .rotary → SameAt a s t) ∧
    reportsAfter s .autoAborted (if s.sequencer = .releasing then 1 else 0) c.bit <+: t.reports := by
  intro t
  have eq : t = handBack (abortSequence s c) 0 := by simp only [t, abortAndHandBack, if_neg running]
  obtain ⟨idle, timer, aborts⟩ := abortSequence_of_running s c running
  have frame := handBack_frame (abortSequence s c) 0
  have kept := abortSequence_frame s c
  have rotary := abortSequence_at s c .rotary
  rw [eq]
  refine ⟨frame.sequencer.trans idle, frame.sequenceTimer.trans timer, frame.aborts.trans aborts, ?_, fun a other => ?_, ?_⟩
  · exact (handBack_handedBackAtZero _).of_same rotary.axis rotary.delivery (rotary.busOff .machine) kept.governor kept.millis
  · exact (abortSequence_at s c a).trans (handBack_same_at _ 0 other)
  · have told : (abortSequence s c).reports =
        reportsAfter s .autoAborted (if s.sequencer = .releasing then 1 else 0) c.bit := by
      rw [abortSequence, if_neg running]
      rfl
    exact told ▸ frame.grows

/-- Settles O42. -/
theorem sequenceTimeoutHandsRotaryBack : Obligations.SequenceTimeoutHandsRotaryBack := by
  intro s high out running
  have expired : exec .sequenceTimerExpiry s = .next (abortAndHandBack s .timeout) := by
    have aborts : sequenceExpiry s = abortAndHandBack s .timeout := by rw [sequenceExpiry, if_neg running]
    exact aborts ▸ congrArg _ (onExpiry_due s _ (sequenceExpiry s) high out)
  obtain ⟨idle, timer, aborts, back, others, told⟩ := abortAndHandBack_of_running s .timeout running
  exact ⟨_, expired, idle, timer, aborts, back, fun a other => ⟨(others a other).axis, (others a other).delivery⟩, told,
    abortAndHandBack_frame s .timeout, abortAndHandBack_counts s .timeout⟩

/-! ## CLEAR_FAULTS (R132, R161, R178) -/

theorem clearAxisFault_same_at (s : State) (a b : Axis) (other : b ≠ a) : SameAt b s (clearAxisFault s a) := by
  unfold clearAxisFault
  split
  · exact ⟨changeAxis_axis_other s a b _ other, changeAxis_delivery_other s a b _ other, (changeAxis_frame s a _).ports⟩
  all_goals rfl

theorem clearAxisFault_of_fault {s : State} {a : Axis} (fault : (s.axis a).state = .fault) :
    clearAxisFault s a = changeAxis s a (s.axis a).toNeutral := by
  simp [clearAxisFault, fault]

theorem clearAxisFault_of_other {s : State} {a : Axis} (other : (s.axis a).state ≠ .fault) : clearAxisFault s a = s := by
  unfold clearAxisFault
  split <;> simp_all

theorem clearFaults_at (s : State) (a : Axis) :
    ∃ u, SameAt a s u ∧ SameAt a (clearAxisFault u a) (allAxes.foldl clearAxisFault s) :=
  foldl_allAxes_at (fun s a b h => clearAxisFault_same_at s a b h) s a

theorem clearFaults_frame (s : State) : SameSequence s (allAxes.foldl clearAxisFault s) :=
  SameSequence.foldl clearAxisFault_frame allAxes s

theorem emptyFaults_axis (s : State) (a : Axis) : (emptyFaults s).axis a = (s.axis a).noExits := by cases a <;> rfl
theorem emptyFaults_delivery (s : State) (a : Axis) : (emptyFaults s).delivery a = (s.delivery a).unmissed := by cases a <;> rfl

/-- The neutral hand-off of an axis that leaves FAULT, and the miss streak emptied after it. -/
theorem handed_unmissed (d : DeliveryRecord) (g : Int) (m : Mode) : (d.handed g m).unmissed = d.unmissed.handed g m := by
  unfold DeliveryRecord.handed
  show (if d.value = g ∧ d.mode = m then d else d.renewed g m).unmissed = if d.value = g ∧ d.mode = m then _ else _
  split <;> rfl

theorem exec_clearFaults_served (s : State) (serves : servesManagement s) :
    exec .clearFaults s = .next (controlClearFaults (heard s .operator)) :=
  congrArg Host.Outcome.next (control_served s 4 .clearFaults serves rfl)

/-- Settles O38. -/
theorem clearFaultsEmptiesTheFaults : Obligations.ClearFaultsEmptiesTheFaults := by
  intro s serves cleared
  let u := heard s .operator
  let v := allAxes.foldl clearAxisFault u
  have frame : SameSequence u v := clearFaults_frame u
  have emptyReplies : (emptyFaults v).replies = [] := frame.replies.trans serves.2
  have answer : replyControl (emptyFaults v) .ok .none =
      { emptyFaults v with replies := [statusReply s 5 .ok .none 255 255 s.governor.code] } :=
    replyControl_of_empty .ok .none emptyReplies frame.channel frame.governor
  refine ⟨_, (exec_clearFaults_served s serves).trans (congrArg _ answer), fun a fault => ?_, fun a other => ?_, rfl,
    frame.sequencer, frame.sequenceTimer, ?_, ?_⟩
  · obtain ⟨w, before, turn⟩ := clearFaults_at u a
    have faultW : (w.axis a).state = .fault := by rw [before.axis]; exact fault
    rw [clearAxisFault_of_fault faultW] at turn
    have axis : v.axis a = (s.axis a).toNeutral := by rw [turn.axis, changeAxis_axis_same, before.axis]; rfl
    have delivery : v.delivery a = (produce w a 0 .neutral false).delivery a := by
      rw [turn.delivery, changeAxis_eq]
      exact produce_reported_delivery w a _ _ _ _ _ _
    have off : isBusOff w .machine = isBusOff s .machine := (before.busOff .machine).trans (heard_busOff s _ _)
    refine ⟨(emptyFaults_axis v a).trans (by rw [axis]; rfl), (emptyFaults_delivery v a).trans ?_⟩
    rw [delivery, ← off]
    cases connected : isBusOff w .machine
    · rw [produce_neutral_delivery_same w a connected, handed_unmissed, before.delivery]
      rfl
    · rw [produce_busOff w _ _ _ _ connected, before.delivery]
      rfl
  · obtain ⟨w, before, turn⟩ := clearFaults_at u a
    rw [clearAxisFault_of_other (by rw [before.axis]; exact other)] at turn
    have same := before.trans turn
    exact ⟨(emptyFaults_axis v a).trans (by rw [same.axis]; rfl), (emptyFaults_delivery v a).trans (by rw [same.delivery]; rfl)⟩
  · have counts : SameCounts s v := (SameCounts.same rfl : SameCounts s u).trans
      (SameCounts.foldl clearAxisFault_counts allAxes u)
    exact ⟨counts.port, counts.axis, counts.quantity, counts.delivery, counts.part⟩
  · have kept := frame.toSameTracking
    exact { kept with replies := rfl, machineFault := rfl, barFault := rfl }

end Sys2Proof.Machine
end

section
/-! The drive envelope: the limits and the directed loads (R102 to R105, R112), the caps (R106, R107), the knee scale (R108), the
limit cause (R111), and the governed value within its demand (R109, R110, R135). -/

namespace Sys2Proof.Machine

open Sys2Proof

/-! ## Least terms (R112) -/

theorem leastTerm_cons (t u : Term) (ts : List Term) :
    leastTerm (t :: u :: ts) = if t.2 ≤ (leastTerm (u :: ts)).2 then t else leastTerm (u :: ts) := rfl

theorem leastTerm_mem {ts : List Term} (some : ts ≠ []) : leastTerm ts ∈ ts := by
  induction ts with
  | nil => exact absurd rfl some
  | cons t rest ih =>
    cases rest with
    | nil => exact List.mem_singleton_self t
    | cons u rest =>
      rw [leastTerm_cons]
      split
      · exact List.mem_cons_self
      · exact List.mem_cons_of_mem t (ih (List.cons_ne_nil u rest))

/-- In a list ordered by rank the least term is the first of equals. -/
theorem leastTerm_first {rank : LimitCause → Nat} {ts : List Term} (ordered : ts.Pairwise (fun x y => rank x.1 ≤ rank y.1)) :
    ∀ x ∈ ts, (leastTerm ts).2 < x.2 ∨ ((leastTerm ts).2 = x.2 ∧ rank (leastTerm ts).1 ≤ rank x.1) := by
  induction ts with
  | nil => nofun
  | cons t rest ih =>
    cases rest with
    | nil => exact fun x isT => .inr (List.mem_singleton.mp isT ▸ ⟨rfl, le_rfl⟩)
    | cons u rest =>
      obtain ⟨before, ordered⟩ := List.pairwise_cons.mp ordered
      intro x member
      rw [leastTerm_cons]
      rcases List.mem_cons.mp member with rfl | later
      · split
        · exact .inr ⟨rfl, le_rfl⟩
        · next above => exact .inl (not_le.mp above)
      · have rest := ih ordered x later
        split
        · next below =>
          rcases rest with less | ⟨same, -⟩
          · exact .inl (below.trans_lt less)
          · exact (below.trans same.le).lt_or_eq.imp id (fun equal => ⟨equal, before x later⟩)
        · exact rest

theorem leastTerm_le {ts : List Term} : ∀ x ∈ ts, (leastTerm ts).2 ≤ x.2 := by
  have ordered : ts.Pairwise (fun _ _ => (0 : Nat) ≤ 0) := List.pairwise_of_forall fun _ _ => le_rfl
  exact fun x member => (leastTerm_first (rank := fun _ => 0) ordered x member).elim le_of_lt fun equal => equal.1.le

/-! ## Limits (R102 to R105) -/

theorem mem_joints (bar : Table) (j : Nat) : j ∈ Bar.joints bar ↔ 1 ≤ j ∧ j ≤ 4 ∧ j < Bar.sections bar := by
  simp only [Bar.joints, List.mem_map, List.mem_range]
  exact ⟨by rintro ⟨i, low, rfl⟩; omega, fun ⟨one, four, used⟩ => ⟨j - 1, by omega, by omega⟩⟩

theorem mem_openJoints (s : State) (p : Nat × Joint) :
    p ∈ openJoints s ↔ p ∈ numbered s.joints ∧ Rig.retractTolerance s.tables.rig < p.2.offset := by
  simp [openJoints]

/-- The terms of a limit by the cause that names them: JOINT, then BAND, then RIG (R112). -/
def termRank (c : LimitCause) : Nat := if c = .joint then 0 else if c = .band then 1 else 2

/-- Joint terms before the band's and the rig's stand in the order of R112. -/
theorem ordered_terms {joints : List Term} (isJoint : ∀ x ∈ joints, x.1 = .joint) (b r : Int) :
    (joints ++ [(LimitCause.band, b), (LimitCause.rig, r)]).Pairwise (fun x y => termRank x.1 ≤ termRank y.1) := by
  rw [List.pairwise_append]
  refine ⟨List.pairwise_of_forall_mem_list fun x mx y my => ?_, by simp [termRank], fun x mx y _ => ?_⟩
  · rw [isJoint x mx, isJoint y my]
  · rw [isJoint x mx]
    exact Nat.zero_le _

theorem mem_torqueTerms (s : State) (c : LimitCause) (v : Int) : (c, v) ∈ torqueTerms s ↔
    (c = .joint ∧ ∃ p, (p ∈ numbered s.joints ∧ Rig.retractTolerance s.tables.rig < p.2.offset) ∧
      v = jointTorque s.tables.bar p.1 p.2.offset) ∨
    (c = .band ∧ v = (bandInForce s).torqueCap) ∨ (c = .rig ∧ v = Rig.torqueMax s.tables.rig) := by
  simp only [torqueTerms, List.mem_append, List.mem_map, mem_openJoints, List.mem_cons, List.not_mem_nil, or_false,
    Prod.mk.injEq]
  grind

theorem torqueTerms_ordered (s : State) : (torqueTerms s).Pairwise (fun x y => termRank x.1 ≤ termRank y.1) := by
  unfold torqueTerms
  refine ordered_terms (fun x member => ?_) _ _
  obtain ⟨p, -, rfl⟩ := List.mem_map.mp member
  rfl

theorem crowdJointTerms_isJoint (s : State) : ∀ x ∈ crowdJointTerms s, x.1 = .joint := by
  intro x member
  unfold crowdJointTerms at member
  dsimp only at member
  split at member
  · obtain ⟨p, -, rfl⟩ := List.mem_map.mp member
    rfl
  · rcases List.mem_append.mp member with drawn | friction
    · obtain ⟨p, -, rfl⟩ := List.mem_map.mp drawn
      rfl
    · obtain ⟨j, -, rfl⟩ := List.mem_map.mp friction
      rfl
  · exact absurd member (List.not_mem_nil)

theorem mem_crowdJointTerms (s : State) (v : Int) : (LimitCause.joint, v) ∈ crowdJointTerms s ↔
    (geometry s ≠ .none ∧ ∃ p, (p ∈ numbered s.joints ∧ Rig.retractTolerance s.tables.rig < p.2.offset) ∧
      v = jointCapacity s.tables p.1 p.2) ∨
    (geometry s = .held ∧ ∃ j, 1 ≤ j ∧ j ≤ 4 ∧ j < Bar.sections s.tables.bar ∧ v = Bar.friction s.tables.bar j) := by
  cases status : geometry s with
  | tracking =>
    simp only [crowdJointTerms, status, List.mem_map, mem_openJoints, Prod.mk.injEq, true_and]
    simp [eq_comm]
  | held =>
    simp only [crowdJointTerms, status, List.mem_append, List.mem_map, mem_openJoints, Prod.mk.injEq, true_and, mem_joints]
    simp [eq_comm, and_assoc]
  | none => simp [crowdJointTerms, status]

/-- All terms of the CROWD pull-down limit (R104). -/
def crowdTerms (s : State) : List Term :=
  crowdJointTerms s ++ [(.band, (bandInForce s).crowdCap), (.rig, Rig.crowdDownMax s.tables.rig)]

theorem crowdTerms_ordered (s : State) : (crowdTerms s).Pairwise (fun x y => termRank x.1 ≤ termRank y.1) :=
  ordered_terms (crowdJointTerms_isJoint s) _ _

theorem mem_crowdTerms (s : State) (c : LimitCause) (v : Int) : (c, v) ∈ crowdTerms s ↔
    (c = .joint ∧ geometry s ≠ .none ∧ ∃ p, (p ∈ numbered s.joints ∧ Rig.retractTolerance s.tables.rig < p.2.offset) ∧
      v = jointCapacity s.tables p.1 p.2) ∨
    (c = .joint ∧ geometry s = .held ∧ ∃ j, 1 ≤ j ∧ j ≤ 4 ∧ j < Bar.sections s.tables.bar ∧ v = Bar.friction s.tables.bar j) ∨
    (c = .band ∧ v = (bandInForce s).crowdCap) ∨ (c = .rig ∧ v = Rig.crowdDownMax s.tables.rig) := by
  have named : (c, v) ∈ crowdJointTerms s ↔ c = .joint ∧ (LimitCause.joint, v) ∈ crowdJointTerms s :=
    ⟨fun member => by
      have isJoint : c = .joint := crowdJointTerms_isJoint s _ member
      exact ⟨isJoint, isJoint ▸ member⟩, fun ⟨isJoint, member⟩ => isJoint ▸ member⟩
  simp only [crowdTerms, List.mem_append, named, mem_crowdJointTerms, List.mem_cons, List.not_mem_nil, or_false,
    Prod.mk.injEq, and_or_left, or_assoc]

theorem bandInForce_of_default {s : State} (default : s.band = none) : bandInForce s = defaultBand s.tables.rig := by
  rw [bandInForce, default]

theorem bandInForce_of_plan {s : State} {i : Nat} (plan : s.band = some i) :
    bandInForce s = Bore.fields s.tables.bore i := by
  rw [bandInForce, plan]

/-- The caps of the band in force are unsigned fields (R90, R92). -/
theorem bandInForce_caps_nonneg (s : State) :
    0 ≤ (bandInForce s).crowdCap ∧ 0 ≤ (bandInForce s).rotaryCap ∧ 0 ≤ (bandInForce s).hoistCap := by
  cases band : s.band with
  | none =>
    rw [bandInForce_of_default band]
    exact ⟨Int.natCast_nonneg _, Int.natCast_nonneg _, Int.natCast_nonneg _⟩
  | some i =>
    rw [bandInForce_of_plan band]
    exact ⟨Int.natCast_nonneg _, Int.natCast_nonneg _, Int.natCast_nonneg _⟩

theorem jointCapacity_nonneg (ts : Tables) (j : Nat) (r : Joint) : 0 ≤ jointCapacity ts j r := by
  unfold jointCapacity rowCapacity
  split
  · split <;> exact Int.natCast_nonneg _
  · exact Int.natCast_nonneg _

theorem crowdTerms_nonneg (s : State) : ∀ x ∈ crowdTerms s, 0 ≤ x.2 := by
  rintro ⟨c, v⟩ member
  rcases (mem_crowdTerms s c v).mp member with ⟨-, -, p, -, rfl⟩ | ⟨-, -, j, -, -, -, rfl⟩ | ⟨-, rfl⟩ | ⟨-, rfl⟩
  · exact jointCapacity_nonneg _ _ _
  · exact Int.natCast_nonneg _
  · exact (bandInForce_caps_nonneg s).1
  · exact Int.natCast_nonneg _

/-- A factor of at most 1000 lowers a limit (R104). -/
theorem tdiv_thousand_le {l b : Int} (limit : 0 ≤ l) (nonneg : 0 ≤ b) (full : b ≤ 1000) : (l * b).tdiv 1000 ≤ l := by
  have product : 0 ≤ l * b := mul_nonneg limit nonneg
  have scaled : (l * b).tdiv 1000 * 1000 ≤ l * b := by
    have truncated := abs_tdiv_mul_le (l * b) (k := 1000) (by norm_num)
    rwa [abs_of_nonneg (Int.tdiv_nonneg product (by norm_num)), abs_of_nonneg product] at truncated
  have bounded : l * b ≤ l * 1000 := mul_le_mul_of_nonneg_left full limit
  omega

theorem directedLoad_eq (s : State) (a : Axis) (up : Bool) : directedLoad s a up =
    if (s.sensor (Axis.measured a)).state = .fresh
    then some (max 0 (if up then measuredValue s a else - measuredValue s a)) else none := by
  have loaded (m : Int) : (if m < 0 then 0 else m) = max 0 m := by omega
  simp only [directedLoad, isFresh, beq_iff_eq, loaded]

/-- Settles O50: each limit is the first of the least of its terms. -/
theorem limitsAreTheLeastOfTheirTerms : Obligations.LimitsAreTheLeastOfTheirTerms := by
  intro s rig bar bore band out torque crowd rank least load
  have torqueIs (c : LimitCause) (v : Int) : torque c v ↔ (c, v) ∈ torqueTerms s := (mem_torqueTerms s c v).symm
  have crowdIs (c : LimitCause) (v : Int) : crowd c v ↔ (c, v) ∈ crowdTerms s := (mem_crowdTerms s c v).symm
  refine ⟨fun default => bandInForce_of_default default, fun i plan => bandInForce_of_plan plan,
    ⟨(rotaryLimit s).1, (rotaryLimit s).2, ⟨?_, fun c' v' term => ?_⟩, rfl, rfl⟩,
    ⟨(crowdLeast s).1, (crowdLeast s).2, ⟨?_, fun c' v' term => ?_⟩, rfl, fun low high c' v term => ?_⟩, rfl, rfl, rfl,
    directedLoad_eq s .rotary, directedLoad_eq s .crowd, directedLoad_eq s .hoist⟩
  · exact (torqueIs _ _).mpr (leastTerm_mem (by simp [torqueTerms]))
  · exact leastTerm_first (torqueTerms_ordered s) (c', v') ((torqueIs c' v').mp term)
  · exact (crowdIs _ _).mpr (leastTerm_mem (by simp [crowdTerms]))
  · exact leastTerm_first (crowdTerms_ordered s) (c', v') ((crowdIs c' v').mp term)
  · have member : (c', v) ∈ crowdTerms s := (crowdIs c' v).mp term
    have nonneg : 0 ≤ (crowdLeast s).2 := crowdTerms_nonneg s _ (leastTerm_mem (by simp [crowdTerms]))
    exact (tdiv_thousand_le nonneg low high).trans (leastTerm_le (c', v) member)

/-! ## Caps (R106, R107) -/

theorem mem_capIf (b : Bool) (c g : LimitCause) (x v : Int) : (g, v) ∈ capIf b c x ↔ b = true ∧ g = c ∧ v = x := by
  cases b <;> simp [capIf]

/-- The order of R106 is the order of the codes. -/
theorem capIf_ordered (b : Bool) (c : LimitCause) (x : Int) {rest : List Term}
    (ordered : rest.Pairwise (fun x y => x.1.code ≤ y.1.code)) (first : ∀ y ∈ rest, c.code ≤ y.1.code) :
    (capIf b c x ++ rest).Pairwise (fun x y => x.1.code ≤ y.1.code) := by
  cases b
  · exact ordered
  · exact List.pairwise_cons.mpr ⟨first, ordered⟩

theorem le_capIf {b : Bool} {c : LimitCause} {x : Int} {rest : List Term} {n : Nat} (here : n ≤ c.code)
    (later : ∀ y ∈ rest, n ≤ y.1.code) : ∀ y ∈ capIf b c x ++ rest, n ≤ y.1.code := by
  cases b
  · exact later
  · exact List.forall_mem_cons.mpr ⟨here, later⟩

theorem capsOf_ordered (s : State) (a : Axis) (up : Bool) : (capsOf s a up).Pairwise (fun x y => x.1.code ≤ y.1.code) := by
  have last (b : Bool) (x : Int) : (capIf b .bandCap x).Pairwise (fun x y => x.1.code ≤ y.1.code) := by
    cases b <;> simp [capIf]
  have least (b : Bool) (c : LimitCause) (x : Int) {n : Nat} (le : n ≤ c.code) : ∀ y ∈ capIf b c x, n ≤ y.1.code := by
    cases b <;> simp [capIf, le]
  have single (b : Bool) (c : LimitCause) (x : Int) : (capIf b c x).Pairwise (fun x y => x.1.code ≤ y.1.code) := by
    cases b <;> simp [capIf]
  cases a with
  | rotary => exact capIf_ordered _ _ _ (List.pairwise_singleton _ _) (by simp [LimitCause.code])
  | crowd => exact capIf_ordered _ _ _ (single _ _ _) (least _ _ _ (by decide))
  | hoist =>
    simp only [capsOf, List.append_assoc]
    have bandCap := last up (bandInForce s).hoistCap
    have five {n : Nat} (le : n ≤ 6) := least up .bandCap (bandInForce s).hoistCap (n := n) le
    refine capIf_ordered _ _ _ (capIf_ordered _ _ _ (capIf_ordered _ _ _ (capIf_ordered _ _ _ (capIf_ordered _ _ _
      (capIf_ordered _ _ _ bandCap ?_) ?_) ?_) ?_) ?_) ?_
    · exact five (by decide)
    · exact le_capIf (by decide) (five (by decide))
    · exact le_capIf (by decide) (le_capIf (by decide) (five (by decide)))
    · exact le_capIf (by decide) (le_capIf (by decide) (le_capIf (by decide) (five (by decide))))
    · exact le_capIf (by decide) (le_capIf (by decide) (le_capIf (by decide) (le_capIf (by decide) (five (by decide)))))
    · exact le_capIf (by decide) (le_capIf (by decide) (le_capIf (by decide) (le_capIf (by decide)
        (le_capIf (by decide) (five (by decide))))))

theorem leastCap_of_none {caps : List Term} (none : caps = []) : leastCap caps = (.none, 1000) := by
  rw [leastCap, none]
  rfl

theorem leastCap_of_some {caps : List Term} (some : caps ≠ []) : leastCap caps = leastTerm caps := by
  rw [leastCap, if_neg (by simpa using some)]

theorem kneeScale_between {l k m : Int} (kneed : kneePoint l k < m) (below : m < l) :
    0 ≤ ((l - m) * 1000).tdiv (l - kneePoint l k) ∧ ((l - m) * 1000).tdiv (l - kneePoint l k) ≤ 1000 := by
  have span : 0 < l - kneePoint l k := by omega
  have product : 0 ≤ (l - m) * 1000 := by omega
  refine ⟨Int.tdiv_nonneg product span.le, ?_⟩
  have truncated := abs_tdiv_mul_le ((l - m) * 1000) span
  rw [abs_of_nonneg (Int.tdiv_nonneg product span.le), abs_of_nonneg product] at truncated
  by_contra above
  have stretched : 1001 * (l - kneePoint l k) ≤ ((l - m) * 1000).tdiv (l - kneePoint l k) * (l - kneePoint l k) :=
    mul_le_mul_of_nonneg_right (by omega) span.le
  omega

theorem kneeScale_of_low {l k m : Int} (limited : l ≠ 0) (low : m ≤ kneePoint l k) : kneeScale (some l) k (some m) = 1000 := by
  simp only [kneeScale, if_neg limited, if_pos low]

theorem kneeScale_of_high {l k m : Int} (kneed : kneePoint l k < m) (high : l ≤ m) : kneeScale (some l) k (some m) = 0 := by
  simp only [kneeScale, if_neg (not_le.mpr kneed), if_pos high, ite_self]

theorem kneeScale_of_between {l k m : Int} (limited : l ≠ 0) (kneed : kneePoint l k < m) (below : m < l) :
    kneeScale (some l) k (some m) = ((l - m) * 1000).tdiv (l - kneePoint l k) := by
  simp only [kneeScale, if_neg limited, if_neg (not_le.mpr kneed), if_neg (not_le.mpr below)]

/-- The knee scale lies from 0 to 1000 (R108). -/
theorem kneeScale_bounds (limit : Option Int) (k : Int) (load : Option Int) :
    0 ≤ kneeScale limit k load ∧ kneeScale limit k load ≤ 1000 := by
  cases limit with
  | none => simp [kneeScale]
  | some l =>
    by_cases zero : l = 0
    · simp [kneeScale, zero]
    cases load with
    | none => simp [kneeScale, zero]
    | some m =>
      rcases le_or_gt m (kneePoint l k) with low | kneed
      · simp [kneeScale_of_low zero low]
      rcases le_or_gt l m with high | below
      · simp [kneeScale_of_high kneed high]
      · rw [kneeScale_of_between zero kneed below]
        exact kneeScale_between kneed below

/-! ## The limit cause (R111) -/

theorem limitCause_of_met {d g : Int} (caps : List Term) (scale : Int) (knee : LimitCause) (raw : Int) (met : |g| = |d|) :
    limitCause d g caps scale knee raw = .none := by
  rw [limitCause, if_pos (.inr met)]

theorem limitCause_of_capped {d g : Int} {caps : List Term} {x : Term} (scale : Int) (knee : LimitCause) (raw : Int)
    (short : ¬(d = 0 ∨ |g| = |d|)) (found : caps.find? (fun c => decide (c.2 < |d|)) = some x) :
    limitCause d g caps scale knee raw = x.1 := by
  rw [limitCause, if_neg short, found]

theorem limitCause_of_free {d g : Int} {caps : List Term} (scale : Int) (knee : LimitCause) (raw : Int)
    (short : ¬(d = 0 ∨ |g| = |d|)) (free : ∀ x ∈ caps, |d| ≤ x.2) :
    limitCause d g caps scale knee raw = if scale < 1000 then knee else if |g| < |raw| then .slew else .none := by
  have none : caps.find? (fun c => decide (c.2 < |d|)) = none := by
    rw [List.find?_eq_none]
    exact fun x member => by simpa using free x member
  rw [limitCause, if_neg short, none]

/-- In a list ordered by code the first cap below the demand has the least code of those. -/
theorem find_cap_first {caps : List Term} (ordered : caps.Pairwise (fun x y => x.1.code ≤ y.1.code)) {d : Int} {x : Term}
    (found : caps.find? (fun c => decide (c.2 < d)) = some x) :
    x ∈ caps ∧ x.2 < d ∧ ∀ y ∈ caps, y.2 < d → x.1.code ≤ y.1.code := by
  obtain ⟨below, before, after, rfl, passed⟩ := List.find?_eq_some_iff_append.mp found
  obtain ⟨-, rest, -⟩ := List.pairwise_append.mp ordered
  refine ⟨by simp, by simpa using below, fun y member low => ?_⟩
  rcases List.mem_append.mp member with earlier | later
  · exact absurd low (by simpa using passed y earlier)
  · rcases List.mem_cons.mp later with rfl | behind
    · exact le_rfl
    · exact (List.pairwise_cons.mp rest).1 y behind

theorem governedValue_cause (s : State) (a : Axis) {d : Int} (nonzero : d ≠ 0) :
    (governedValue s a d).2 = limitCause d (governedValue s a d).1 (capsOf s a (decide (0 < d)))
      (kneeScale ((limitOf s a (decide (0 < d))).map Limit.value) (Rig.knee s.tables.rig a)
        (directedLoad s a (decide (0 < d))))
      (((limitOf s a (decide (0 < d))).map Limit.cause).getD .none)
      (scaledDemand (cappedDemand d (leastCap (capsOf s a (decide (0 < d)))).2)
        (kneeScale ((limitOf s a (decide (0 < d))).map Limit.value) (Rig.knee s.tables.rig a)
          (directedLoad s a (decide (0 < d))))) := by
  simp only [governedValue, if_neg nonzero]

/-- Every limit is named by a cause (R112). -/
theorem limitOf_cause_ne_none {s : State} {a : Axis} {up : Bool} {l : Limit} (limited : limitOf s a up = some l) :
    l.cause ≠ .none := by
  have torque : (rotaryLimit s).1 ≠ .none := by
    rcases (mem_torqueTerms s _ _).mp (leastTerm_mem (ts := torqueTerms s) (by simp [torqueTerms])) with
      ⟨named, -⟩ | ⟨named, -⟩ | ⟨named, -⟩ <;> exact fun none => nomatch named.symm.trans none
  have crowd : (crowdLeast s).1 ≠ .none := by
    rcases (mem_crowdTerms s _ _).mp (leastTerm_mem (ts := crowdTerms s) (by simp [crowdTerms])) with
      ⟨named, -⟩ | ⟨named, -⟩ | ⟨named, -⟩ | ⟨named, -⟩ <;> exact fun none => nomatch named.symm.trans none
  cases a <;> cases up <;> simp only [limitOf, Option.some.injEq, reduceCtorEq] at limited <;> subst limited
  · exact torque
  · exact torque
  · exact LimitCause.noConfusion
  · dsimp only
    split
    · decide
    · exact crowd
  · exact LimitCause.noConfusion

/-- A cap is named by its group (R106). -/
theorem mem_capsOf (s : State) (a : Axis) (up : Bool) (g : LimitCause) (v : Int) : (g, v) ∈ capsOf s a up ↔
    (g = .auto ∧ v = 0 ∧ a ≠ .rotary ∧ s.sequencer ≠ .idle) ∨
    (g = .slip ∧ v = 0 ∧ (a = .hoist ∧ up = true) ∧
      s.axes.crowd.state = .fault ∧ hasExit s.axes.crowd.exits .lockSlip = true) ∨
    (g = .degraded ∧
      ((a = .rotary ∧ v = Rig.blindRotaryCap s.tables.rig ∧
        ¬((s.sensor .torque).state = .fresh ∧ (s.sensor .angle).state = .fresh)) ∨
      (a = .crowd ∧ v = Rig.blindCrowdCap s.tables.rig ∧ ¬(s.sensor .force).state = .fresh) ∨
      (a = .hoist ∧ v = Rig.creepCap s.tables.rig ∧
        (¬(s.sensor .rope).state = .fresh ∨ ((a = .hoist ∧ up = true) ∧ (geometry s ≠ .tracking ∨ s.mismatch = true)))))) ∨
    (g = .slack ∧ v = 0 ∧ (a = .hoist ∧ up = true) ∧ (s.sensor .rope).state = .fresh ∧
      (s.sensor .rope).value.getD 0 < Rig.slackThreshold s.tables.rig) ∨
    (g = .strokeEnd ∧ v = strokeEndCap s ∧ (a = .hoist ∧ up = true) ∧ s.tables.bar.valid = true ∧
      remainingStroke s < Rig.endZone s.tables.rig) ∨
    (g = .bandCap ∧ ((a = .rotary ∧ v = (bandInForce s).rotaryCap) ∨
      ((a = .hoist ∧ up = true) ∧ v = (bandInForce s).hoistCap))) := by
  cases a with
  | rotary =>
    simp only [capsOf, List.mem_append, mem_capIf, List.mem_singleton, Prod.mk.injEq, isFresh]
    simp
    tauto
  | crowd =>
    simp only [capsOf, List.mem_append, mem_capIf, isFresh]
    simp
    tauto
  | hoist =>
    simp only [capsOf, List.mem_append, mem_capIf, isFresh, slipInterlock, sensorValue]
    cases up <;> simp
    · tauto
    · constructor
      · rintro ((((((⟨runs, rfl, rfl⟩ | ⟨slips, rfl, rfl⟩) | ⟨blind, rfl, rfl⟩) | ⟨untracked, rfl, rfl⟩) | ⟨⟨fresh, slack⟩, rfl, rfl⟩) |
          ⟨ends, rfl, rfl⟩) | ⟨rfl, rfl⟩) <;> simp_all
        exact of_decide_eq_true slack
      · rintro (⟨rfl, rfl, runs⟩ | ⟨rfl, rfl, slips⟩ | ⟨rfl, rfl, blind⟩ | ⟨rfl, rfl, fresh, slack⟩ | ⟨rfl, rfl, ends⟩ | ⟨rfl, rfl⟩) <;>
          simp_all

/-- The stroke left to the joints that are not LOCKED is not negative while they lie within their strokes (R65). -/
theorem remainingStroke_nonneg {s : State} (within : JointsWithinStroke s) : 0 ≤ remainingStroke s := by
  refine List.sum_nonneg fun x member => ?_
  obtain ⟨p, isJoint, rfl⟩ := List.mem_map.mp member
  have bounds := within.offset p isJoint
  split <;> omega

/-- No cap is negative while the joints lie within their strokes (R106, R107). -/
theorem capsOf_nonneg {s : State} (within : JointsWithinStroke s) (a : Axis) (up : Bool) :
    ∀ x ∈ capsOf s a up, 0 ≤ x.2 := by
  obtain ⟨-, rotary, hoist⟩ := bandInForce_caps_nonneg s
  rintro ⟨g, v⟩ member
  rcases (mem_capsOf s a up g v).mp member with ⟨-, rfl, -⟩ | ⟨-, rfl, -⟩ |
    ⟨-, ⟨-, rfl, -⟩ | ⟨-, rfl, -⟩ | ⟨-, rfl, -⟩⟩ | ⟨-, rfl, -⟩ | ⟨-, rfl, -⟩ | ⟨-, ⟨-, rfl⟩ | ⟨-, rfl⟩⟩
  case inr.inr.inr.inr.inl =>
    exact Int.tdiv_nonneg (mul_nonneg (by norm_num) (remainingStroke_nonneg within)) (Int.natCast_nonneg _)
  all_goals first | exact le_rfl | exact Int.natCast_nonneg _ | assumption

theorem leastCap_nonneg {s : State} (within : JointsWithinStroke s) (a : Axis) (up : Bool) :
    0 ≤ (leastCap (capsOf s a up)).2 := by
  by_cases none : capsOf s a up = []
  · rw [leastCap_of_none none]
    decide
  · rw [leastCap_of_some none]
    exact capsOf_nonneg within a up _ (leastTerm_mem none)

/-- With no cap below the demand, the cap C is not below it either, up to 1000. -/
theorem le_leastCap {caps : List Term} {d : Int} (free : ∀ x ∈ caps, |d| ≤ x.2) (bound : |d| ≤ 1000) :
    |d| ≤ (leastCap caps).2 := by
  by_cases none : caps = []
  · rw [leastCap_of_none none]
    exact bound
  · rw [leastCap_of_some none]
    exact free _ (leastTerm_mem none)

/-- Settles O51. -/
theorem capsKneeAndCause : Obligations.CapsKneeAndCause := by
  refine ⟨?caps, ?knee, ?cause⟩
  case caps =>
    intro s a up rig fresh caps c sequenced lowering slips remaining
    refine ⟨fun g v => mem_capsOf s a up g v, leastCap_of_none, fun some => ?_⟩
    have least : c = leastTerm caps := leastCap_of_some some
    rw [least]
    exact ⟨leastTerm_mem some, leastTerm_first (capsOf_ordered s a up)⟩
  case knee =>
    intro l k m load kp
    refine ⟨rfl, rfl, fun limited => by simp [kneeScale, limited], kneeScale_of_low, kneeScale_of_high,
      fun limited kneed below => ?_⟩
    have scaled : kneeScale (some l) k (some m) = ((l - m) * 1000).tdiv (l - kp) := kneeScale_of_between limited kneed below
    exact ⟨scaled, kneeScale_bounds _ _ _⟩
  case cause =>
    intro s a d up caps g raw v free
    by_cases zero : d = 0
    · have value : v = (0, .none) := by simp [v, governedValue, zero]
      have met : |v.1| = |d| := by rw [value, zero]
      exact ⟨fun _ => value, fun _ => by rw [value], fun short => absurd met short, fun short => absurd met short,
        fun short => absurd met short, fun short => absurd met short⟩
    have cause : v.2 = limitCause d v.1 caps g (((limitOf s a up).map Limit.cause).getD .none) raw :=
      governedValue_cause s a zero
    have unmet (short : |v.1| ≠ |d|) : ¬(d = 0 ∨ |v.1| = |d|) := by tauto
    have capped (short : |v.1| ≠ |d|) (limited : ¬free) :
        ∃ x ∈ caps, x.2 < |d| ∧ v.2 = x.1 ∧ ∀ y ∈ caps, y.2 < |d| → x.1.code ≤ y.1.code := by
      obtain ⟨x, found⟩ : ∃ x, caps.find? (fun c => decide (c.2 < |d|)) = some x := by
        rw [← Option.isSome_iff_exists, List.find?_isSome]
        simpa [free] using limited
      obtain ⟨member, low, first⟩ := find_cap_first (capsOf_ordered s a up) found
      exact ⟨x, member, low, cause.trans (limitCause_of_capped _ _ _ (unmet short) found), first⟩
    have kneed (short : |v.1| ≠ |d|) (uncapped : free) (scaled : g < 1000) :
        ∃ l, limitOf s a up = some l ∧ v.2 = l.cause := by
      rw [limitCause_of_free _ _ _ (unmet short) uncapped, if_pos scaled] at cause
      cases limit : limitOf s a up with
      | none =>
        have whole : g = 1000 := by simp [g, limit, kneeScale]
        omega
      | some l =>
        rw [limit] at cause
        exact ⟨l, rfl, cause⟩
    have whole (short : |v.1| ≠ |d|) (uncapped : free) (full : 1000 ≤ g) :
        v.2 = if |v.1| < |raw| then .slew else .none := by
      rw [cause, limitCause_of_free _ _ _ (unmet short) uncapped, if_neg (not_lt.mpr full)]
    refine ⟨fun zero' => absurd zero' zero, fun met => cause.trans (limitCause_of_met _ _ _ _ met), capped, kneed, whole,
      fun short bound => ?_⟩
    by_cases uncapped : free
    · rcases lt_or_ge g 1000 with scaled | full
      · obtain ⟨l, limit, named⟩ := kneed short uncapped scaled
        rw [named]
        exact limitOf_cause_ne_none limit
      · have whole' : g = 1000 := le_antisymm (kneeScale_bounds _ _ _).2 full
        have reached : |d| ≤ (leastCap caps).2 := le_leastCap uncapped bound
        have demanded : |raw| = |d| := by
          have scaled : raw = cappedDemand d (leastCap caps).2 := by
            rw [← scaledDemand_full (cappedDemand d (leastCap caps).2), ← whole']
          rw [scaled, abs_cappedDemand d ((abs_nonneg d).trans reached), min_eq_left reached]
        have within : |v.1| ≤ |raw| := by
          have value : v.1 = _ := governedValue_value s a zero
          rw [value]
          exact (slewed_within _ raw (one_le_slewStep _ _)).1
        rw [whole short uncapped full, if_pos (lt_of_le_of_ne within (demanded ▸ short))]
        decide
    · obtain ⟨x, member, -, named, -⟩ := capped short uncapped
      rw [named]
      rcases (mem_capsOf s a up x.1 x.2).mp member with ⟨group, -⟩ | ⟨group, -⟩ | ⟨group, -⟩ | ⟨group, -⟩ | ⟨group, -⟩ | ⟨group, -⟩ <;>
        exact fun none => nomatch group.symm.trans none

/-! ## The governed value within its demand -/

/-- Settles O53: cap, scale and slew each stay within the demand and on its side. -/
theorem governedValueStaysWithinTheDemand : Obligations.GovernedValueStaysWithinTheDemand := by
  intro s a d within
  by_cases zero : d = 0
  · simp [governedValue, zero]
  have cap := leastCap_nonneg within a (decide (0 < d))
  obtain ⟨low, high⟩ := kneeScale_bounds ((limitOf s a (decide (0 < d))).map Limit.value) (Rig.knee s.tables.rig a)
    (directedLoad s a (decide (0 < d)))
  rw [governedValue_value s a zero]
  generalize leastCap (capsOf s a (decide (0 < d))) = c at cap ⊢
  generalize kneeScale _ _ _ = g at low high ⊢
  obtain ⟨slewedWithin, sameSide⟩ :=
    slewed_within (s.axis a).governed (scaledDemand (cappedDemand d c.2) g) (one_le_slewStep (Rig.slew s.tables.rig a) (elapsedTime s a))
  have rawWithin : |scaledDemand (cappedDemand d c.2) g| ≤ |d| := by
    have scaled := abs_scaledDemand_le (cappedDemand d c.2) low high
    rw [abs_cappedDemand d cap] at scaled
    exact scaled.trans (min_le_left _ _)
  have rawSide : 0 ≤ scaledDemand (cappedDemand d c.2) g * d := scaledDemand_mul_nonneg low (cappedDemand_mul_nonneg d cap)
  generalize slewed _ _ _ = v at slewedWithin sameSide ⊢
  generalize scaledDemand _ _ = raw at slewedWithin sameSide rawWithin rawSide ⊢
  refine ⟨slewedWithin.trans rawWithin, ?_⟩
  rcases lt_trichotomy raw 0 with negative | rfl | positive
  · exact mul_nonneg_of_nonpos_of_nonpos (nonpos_of_mul_nonneg_left sameSide negative) (nonpos_of_mul_nonneg_right rawSide negative)
  · rw [abs_zero, abs_nonpos_iff] at slewedWithin
    simp [slewedWithin]
  · exact mul_nonneg (nonneg_of_mul_nonneg_left sameSide positive) (nonneg_of_mul_nonneg_right rawSide positive)

end Sys2Proof.Machine
end

section
/-! Evaluations seen from one axis, one after another (R134, R135), and operator commands: stored, evaluated, starting a sequence,
refused or answered in AUTO (R122 to R127, R155 to R158). -/

namespace Sys2Proof.Machine

open Sys2Proof

/-! ## What the governing arithmetic reads -/

/-- The two states agree on what the governing arithmetic reads outside the axes and the sequencer (R102 to R112). -/
structure SameEnvelope (s t : State) : Prop where
  tables   : t.tables = s.tables
  sensors  : t.sensors = s.sensors
  joints   : t.joints = s.joints
  mismatch : t.mismatch = s.mismatch
  band     : t.band = s.band
  backoff  : t.backoff = s.backoff
  millis   : t.millis = s.millis

/-- The two states agree on what holds CROWD and HOIST back: a running sequence and the slip interlock (R106, R107). -/
structure SameInterlocks (s t : State) : Prop where
  sequencer : t.sequencer = s.sequencer
  slip      : slipInterlock t = slipInterlock s

theorem SameEnvelope.trans {s t u : State} (h : SameEnvelope s t) (k : SameEnvelope t u) : SameEnvelope s u :=
  ⟨k.tables.trans h.tables, k.sensors.trans h.sensors, k.joints.trans h.joints, k.mismatch.trans h.mismatch,
    k.band.trans h.band, k.backoff.trans h.backoff, k.millis.trans h.millis⟩

theorem SameInterlocks.trans {s t u : State} (h : SameInterlocks s t) (k : SameInterlocks t u) : SameInterlocks s u :=
  ⟨k.sequencer.trans h.sequencer, k.slip.trans h.slip⟩

theorem SameTracking.envelope {s t : State} (h : SameTracking s t) : SameEnvelope s t :=
  ⟨h.tables, h.sensors, h.joints, h.mismatch, h.band, h.backoff, h.millis⟩

theorem SameSequence.interlocks {s t : State} (h : SameSequence s t) (state : (t.axis .crowd).state = (s.axis .crowd).state)
    (exits : (t.axis .crowd).exits = (s.axis .crowd).exits) : SameInterlocks s t := by
  refine ⟨h.sequencer, ?_⟩
  have state' : t.axes.crowd.state = s.axes.crowd.state := state
  have exits' : t.axes.crowd.exits = s.axes.crowd.exits := exits
  simp only [slipInterlock, state', exits']

theorem SameEnvelope.isFresh {s t : State} (h : SameEnvelope s t) (q : Quantity) : isFresh t q = isFresh s q := by
  simp only [Machine.isFresh, State.sensor, h.sensors]

theorem SameEnvelope.geometry {s t : State} (h : SameEnvelope s t) : geometry t = geometry s := by
  simp only [Machine.geometry, h.isFresh, h.tables]

theorem SameEnvelope.alignedSet {s t : State} (h : SameEnvelope s t) : alignedSet t = alignedSet s := by
  simp only [Machine.alignedSet, h.joints]

theorem SameEnvelope.anyNotFree {s t : State} (h : SameEnvelope s t) : anyNotFree t = anyNotFree s := by
  simp only [Machine.anyNotFree, h.joints]

theorem SameEnvelope.bandInForce {s t : State} (h : SameEnvelope s t) : bandInForce t = bandInForce s := by
  simp only [Machine.bandInForce, h.band, h.tables]

theorem SameEnvelope.sensorValue {s t : State} (h : SameEnvelope s t) (q : Quantity) : sensorValue t q = sensorValue s q := by
  simp only [Machine.sensorValue, State.sensor, h.sensors]

theorem SameEnvelope.remainingStroke {s t : State} (h : SameEnvelope s t) : remainingStroke t = remainingStroke s := by
  simp only [Machine.remainingStroke, h.joints, h.tables]

theorem SameEnvelope.limitOf {s t : State} (h : SameEnvelope s t) (a : Axis) (up : Bool) : limitOf t a up = limitOf s a up := by
  have drawn : openJoints t = openJoints s := by simp only [openJoints, h.joints, h.tables]
  have torque : rotaryLimit t = rotaryLimit s := by simp only [rotaryLimit, torqueTerms, drawn, h.tables, h.bandInForce]
  have crowd : crowdLeast t = crowdLeast s := by
    simp only [crowdLeast, crowdJointTerms, drawn, h.tables, h.bandInForce, h.geometry]
  have down : crowdDownLimit t = crowdDownLimit s := by simp only [crowdDownLimit, crowd, h.backoff]
  cases a <;> cases up <;> simp only [Machine.limitOf, torque, crowd, down, h.tables, h.backoff]

theorem SameEnvelope.directedLoad {s t : State} (h : SameEnvelope s t) (a : Axis) (up : Bool) :
    directedLoad t a up = directedLoad s a up := by
  have measured : measuredValue t a = measuredValue s a := by cases a <;> simp only [measuredValue, h.sensorValue]
  simp only [Machine.directedLoad, h.isFresh, measured]

theorem SameEnvelope.capsOf {s t : State} (h : SameEnvelope s t) {a : Axis} (interlocks : a ≠ .rotary → SameInterlocks s t)
    (up : Bool) : capsOf t a up = capsOf s a up := by
  cases a with
  | rotary => simp only [Machine.capsOf, h.isFresh, h.tables, h.bandInForce]
  | crowd =>
    have locks := interlocks (by decide)
    simp only [Machine.capsOf, h.isFresh, h.tables, locks.sequencer]
  | hoist =>
    have locks := interlocks (by decide)
    simp only [Machine.capsOf, h.isFresh, h.tables, h.bandInForce, h.geometry, h.mismatch, h.sensorValue, h.remainingStroke,
      strokeEndCap, locks.sequencer, locks.slip]

/-- The governed value depends on the envelope, and of its axis on G and the time of the last evaluation. -/
theorem SameEnvelope.governedValue {s t : State} (h : SameEnvelope s t) {a : Axis}
    (interlocks : a ≠ .rotary → SameInterlocks s t) (governed : (t.axis a).governed = (s.axis a).governed)
    (lastEval : (t.axis a).lastEval = (s.axis a).lastEval) (d : Int) : governedValue t a d = governedValue s a d := by
  simp only [Machine.governedValue, elapsedTime, h.limitOf, h.directedLoad, h.capsOf interlocks, h.tables, h.millis, governed,
    lastEval]

theorem SameEnvelope.evaluated {s t : State} (h : SameEnvelope s t) {a : Axis} (interlocks : a ≠ .rotary → SameInterlocks s t)
    (sequencer : t.sequencer = s.sequencer) (axis : t.axis a = s.axis a) : evaluated t a = evaluated s a := by
  have governed := h.governedValue interlocks (by rw [axis]) (by rw [axis])
  simp only [Machine.evaluated, creepDemand, governed, axis, sequencer, h.tables]

/-! ## Evaluations of several axes (R134) -/

theorem EvaluatedIn.of_same {u s s' t : State} {u' : State} {a : Axis} (h : EvaluatedIn u' s' t a)
    (value : evaluated u' a = evaluated u a) (same : SameAt a s s') (millis : s'.millis = s.millis)
    (governor : s'.governor = s.governor) : EvaluatedIn u s t a := by
  obtain ⟨record, frame⟩ := h
  rw [value, same.axis, millis] at record
  rw [value, same.axis, produce_delivery_congr same.delivery (same.busOff .machine) governor] at frame
  exact ⟨record, frame⟩

theorem EvaluatedIn.then_same {u s t v : State} {a : Axis} (h : EvaluatedIn u s t a) (same : SameAt a t v) :
    EvaluatedIn u s v a :=
  ⟨same.axis.trans h.1, same.delivery.trans h.2⟩

theorem evaluateNow_interlocks (s : State) (a : Axis) : SameInterlocks s (evaluateNow s a) := by
  refine (evaluateNow_frame s a).interlocks (evaluate_state s a .crowd false) ?_
  by_cases crowd : .crowd = a
  · subst crowd
    rw [evaluateNow, evaluate_axis_same]
    rfl
  · rw [evaluateNow, evaluate_axis_other s a .crowd false crowd]

/-- An evaluation of other axes before it changes nothing that an evaluation reads. -/
theorem evaluated_evaluateNow (s : State) {a b : Axis} (other : a ≠ b) : evaluated (evaluateNow s b) a = evaluated s a :=
  (evaluateNow_frame s b).envelope.evaluated (fun _ => evaluateNow_interlocks s b) (evaluateNow_frame s b).sequencer
    (evaluateNow_same_at s other).axis

theorem evaluateAxes_cons (s : State) (a : Axis) (l : List Axis) : evaluateAxes s (a :: l) = evaluateAxes (evaluateNow s a) l := rfl

theorem evaluateAxes_same_at {l : List Axis} {a : Axis} (others : a ∉ l) (s : State) : SameAt a s (evaluateAxes s l) := by
  induction l generalizing s with
  | nil => rfl
  | cons b l ih =>
    rw [List.mem_cons, not_or] at others
    obtain ⟨here, rest⟩ := others
    exact (evaluateNow_same_at s here).trans (ih rest _)

/-- Each axis of a list is evaluated as if alone. -/
theorem evaluateAxes_evaluatedIn {l : List Axis} (nodup : l.Nodup) {a : Axis} (member : a ∈ l) (s : State) :
    EvaluatedIn s s (evaluateAxes s l) a := by
  induction l generalizing s with
  | nil => exact absurd member List.not_mem_nil
  | cons b l ih =>
    obtain ⟨fresh, nodup⟩ := List.nodup_cons.mp nodup
    rw [evaluateAxes_cons]
    by_cases here : a = b
    · subst here
      exact (evaluateNow_evaluatedIn s a).then_same (evaluateAxes_same_at fresh _)
    · have frame := evaluateNow_frame s b
      exact (ih nodup ((List.mem_cons.mp member).resolve_left here) _).of_same (evaluated_evaluateNow s here)
        (evaluateNow_same_at s here) frame.millis frame.governor

theorem evaluateAll_evaluatedIn (s : State) (a : Axis) : EvaluatedIn s s (evaluateAll s) a :=
  evaluateAxes_evaluatedIn (by decide) (mem_allAxes a) s

theorem evaluateAxes_reports (s : State) (l : List Axis) : (evaluateAxes s l).reports = s.reports := by
  induction l generalizing s with
  | nil => rfl
  | cons a l ih => exact (ih _).trans (evaluateNow_reports s a)

theorem evaluateInService_of_inService {s : State} {a : Axis} (service : (s.axis a).state.inService) :
    evaluateInService s a = evaluateNow s a := by
  rcases service with state | state | state <;> simp only [evaluateInService, state]

theorem evaluateInService_of_outOfService {s : State} {a : Axis} (service : (s.axis a).state.outOfService) :
    evaluateInService s a = s := by
  rcases service with state | state <;> simp only [evaluateInService, state]

/-! ## The auto interlock (R107, R157) -/

theorem JointsWithinStroke.of_same {s t : State} (within : JointsWithinStroke s) (tables : t.tables = s.tables)
    (joints : t.joints = s.joints) (extension : t.extension = s.extension) : JointsWithinStroke t := by
  obtain ⟨count, sum, offset, nearest, locked, noRow, windows, present, rows⟩ := within
  rw [← tables] at count sum offset nearest locked windows present rows
  rw [← joints] at count sum offset nearest locked noRow
  rw [← extension] at sum
  exact ⟨count, sum, offset, nearest, locked, noRow, windows, present, rows⟩

/-- While a sequence runs the cap of CROWD and HOIST is 0 (R107). -/
theorem leastCap_of_sequence {s : State} (within : JointsWithinStroke s) (running : s.sequencer ≠ .idle) {a : Axis}
    (other : a ≠ .rotary) (up : Bool) : (leastCap (capsOf s a up)).2 = 0 := by
  have interlock : (.auto, 0) ∈ capsOf s a up := (mem_capsOf s a up _ _).mpr (.inl ⟨rfl, rfl, other, running⟩)
  refine le_antisymm ?_ (leastCap_nonneg within a up)
  rw [leastCap_of_some (List.ne_nil_of_mem interlock)]
  exact leastTerm_le _ interlock

theorem governedValue_of_sequence {s : State} (within : JointsWithinStroke s) (running : s.sequencer ≠ .idle) {a : Axis}
    (other : a ≠ .rotary) (d : Int) : (governedValue s a d).1 = 0 := by
  by_cases zero : d = 0
  · rw [zero, governedValue_zero]
  · have capped : cappedDemand d 0 = 0 := abs_nonpos_iff.mp (by rw [abs_cappedDemand d le_rfl]; exact min_le_right _ _)
    rw [governedValue_value s a zero, leastCap_of_sequence within running other, capped]
    have raw (g : Int) : scaledDemand 0 g = 0 := by simp [scaledDemand]
    rw [raw]
    exact abs_nonpos_iff.mp (abs_zero (α := Int) ▸ (slewed_within _ 0 (one_le_slewStep _ _)).1)

/-- While a sequence runs CROWD and HOIST are evaluated to 0, whatever their states (R107, R135). -/
theorem evaluated_of_sequence {s : State} (within : JointsWithinStroke s) (running : s.sequencer ≠ .idle) {a : Axis}
    (other : a ≠ .rotary) : (evaluated s a).1 = 0 := by
  have value := governedValue_of_sequence within running other
  unfold evaluated
  dsimp only
  split
  · rfl
  · rfl
  · exact value _
  · exact value _
  · split
    · exact value _
    · next still =>
      rw [value] at still
      by_contra moving
      exact still ⟨by simpa using moving, by simp⟩

/-! ## An accepted command (R122 to R124) -/

theorem isGap_iff (last : Option Nat) (alive : Nat) : isGap last alive = true ↔ ∃ l, last = some l ∧ alive ≠ (l + 1) % 16 := by
  cases last <;> simp [isGap]

/-- An operator command has been received, counted and stored; its action and its evaluation are still to come. -/
def stored (s : State) (a : Axis) (payload : List Byte) : State :=
  (countedCommand s a payload).setAxis a ((s.axis a).commanded s a payload)

theorem recordCommand_eq_stored (s : State) (a : Axis) (payload : List Byte) :
    recordCommand (heard s .operator) a payload = stored s a payload := by
  have alive : isGap (s.axis a).lastAlive (commandAlive payload) = true ↔
      ∃ l, (s.axis a).lastAlive = some l ∧ u8At payload 2 % 16 ≠ (l + 1) % 16 := isGap_iff _ _
  have counted : (fun c : AxisCounters => c.accepting (isGap (s.axis a).lastAlive (commandAlive payload)) (demandClamped payload)
      ((s.axis a).state == .neutral && demandAfterDeadband s payload != 0)) = (fun k => { k with
        accepted := bump k.accepted
        gaps := if ∃ l, (s.axis a).lastAlive = some l ∧ u8At payload 2 % 16 ≠ (l + 1) % 16 then bump k.gaps else k.gaps
        clamped := if clamp (-1000) 1000 (s16At payload 0) ≠ s16At payload 0 then bump k.clamped else k.clamped
        notCentred := if (s.axis a).state = .neutral ∧ demandAfterDeadband s payload ≠ 0 then bump k.notCentred
          else k.notCentred }) := by
    funext k
    simp only [AxisCounters.accepting, alive, demandClamped, commandDemand, bne_iff_ne, Bool.and_eq_true, beq_iff_eq]
  have record : (s.axis a).accepting (commandAlive payload) (demandAfterDeadband s payload) (freshnessReload s a) =
      (s.axis a).commanded s a payload := by
    simp only [AxisRecord.accepting, AxisRecord.commanded, freshnessReload]
    split <;> rfl
  show ((heard s .operator).countAxis a _).setAxis a _ = _
  exact congrArg₂ (fun f r => ((heard s .operator).countAxis a f).setAxis a r) counted record

theorem stored_axis (s : State) (a : Axis) (payload : List Byte) :
    (stored s a payload).axis a = (s.axis a).commanded s a payload := State.axis_setAxis_same _ a _

theorem stored_same_at (s : State) {a b : Axis} (payload : List Byte) (other : b ≠ a) :
    SameAt b (heard s .operator) (stored s a payload) :=
  ⟨State.axis_setAxis_other _ a b _ other, rfl, rfl⟩

theorem stored_frame (s : State) (a : Axis) (payload : List Byte) : SameSequence (heard s .operator) (stored s a payload) :=
  (State.countAxis_frame _ _ _).trans (State.setAxis_frame _ _ _)

theorem stored_counts (s : State) (a : Axis) (payload : List Byte) : SameCounts (countedCommand s a payload) (stored s a payload) :=
  State.setAxis_counts _ _ _

theorem stored_envelope (s : State) (a : Axis) (payload : List Byte) : SameEnvelope s (stored s a payload) :=
  ⟨rfl, rfl, rfl, rfl, rfl, rfl, rfl⟩

theorem stored_busOff (s : State) (a : Axis) (payload : List Byte) (p : Port) : isBusOff (stored s a payload) p = isBusOff s p :=
  heard_busOff s .operator p

theorem stored_interlocks (s : State) (a : Axis) (payload : List Byte) : SameInterlocks s (stored s a payload) := by
  refine ⟨rfl, ?_⟩
  cases a <;> rfl

/-- A new command that passes its checks: stored, acted upon, handed to the sequencer, and evaluated last (R122 to R125). -/
theorem exec_operatorCommand_of_new {s : State} {a : Axis} {payload : List Byte} (takes : takesPart s .operator = true)
    (long : payload.length = 4) (sound : byteSum payload = 0) (new : (s.axis a).lastAlive ≠ some (u8At payload 2 % 16)) :
    exec (.operatorCommand a payload) s = .next
      (evaluateInService (commandHandOff (commandAction (stored s a payload) a (demandAfterDeadband s payload)) a payload
        (demandAfterDeadband s payload)) a) := by
  rw [exec_operatorCommand s a payload takes, receiveCommand_of_length long,
    takeCommand_of_new (s := heard s .operator) sound new, ← recordCommand_eq_stored]
  rfl

theorem demandAfterDeadband_eq (s : State) (payload : List Byte) : demandAfterDeadband s payload =
    if s.tables.rig.valid = true ∧ |clamp (-1000) 1000 (s16At payload 0)| < Rig.deadband s.tables.rig then 0
    else clamp (-1000) 1000 (s16At payload 0) := by
  cases valid : s.tables.rig.valid
  · have nonneg : ¬|clamp (-1000) 1000 (commandDemand payload)| < 0 := not_lt.mpr (abs_nonneg _)
    simp only [demandAfterDeadband, deadband, valid, Bool.false_eq_true, if_false, if_neg nonneg, false_and] <;> rfl
  · simp only [demandAfterDeadband, deadband, valid, if_true, true_and]
    rfl

/-- An axis enters ACTIVE at a command: RAMPDOWN returns, NEUTRAL re-enters on a zero demand where it may (R124, R127). -/
def entersActive (s : State) (a : Axis) (d : Int) : Prop :=
  (s.axis a).state = .rampdown ∨
    ((s.axis a).state = .neutral ∧ d = 0 ∧ s.governor = .govern ∧ isBusOff s .machine = false)

theorem mayReenter_iff {s : State} {a : Axis} (neutral : (s.axis a).state = .neutral) :
    mayReenter s a = true ↔ s.governor = .govern ∧ isBusOff s .machine = false := by
  simp [mayReenter, neutral]

theorem commandAction_of_kept {s : State} {a : Axis} {d : Int} (kept : ¬entersActive s a d) : commandAction s a d = s := by
  cases state : (s.axis a).state with
  | neutral =>
    have stays : ¬(d = 0 ∧ mayReenter s a = true) := fun ⟨zero, enters⟩ =>
      kept (.inr ⟨state, zero, (mayReenter_iff state).mp enters⟩)
    simp only [commandAction, state, if_neg stays]
  | rampdown => exact absurd (.inl state) kept
  | active => simp only [commandAction, state]
  | auto => simp only [commandAction, state]
  | fault => simp only [commandAction, state]

theorem commandAction_of_entered {s : State} {a : Axis} {d : Int} (entered : entersActive s a d) :
    commandAction s a d = report (s.setAxis a { s.axis a with
      state := .active, ramp := if (s.axis a).state = .rampdown then none else (s.axis a).ramp }) .axisState a.code 1 := by
  rcases entered with state | ⟨state, zero, enters⟩
  · simp only [commandAction, state, if_true, reportAxisState, State.axis_setAxis_same]
    rfl
  · have reenters : d = 0 ∧ mayReenter s a = true := ⟨zero, (mayReenter_iff state).mpr enters⟩
    simp only [commandAction, state, if_pos reenters, reportAxisState, State.axis_setAxis_same]
    rfl

theorem stored_entersActive (s : State) (a : Axis) (payload : List Byte) (d : Int) :
    entersActive (stored s a payload) a d ↔ entersActive s a d := by
  have state : ((stored s a payload).axis a).state = (s.axis a).state := by rw [stored_axis]; rfl
  simp only [entersActive, state, stored_busOff]
  rfl

theorem commandHandOff_of_plain {s : State} {a : Axis} {payload : List Byte} {d : Int}
    (plain : a = .rotary → commandLockReq payload = false ∧ commandReleaseReq payload = false)
    (notAuto : (s.axis a).state ≠ .auto) : commandHandOff s a payload d = s := by
  refine if_neg ?_
  rintro ⟨rfl, requested⟩
  obtain ⟨lock, release⟩ := plain rfl
  rcases requested with locks | releases | auto
  · simp [lock] at locks
  · simp [release] at releases
  · exact notAuto auto

theorem commandHandOff_of_flag {s : State} {payload : List Byte} (d : Int)
    (flagged : commandLockReq payload = true ∨ commandReleaseReq payload = true) :
    commandHandOff s .rotary payload d = sequencerCommand s (commandLockReq payload) (commandReleaseReq payload) d :=
  if_pos ⟨rfl, flagged.imp id .inl⟩

theorem commandHandOff_of_auto {s : State} (payload : List Byte) (d : Int) (auto : s.axes.rotary.state = .auto) :
    commandHandOff s .rotary payload d = sequencerCommand s (commandLockReq payload) (commandReleaseReq payload) d :=
  if_pos ⟨rfl, .inr (.inr auto)⟩

/-- Settles O18. -/
theorem commandOutOfServiceIsStored : Obligations.CommandOutOfServiceIsStored := by
  intro s a payload takes long sound c d new out kept plain
  refine ⟨demandAfterDeadband_eq s payload, ?_⟩
  have stays : ¬entersActive (stored s a payload) a d := by
    rw [stored_entersActive]
    rintro (ramping | enters)
    · rcases out with state | state <;> simp [state] at ramping
    · exact kept enters
  have state : ((stored s a payload).axis a).state = (s.axis a).state := by rw [stored_axis]; rfl
  have notAuto : ((stored s a payload).axis a).state ≠ .auto := by rcases out with h | h <;> simp [state, h]
  rw [exec_operatorCommand_of_new takes long sound new, commandAction_of_kept stays, commandHandOff_of_plain plain notAuto,
    evaluateInService_of_outOfService (by rw [state]; exact out)]
  rfl

/-! ## Commands in service (R124, R127) -/

/-- The state after a command's action: the axis in ACTIVE with AXIS_STATE where it was not, else as stored. -/
def resumed (s : State) (a : Axis) (payload : List Byte) : State :=
  commandAction (stored s a payload) a (demandAfterDeadband s payload)

theorem resumed_of_entered {s : State} {a : Axis} {payload : List Byte}
    (entered : entersActive s a (demandAfterDeadband s payload)) :
    resumed s a payload = report ((stored s a payload).setAxis a { (s.axis a).commanded s a payload with
      state := .active, ramp := if (s.axis a).state = .rampdown then none else (s.axis a).ramp }) .axisState a.code 1 := by
  rw [resumed, commandAction_of_entered ((stored_entersActive s a payload _).mpr entered), stored_axis]
  rfl

theorem resumed_of_kept {s : State} {a : Axis} {payload : List Byte}
    (kept : ¬entersActive s a (demandAfterDeadband s payload)) : resumed s a payload = stored s a payload :=
  commandAction_of_kept (mt (stored_entersActive s a payload _).mp kept)

theorem resumed_frame (s : State) (a : Axis) (payload : List Byte) : SameSequence (heard s .operator) (resumed s a payload) :=
  (stored_frame s a payload).trans (commandAction_frame _ _ _)

theorem resumed_counts (s : State) (a : Axis) (payload : List Byte) :
    SameCounts (countedCommand s a payload) (resumed s a payload) :=
  (stored_counts s a payload).trans (commandAction_counts _ _ _)

theorem resumed_envelope (s : State) (a : Axis) (payload : List Byte) : SameEnvelope s (resumed s a payload) :=
  (stored_envelope s a payload).trans (commandAction_frame _ _ _).envelope

theorem resumed_same_at (s : State) {a b : Axis} (payload : List Byte) (other : b ≠ a) :
    SameAt b (heard s .operator) (resumed s a payload) := by
  have before := stored_same_at s payload other
  by_cases entered : entersActive s a (demandAfterDeadband s payload)
  · rw [resumed_of_entered entered]
    exact before.trans ⟨State.axis_setAxis_other _ a b _ other, rfl, rfl⟩
  · rw [resumed_of_kept entered]
    exact before

theorem resumed_delivery (s : State) (a b : Axis) (payload : List Byte) : (resumed s a payload).delivery b = s.delivery b := by
  by_cases entered : entersActive s a (demandAfterDeadband s payload)
  · rw [resumed_of_entered entered]
    rfl
  · rw [resumed_of_kept entered]
    rfl

theorem resumed_busOff (s : State) (a : Axis) (payload : List Byte) (p : Port) : isBusOff (resumed s a payload) p = isBusOff s p := by
  rw [isBusOff, State.port, (resumed_frame s a payload).ports]
  exact heard_busOff s .operator p

theorem resumed_axis_of_entered {s : State} {a : Axis} {payload : List Byte}
    (entered : entersActive s a (demandAfterDeadband s payload)) : (resumed s a payload).axis a =
      { (s.axis a).commanded s a payload with
        state := .active, ramp := if (s.axis a).state = .rampdown then none else (s.axis a).ramp } := by
  rw [resumed_of_entered entered]
  exact State.axis_setAxis_same _ a _

theorem resumed_axis_of_kept {s : State} {a : Axis} {payload : List Byte}
    (kept : ¬entersActive s a (demandAfterDeadband s payload)) :
    (resumed s a payload).axis a = (s.axis a).commanded s a payload := by
  rw [resumed_of_kept kept, stored_axis]

/-- G and the time of the last evaluation are still those that the command found. -/
theorem resumed_held (s : State) (a : Axis) (payload : List Byte) :
    ((resumed s a payload).axis a).governed = (s.axis a).governed ∧
    ((resumed s a payload).axis a).lastEval = (s.axis a).lastEval ∧
    ((resumed s a payload).axis a).demand = some (demandAfterDeadband s payload) := by
  by_cases entered : entersActive s a (demandAfterDeadband s payload)
  · rw [resumed_axis_of_entered entered]
    exact ⟨rfl, rfl, rfl⟩
  · rw [resumed_axis_of_kept entered]
    exact ⟨rfl, rfl, rfl⟩

theorem resumed_interlocks {s : State} {a : Axis} {payload : List Byte} (service : (s.axis a).state ≠ .fault) :
    SameInterlocks s (resumed s a payload) := by
  refine ⟨(resumed_frame s a payload).sequencer, ?_⟩
  by_cases entered : entersActive s a (demandAfterDeadband s payload)
  · rw [resumed_of_entered entered]
    cases a with
    | crowd =>
      have healthy : (s.axes.crowd.state == .fault) = false := by simpa using (show s.axes.crowd.state ≠ .fault from service)
      simp only [slipInterlock, healthy, Bool.false_and]
      rfl
    | rotary => rfl
    | hoist => rfl
  · rw [resumed_of_kept entered]
    exact (stored_interlocks s a payload).slip

/-- Settles O19. -/
theorem commandInServiceIsEvaluated : Obligations.CommandInServiceIsEvaluated := by
  intro s a payload takes long sound new d v service govern connected plain
  let u := resumed s a payload
  have enters : (s.axis a).state ≠ .active → entersActive s a d := fun other => by
    rcases service with active | ramping | neutral
    · exact absurd active other
    · exact .inl ramping
    · exact .inr ⟨neutral.1, neutral.2, govern, connected⟩
  have stays : (s.axis a).state = .active → ¬entersActive s a d := fun active => by simp [entersActive, active]
  have record : u.axis a = { (s.axis a).commanded s a payload with
      state := .active, ramp := if (s.axis a).state = .rampdown then none else (s.axis a).ramp } := by
    by_cases active : (s.axis a).state = .active
    · rw [resumed_axis_of_kept (stays active)]
      simp only [AxisRecord.commanded, active, reduceCtorEq, if_false]
    · exact resumed_axis_of_entered (enters active)
  have active : (u.axis a).state = .active := by rw [record]
  have healthy : (s.axis a).state ≠ .fault := by
    rcases service with state | state | state <;> simp [state]
  have value : evaluated u a = v := by
    have demand := (resumed_held s a payload).2.2
    simp only [evaluated, active]
    rw [demand]
    exact (resumed_envelope s a payload).governedValue (fun _ => resumed_interlocks healthy) (resumed_held s a payload).1
      (resumed_held s a payload).2.1 d
  obtain ⟨axis, frame⟩ := evaluateNow_evaluatedIn u a
  have before := resumed_frame s a payload
  have finish : exec (.operatorCommand a payload) s = .next (evaluateNow u a) := by
    rw [exec_operatorCommand_of_new takes long sound new]
    show Host.Outcome.next (evaluateInService (commandHandOff u a payload d) a) = _
    rw [commandHandOff_of_plain plain (by rw [active]; decide), evaluateInService_of_inService (.inl active)]
  refine ⟨_, finish, ?_, fun zero => by simp only [v, zero, governedValue_zero], fun b other => ?_, ?_, ?_,
    before.trans (evaluateNow_frame u a), (resumed_counts s a payload).trans (evaluateNow_counts u a)⟩
  · rw [axis, value, record, before.millis]
    rfl
  · have same := (resumed_same_at s payload other).trans (evaluateNow_same_at u other)
    exact ⟨same.axis, same.delivery⟩
  · rw [evaluateNow_reports]
    by_cases active : (s.axis a).state = .active
    · rw [if_pos active]
      exact (congrArg State.reports (resumed_of_kept (stays active))).trans rfl
    · rw [if_neg active]
      exact congrArg State.reports (resumed_of_entered (enters active))
  · rw [frame, value, active, produce_delivery_handed (before.governor.trans govern)
      ((resumed_busOff s a payload .machine).trans connected), resumed_delivery]
    rfl

end Sys2Proof.Machine
end

section
/-! Rotary commands with a request or in AUTO: starts of a sequence (R155 to R157), refusals (R155), and the answers in AUTO (R129,
R158). -/

namespace Sys2Proof.Machine

open Sys2Proof

/-! ## A start (R156) -/

/-- A sequence has started, and CROWD, HOIST and ROTARY are still to be evaluated (R156). -/
def started (s : State) (lock : Bool) : State :=
  report (({ s with
      sequencer := if lock then .locking else .releasing
      sequenceTimer := some (Rig.autoTimeout s.tables.rig) } : State).setAxis .rotary { s.axes.rotary with state := .auto })
    .axisState 0 3

theorem startSequence_eq (s : State) (lock : Bool) : startSequence s lock = evaluateAxes (started s lock) [.crowd, .hoist] := rfl

theorem started_frame (s : State) (lock : Bool) : SameTracking s (started s lock) :=
  (sameTracking_mk s _ _ _).trans (((State.setAxis_frame _ _ _).trans (report_frame _ _ _ _)).toSameTracking)

theorem started_counts (s : State) (lock : Bool) : SameCounts s (started s lock) :=
  (sameTracking_mk_counts s _ _ _).trans ((State.setAxis_counts _ _ _).trans (report_counts _ _ _ _))

theorem started_same_at (s : State) (lock : Bool) {a : Axis} (other : a ≠ .rotary) : SameAt a s (started s lock) :=
  ⟨State.axis_setAxis_other _ .rotary a _ other, rfl, rfl⟩

theorem started_running (s : State) (lock : Bool) : (started s lock).sequencer ≠ .idle := by
  cases lock <;> exact SequencerState.noConfusion

theorem creepDemand_congr {s t : State} (sequencer : t.sequencer = s.sequencer) (tables : t.tables = s.tables) :
    creepDemand t = creepDemand s := by
  rw [creepDemand, creepDemand, sequencer, tables]

theorem creepDemand_started (s : State) (lock : Bool) : creepDemand (started s lock) =
    if lock then Bar.lockCreep s.tables.bar else - Bar.releaseCreep s.tables.bar := by
  cases lock <;> rfl

/-! ## The checks of a request (R155) -/

theorem sequencerCommand_of_idle {s : State} {lock release : Bool} {d : Int} (idle : s.sequencer = .idle)
    (flagged : lock = true ∨ release = true) : sequencerCommand s lock release d = match requestRefusal s lock release d with
      | some r => report s .autoRefused (requestSubject lock release) r.code
      | none => startSequence s lock := by
  simp only [sequencerCommand, idle, Bool.or_eq_true, if_pos flagged] <;> rfl

/-- The checks of a request read the state that the command found, but for the state of ROTARY after its action. -/
theorem requestRefusal_resumed (s : State) (payload : List Byte) (lock release : Bool) (d : Int) :
    requestRefusal (resumed s .rotary payload) lock release d =
      if lock && release then some .conflict
      else if !(s.governor == .govern && !isBusOff s .machine &&
          (((resumed s .rotary payload).axis .rotary).state == .active ||
            ((resumed s .rotary payload).axis .rotary).state == .neutral)) then some .state
      else if d ≠ 0 then some .demand
      else if geometry s ≠ .tracking then some .geometry
      else if !isFresh s .angle then some .angle
      else if lock && !anyJoint (alignedSet s) then some .notAligned
      else if release && !anyNotFree s then some .nothingLocked
      else none := by
  have env := resumed_envelope s .rotary payload
  have governor : (resumed s .rotary payload).governor = s.governor := (resumed_frame s .rotary payload).governor
  simp only [requestRefusal, env.geometry, env.isFresh, env.alignedSet, env.anyNotFree, resumed_busOff, governor]
  rfl

/-- Settles O20. -/
theorem requestStartsASequence : Obligations.RequestStartsASequence := by
  intro s payload within takes long sound new service idle govern connected zero tracking angle flags aligned locked creep v back
  let d := demandAfterDeadband s payload
  let lock := commandLockReq payload
  let release := commandReleaseReq payload
  let u := resumed s .rotary payload
  have atRest : s.axes.rotary.state = .neutral → entersActive s .rotary d := fun neutral =>
    .inr ⟨neutral, zero, govern, connected⟩
  have notRamping : (s.axis .rotary).state ≠ .rampdown := by
    rcases service with active | neutral
    · exact fun ramping => nomatch active.symm.trans ramping
    · exact fun ramping => nomatch neutral.symm.trans ramping
  have inService : s.axes.rotary.state ≠ .neutral → ¬entersActive s .rotary d := fun other entered => by
    rcases entered with ramping | ⟨neutral, -⟩
    · exact notRamping ramping
    · exact other neutral
  have record : u.axis .rotary = { s.axes.rotary.commanded s .rotary payload with state := .active } := by
    by_cases neutral : s.axes.rotary.state = .neutral
    · exact (resumed_axis_of_entered (atRest neutral)).trans (by rw [if_neg notRamping]; rfl)
    · have active : s.axes.rotary.state = .active := service.resolve_right neutral
      exact (resumed_axis_of_kept (inService neutral)).trans (by rw [AxisRecord.commanded, ← active]; rfl)
  have frame := resumed_frame s .rotary payload
  have taken : requestRefusal u lock release d = none := by
    have active : (u.axis .rotary).state = .active := by rw [record]
    rw [requestRefusal_resumed, active]
    have zero' : d = 0 := zero
    simp only [govern, connected, zero', tracking, angle]
    cases l : lock <;> cases r : release
    · exact absurd (l.trans r.symm) flags
    · simp [locked r]
    · simp [aligned l]
    · exact absurd (l.trans r.symm) flags
  have flagged : lock = true ∨ release = true := by
    cases l : lock
    · cases r : release
      · exact absurd (l.trans r.symm) flags
      · exact .inr rfl
    · exact .inl rfl
  let w := started u lock
  let x := evaluateAxes w [.crowd, .hoist]
  have envelope : SameEnvelope s x :=
    (resumed_envelope s .rotary payload).trans ((started_frame u lock).envelope.trans (evaluateAxes_frame w _).envelope)
  have atRotary : SameAt .rotary w x := evaluateAxes_same_at (by decide) w
  have startedRecord : x.axis .rotary = { s.axes.rotary.commanded s .rotary payload with state := .auto } := by
    rw [atRotary.axis]
    exact (State.axis_setAxis_same _ .rotary _).trans (by rw [show u.axes.rotary = u.axis .rotary from rfl, record])
  have auto : (x.axis .rotary).state = .auto := by rw [startedRecord]
  have finish : exec (.operatorCommand .rotary payload) s = .next (evaluateNow x .rotary) := by
    rw [exec_operatorCommand_of_new (a := .rotary) takes long sound new]
    show Host.Outcome.next (evaluateInService (commandHandOff u .rotary payload d) .rotary) = _
    rw [commandHandOff_of_flag d flagged, sequencerCommand_of_idle (frame.sequencer.trans idle) flagged, taken]
    show Host.Outcome.next (evaluateInService x .rotary) = _
    rw [evaluateInService_of_inService (.inr (.inr auto))]
  have demanded : creepDemand x = creep := by
    rw [creepDemand_congr (evaluateAxes_frame w _).sequencer (evaluateAxes_frame w _).tables]
    have tables : u.tables = s.tables := frame.tables
    rw [creepDemand_started, tables]
  have value : evaluated x .rotary = v := by
    simp only [evaluated, auto]
    rw [demanded]
    exact envelope.governedValue (fun other => absurd rfl other) (by rw [startedRecord]; rfl) (by rw [startedRecord]; rfl) creep
  have whole : SameTracking (heard s .operator) (evaluateNow x .rotary) :=
    frame.toSameTracking.trans ((started_frame u lock).trans
      ((evaluateAxes_frame w _).trans (evaluateNow_frame x .rotary)).toSameTracking)
  have turns := (evaluateAxes_frame w [.crowd, .hoist]).trans (evaluateNow_frame x .rotary)
  obtain ⟨axis, sent⟩ := evaluateNow_evaluatedIn x .rotary
  refine ⟨_, finish, turns.sequencer, ?_, ?_, ?_, ?_, fun b other => ?_, ?_, whole, ?_⟩
  · refine turns.sequenceTimer.trans ?_
    show some (Rig.autoTimeout u.tables.rig) = _
    rw [frame.tables]
    rfl
  · exact turns.aborts.trans frame.aborts
  · refine axis.trans ?_
    rw [value, startedRecord, envelope.millis]
  · have delivery : x.delivery .rotary = s.delivery .rotary := atRotary.delivery.trans (resumed_delivery s .rotary .rotary payload)
    have governs : x.governor = .govern :=
      (evaluateAxes_frame w _).governor.trans ((started_frame u lock).governor.trans (frame.governor.trans govern))
    have plugged : isBusOff x .machine = false :=
      (atRotary.busOff .machine).trans ((resumed_busOff s .rotary payload .machine).trans connected)
    rw [sent, value, auto, produce_delivery_handed governs plugged, delivery] <;> rfl
  · have strokes : JointsWithinStroke w :=
      within.of_same ((started_frame u lock).tables.trans frame.tables) ((started_frame u lock).joints.trans frame.joints)
        ((started_frame u lock).extension.trans frame.extension)
    have found : SameAt b (heard s .operator) w := (resumed_same_at s payload other).trans (started_same_at u lock other)
    have member : b ∈ [Axis.crowd, .hoist] := by cases b <;> simp at other ⊢
    obtain ⟨record, delivery⟩ := (evaluateAxes_evaluatedIn (by decide) member w).then_same (evaluateNow_same_at x other)
    rw [evaluated_of_sequence strokes (started_running u lock) other] at record delivery
    have governs : w.governor = .govern := (started_frame u lock).governor.trans (frame.governor.trans govern)
    have plugged : isBusOff w .machine = false := (found.busOff .machine).trans ((heard_busOff s .operator .machine).trans connected)
    rw [produce_delivery_handed governs plugged, found.delivery, found.axis] at delivery
    have millis : w.millis = s.millis := (started_frame u lock).millis.trans frame.millis
    refine ⟨?_, delivery⟩
    rw [record, found.axis, millis]
    rfl
  · rw [evaluateNow_reports, evaluateAxes_reports]
    by_cases neutral : s.axes.rotary.state = .neutral
    · simp only [back, if_pos neutral]
      exact reportsAfter_congr (u := u) (s := report s .axisState 0 1) frame.tables
        ((congrArg State.reports (resumed_of_entered (atRest neutral))).trans rfl) frame.channel frame.millis _ _ _
    · simp only [back, if_neg neutral]
      exact reportsAfter_congr (u := u) (s := s) frame.tables
        ((congrArg State.reports (resumed_of_kept (inService neutral))).trans rfl) frame.channel frame.millis _ _ _
  · exact (resumed_counts s .rotary payload).trans ((started_counts u lock).trans
      ((evaluateAxes_counts w _).trans (evaluateNow_counts x .rotary)))

/-! ## Refusals (R155) -/

/-- The checks of R155 in order, each the first to fail. -/
theorem requestRefusal_resumed_cases (s : State) (payload : List Byte) (lock release : Bool) (d : Int)
    (serves : Prop) (isServes : serves ↔ (s.governor = .govern ∧ isBusOff s .machine = false) ∧
      (((resumed s .rotary payload).axis .rotary).state = .active ∨
        ((resumed s .rotary payload).axis .rotary).state = .neutral)) :
    let refusal := requestRefusal (resumed s .rotary payload) lock release d
    let one := ¬(lock = true ∧ release = true) ∧ serves
    let ready := one ∧ d = 0 ∧ geometry s = .tracking
    (lock = true → release = true → refusal = some .conflict) ∧
    (¬(lock = true ∧ release = true) → ¬serves → refusal = some .state) ∧
    (one → d ≠ 0 → refusal = some .demand) ∧
    (one → d = 0 → geometry s ≠ .tracking → refusal = some .geometry) ∧
    (ready → isFresh s .angle = false → refusal = some .angle) ∧
    (ready → isFresh s .angle = true → lock = true → anyJoint (alignedSet s) = false → refusal = some .notAligned) ∧
    (ready → isFresh s .angle = true → release = true → anyNotFree s = false → refusal = some .nothingLocked) := by
  intro refusal one ready
  have both (single : ¬(lock = true ∧ release = true)) : (lock && release) = false := by
    rw [← Bool.not_eq_true, Bool.and_eq_true]
    exact single
  have eq := requestRefusal_resumed s payload lock release d
  generalize checked : (s.governor == .govern && !isBusOff s .machine &&
    (((resumed s .rotary payload).axis .rotary).state == .active ||
      ((resumed s .rotary payload).axis .rotary).state == .neutral)) = inside at eq
  have passes : inside = true ↔ serves := by
    rw [isServes, ← checked]
    simp only [Bool.and_eq_true, Bool.or_eq_true, beq_iff_eq, Bool.not_eq_true']
  refine ⟨fun locks releases => ?_, fun single outside => ?_, fun ⟨single, served⟩ demand => ?_,
    fun ⟨single, served⟩ zero elsewhere => ?_, fun ⟨⟨single, served⟩, zero, tracking⟩ stale => ?_,
    fun ⟨⟨single, served⟩, zero, tracking⟩ fresh locks empty => ?_,
    fun ⟨⟨single, served⟩, zero, tracking⟩ fresh releases free => ?_⟩
  · exact eq.trans (by simp [locks, releases])
  · have closed : inside = false := Bool.eq_false_iff.mpr (mt passes.mp outside)
    rw [eq_comm, both single, closed] at eq
    exact eq.symm
  · exact eq.trans (by simp [both single, passes.mpr served, demand])
  · exact eq.trans (by simp [both single, passes.mpr served, zero, elsewhere])
  · exact eq.trans (by simp [both single, passes.mpr served, zero, tracking, stale])
  · have notRelease : release = false := Bool.eq_false_iff.mpr fun releases => single ⟨locks, releases⟩
    exact eq.trans (by simp [notRelease, passes.mpr served, zero, tracking, fresh, locks, empty])
  · have notLock : lock = false := Bool.eq_false_iff.mpr fun locks => single ⟨locks, releases⟩
    exact eq.trans (by simp [notLock, passes.mpr served, zero, tracking, fresh, releases, free])

/-- The axis record, the drive and the reports of a refused request: AUTO_REFUSED, and an operator command like any other. -/
theorem exec_refused {s : State} {payload : List Byte} (takes : takesPart s .operator = true) (long : payload.length = 4)
    (sound : byteSum payload = 0) (new : s.axes.rotary.lastAlive ≠ some (u8At payload 2 % 16)) (idle : s.sequencer = .idle)
    (notAuto : s.axes.rotary.state ≠ .auto)
    (flagged : commandLockReq payload = true ∨ commandReleaseReq payload = true) {r : RequestRefusal}
    (refusal : requestRefusal (resumed s .rotary payload) (commandLockReq payload) (commandReleaseReq payload)
      (demandAfterDeadband s payload) = some r) :
    let u := resumed s .rotary payload
    let v := governedValue s .rotary (demandAfterDeadband s payload)
    ∃ t, exec (.operatorCommand .rotary payload) s = .next t ∧ SameSequence (heard s .operator) t ∧
      SameCounts (countedCommand s .rotary payload) t ∧
      t.reports = reportsAfter u .autoRefused (requestSubject (commandLockReq payload) (commandReleaseReq payload)) r.code ∧
      (∀ b, b ≠ .rotary → t.axis b = s.axis b ∧ t.delivery b = s.delivery b) ∧
      ((u.axis .rotary).state = .active → t.axes.rotary = { u.axis .rotary with
          governed := v.1, cause := v.2, lastEval := some s.millis } ∧
        t.delivery .rotary = (produce s .rotary v.1 .active false).delivery .rotary) ∧
      ((u.axis .rotary).state ≠ .active → t.axes.rotary = u.axis .rotary ∧ t.delivery .rotary = s.delivery .rotary) := by
  intro u v
  let w := report u .autoRefused (requestSubject (commandLockReq payload) (commandReleaseReq payload)) r.code
  have frame := resumed_frame s .rotary payload
  have counts := (resumed_counts s .rotary payload).trans (report_counts u .autoRefused
    (requestSubject (commandLockReq payload) (commandReleaseReq payload)) r.code)
  have told : SameSequence u w := report_frame u _ _ _
  have finish : exec (.operatorCommand .rotary payload) s = .next (evaluateInService w .rotary) := by
    rw [exec_operatorCommand_of_new (a := .rotary) takes long sound new]
    show Host.Outcome.next (evaluateInService (commandHandOff u .rotary payload _) .rotary) = _
    rw [commandHandOff_of_flag _ flagged, sequencerCommand_of_idle (frame.sequencer.trans idle) flagged, refusal]
  have others (b : Axis) (other : b ≠ .rotary) : SameAt b (heard s .operator) w := (resumed_same_at s payload other).trans ⟨rfl, rfl, rfl⟩
  by_cases active : (u.axis .rotary).state = .active
  · have activeW : (w.axis .rotary).state = .active := active
    obtain ⟨held, lastEval, demand⟩ := resumed_held s .rotary payload
    have value : evaluated w .rotary = v := by
      simp only [evaluated, activeW]
      rw [show (w.axis .rotary).demand = some (demandAfterDeadband s payload) from demand]
      exact ((resumed_envelope s .rotary payload).trans told.envelope).governedValue (fun other => absurd rfl other) held
        lastEval _
    obtain ⟨axis, sent⟩ := evaluateNow_evaluatedIn w .rotary
    rw [finish, evaluateInService_of_inService (.inl activeW)]
    refine ⟨_, rfl, frame.trans (told.trans (evaluateNow_frame w .rotary)), counts.trans (evaluateNow_counts w .rotary),
      evaluateNow_reports w .rotary, fun b other => ?_, fun _ => ⟨?_, ?_⟩, fun other => absurd active other⟩
    · have same := (others b other).trans (evaluateNow_same_at w other)
      exact ⟨same.axis, same.delivery⟩
    · refine axis.trans ?_
      rw [value, show w.millis = s.millis from frame.millis]
      rfl
    · rw [sent, value, activeW]
      exact produce_delivery_congr (u := w) (s := s) (resumed_delivery s .rotary .rotary payload)
        (resumed_busOff s .rotary payload .machine) frame.governor _ _ _
  · have out : (w.axis .rotary).state.outOfService := by
      have kept : ¬entersActive s .rotary (demandAfterDeadband s payload) := fun entered =>
        active (congrArg AxisRecord.state (resumed_axis_of_entered entered))
      have state : (w.axis .rotary).state = (s.axis .rotary).state :=
        (congrArg AxisRecord.state (resumed_axis_of_kept (payload := payload) kept)).trans rfl
      rw [state]
      cases found : (s.axis .rotary).state with
      | neutral => exact .inl rfl
      | fault => exact .inr rfl
      | active => exact absurd (state.trans found) active
      | rampdown => exact absurd (.inl found) kept
      | auto => exact absurd found notAuto
    rw [finish, evaluateInService_of_outOfService out]
    refine ⟨_, rfl, frame.trans told, counts, rfl, fun b other => ⟨(others b other).axis, (others b other).delivery⟩,
      fun inService => absurd inService active, fun _ => ⟨rfl, resumed_delivery s .rotary .rotary payload⟩⟩

/-! ## Commands in AUTO (R129, R158) -/

theorem evaluateInService_handBackState (s : State) (d : Int) :
    evaluateInService (handBackState s d) .rotary = handBack s d := by
  rcases fresh : s.axes.rotary.freshness with _ | left
  · have neutral : ((handBackState s d).axis .rotary).state = .neutral := by
      rw [handBackState_of_stale d fresh]
      exact congrArg AxisRecord.state (changeAxis_axis_same s .rotary _)
    rw [handBack_of_stale d fresh, evaluateInService_of_outOfService (.inl neutral)]
  · have running : s.axes.rotary.freshness.isSome = true := by rw [fresh]; rfl
    have active : ((handBackState s d).axis .rotary).state = .active := by rw [handBackState_of_fresh d running]; rfl
    rw [handBack_of_fresh d running, evaluateInService_of_inService (.inl active)]

/-- ROTARY handed back in ACTIVE and evaluated on the demand (R129). -/
theorem handBack_fresh_spec {s : State} (d : Int) (fresh : s.axes.rotary.freshness.isSome = true) :
    let v := governedValue s .rotary d
    (handBack s d).axes.rotary = { s.axes.rotary with
      state := .active, demand := some d, governed := v.1, cause := v.2, lastEval := some s.millis } ∧
    (handBack s d).delivery .rotary = (produce s .rotary v.1 .active false).delivery .rotary ∧
    (handBack s d).reports = reportsAfter s .axisState 0 1 := by
  intro v
  let w := report (s.setAxis .rotary { s.axes.rotary with demand := some d, state := .active }) .axisState 0 1
  have back : handBack s d = evaluateNow w .rotary := by rw [handBack_of_fresh d fresh, handBackState_of_fresh d fresh]
  have value : evaluated w .rotary = v := SameEnvelope.governedValue (s := s) (t := w) ⟨rfl, rfl, rfl, rfl, rfl, rfl, rfl⟩ (a := .rotary)
    (fun other => absurd rfl other) rfl rfl d
  obtain ⟨axis, sent⟩ := evaluateNow_evaluatedIn w .rotary
  rw [value] at axis sent
  rw [back]
  exact ⟨axis, sent.trans (produce_reported_delivery s .rotary _ _ _ _ _ _), evaluateNow_reports w .rotary⟩

/-- ROTARY handed back in NEUTRAL, its operator stale (R129). -/
theorem handBack_stale_spec {s : State} (d : Int) (stale : s.axes.rotary.freshness = none) :
    (handBack s d).axes.rotary = { s.axes.rotary with
      state := .neutral, demand := some d, governed := 0, ramp := none, exits := addExit s.axes.rotary.exits .stale } ∧
    (handBack s d).delivery .rotary = (produce s .rotary 0 .neutral false).delivery .rotary ∧
    (handBack s d).reports = reportsAfter s .axisState 0 0 := by
  rw [handBack_of_stale d stale, handBackState_of_stale d stale]
  refine ⟨changeAxis_axis_same s .rotary _, ?_, ?_⟩
  · rw [changeAxis_eq]
    exact produce_reported_delivery s .rotary _ _ _ _ _ _
  · rw [changeAxis_eq, produce_reports]
    rfl

/-- A sequence aborted by a command, with ROTARY handed back on a demand (R129, R158, R160). -/
theorem handBack_abortSequence_spec (s : State) (c : AbortCause) (d : Int) (running : s.sequencer ≠ .idle) :
    let t := handBack (abortSequence s c) d
    let v := governedValue s .rotary d
    t.sequencer = .idle ∧ t.sequenceTimer = none ∧ t.aborts = addAbort s.aborts c ∧
    (∀ b, b ≠ .rotary → SameAt b s t) ∧ SameTracking s t ∧ SameCounts s t ∧
    t.reports = reportsAfter (report s .autoAborted (if s.sequencer = .releasing then 1 else 0) c.bit) .axisState 0
      (if s.axes.rotary.freshness.isSome then 1 else 0) ∧
    (s.axes.rotary.freshness.isSome = true → t.axes.rotary = { s.axes.rotary with
        state := .active, demand := some d, governed := v.1, cause := v.2, lastEval := some s.millis } ∧
      t.delivery .rotary = (produce s .rotary v.1 .active false).delivery .rotary) ∧
    (s.axes.rotary.freshness = none → t.axes.rotary = { s.axes.rotary with
        state := .neutral, demand := some d, governed := 0, ramp := none, exits := addExit s.axes.rotary.exits .stale } ∧
      t.delivery .rotary = (produce s .rotary 0 .neutral false).delivery .rotary) := by
  intro t v
  let u := abortSequence s c
  obtain ⟨idle, timer, aborts⟩ := abortSequence_of_running s c running
  have frame := handBack_frame u d
  have before := abortSequence_frame s c
  have same := abortSequence_at s c .rotary
  have rotary : u.axes.rotary = s.axes.rotary := same.axis
  have eq : u = report { endSequence s with aborts := addAbort s.aborts c } .autoAborted (sequenceSubject s) c.bit := by
    simp only [u, abortSequence, if_neg running]
  have told (x : Int) : reportsAfter u .axisState 0 x =
      reportsAfter (report s .autoAborted (if s.sequencer = .releasing then 1 else 0) c.bit) .axisState 0 x :=
    reportsAfter_congr (u := u) (s := report s .autoAborted (if s.sequencer = .releasing then 1 else 0) c.bit) before.tables ((congrArg State.reports eq).trans rfl) before.channel before.millis _ _ _
  have sent (g : Int) (m : Mode) : (produce u .rotary g m false).delivery .rotary = (produce s .rotary g m false).delivery .rotary :=
    produce_delivery_congr same.delivery (same.busOff .machine) before.governor _ _ _
  have value : governedValue u .rotary d = v :=
    before.envelope.governedValue (fun other => absurd rfl other) (congrArg AxisRecord.governed same.axis)
      (congrArg AxisRecord.lastEval same.axis) d
  refine ⟨frame.sequencer.trans idle, frame.sequenceTimer.trans timer, frame.aborts.trans aborts,
    fun b other => (abortSequence_at s c b).trans (handBack_same_at u d other), before.trans frame.toSameTracking,
    (abortSequence_counts s c).trans (handBack_counts u d), ?_, fun fresh => ?_, fun stale => ?_⟩
  · rcases fresh : s.axes.rotary.freshness with _ | left
    · exact (handBack_stale_spec d (rotary ▸ fresh)).2.2.trans (told 0)
    · exact (handBack_fresh_spec d (by rw [rotary, fresh]; rfl)).2.2.trans (told 1)
  · obtain ⟨axis, delivery, -⟩ := handBack_fresh_spec (s := u) d (by rw [rotary]; exact fresh)
    rw [value, rotary, before.millis] at axis
    rw [value, sent] at delivery
    exact ⟨axis, delivery⟩
  · obtain ⟨axis, delivery, -⟩ := handBack_stale_spec (s := u) d (by rw [rotary]; exact stale)
    rw [rotary] at axis
    rw [sent] at delivery
    exact ⟨axis, delivery⟩

theorem requestSubject_eq (lock release : Bool) : requestSubject lock release =
    if lock = true ∧ release = true then 2 else if release = true then 1 else 0 := by
  cases lock <;> cases release <;> rfl

theorem flag_iff (n : Nat) : (n == 1) = true ↔ n = 1 := beq_iff_eq

/-- A command in AUTO goes to the sequencer as stored, and is evaluated in the state that leaves (R125, R158). -/
theorem exec_operatorCommand_of_auto {s : State} {payload : List Byte} (takes : takesPart s .operator = true)
    (long : payload.length = 4) (sound : byteSum payload = 0) (new : s.axes.rotary.lastAlive ≠ some (u8At payload 2 % 16))
    (auto : s.axes.rotary.state = .auto) : exec (.operatorCommand .rotary payload) s = .next
      (evaluateInService (sequencerCommand (stored s .rotary payload) (commandLockReq payload) (commandReleaseReq payload)
        (demandAfterDeadband s payload)) .rotary) := by
  have stays : ¬entersActive (stored s .rotary payload) .rotary (demandAfterDeadband s payload) := by
    rw [stored_entersActive]
    have auto' : (s.axis .rotary).state = .auto := auto
    simp [entersActive, auto']
  rw [exec_operatorCommand_of_new (a := .rotary) takes long sound new, commandAction_of_kept stays,
    commandHandOff_of_auto _ _ (show (stored s .rotary payload).axes.rotary.state = .auto from auto)]

/-! ## O21 in three parts -/

/-- ROTARY's state after the action of a command that does not find it in AUTO. -/
def stateTaken (s : State) (d : Int) : AxisState :=
  if s.axes.rotary.state = .rampdown ∨ (s.axes.rotary.state = .neutral ∧ d = 0 ∧
    s.governor = .govern ∧ isBusOff s .machine = false) then .active else s.axes.rotary.state

/-- The others keep what they hold, and the command is counted. -/
def CommandKeepsRest (s : State) (payload : List Byte) (t : State) : Prop :=
  (∀ b, b ≠ .rotary → t.axis b = s.axis b ∧ t.delivery b = s.delivery b) ∧
  SameTracking (heard s .operator) t ∧ SameCounts (countedCommand s .rotary payload) t

/-- A request is refused with a subject and the check that fails, and its command is one like any other. -/
def RequestRefused (s : State) (payload : List Byte) (subject check : Nat) : Prop :=
  let d := demandAfterDeadband s payload
  let r := s.axes.rotary.commanded s .rotary payload
  let v := governedValue s .rotary d
  let back := if s.axes.rotary.state = .rampdown ∨ (s.axes.rotary.state = .neutral ∧ d = 0 ∧
    s.governor = .govern ∧ isBusOff s .machine = false) then report s .axisState 0 1 else s
  ∃ t, exec (.operatorCommand .rotary payload) s = .next t ∧
    t.sequencer = .idle ∧ t.sequenceTimer = s.sequenceTimer ∧ t.aborts = s.aborts ∧
    t.reports = reportsAfter back .autoRefused subject check ∧ CommandKeepsRest s payload t ∧
    (stateTaken s d = .active → t.axes.rotary = { r with
        state := .active, governed := v.1, cause := v.2, lastEval := some s.millis
        ramp := if s.axes.rotary.state = .rampdown then none else s.axes.rotary.ramp } ∧
      t.delivery .rotary = (produce s .rotary v.1 .active false).delivery .rotary) ∧
    (stateTaken s d ≠ .active → t.axes.rotary = r ∧ t.delivery .rotary = s.delivery .rotary)

theorem resumed_stateTaken (s : State) (payload : List Byte) :
    ((resumed s .rotary payload).axis .rotary).state = stateTaken s (demandAfterDeadband s payload) := by
  by_cases enters : entersActive s .rotary (demandAfterDeadband s payload)
  · exact (congrArg AxisRecord.state (resumed_axis_of_entered enters)).trans (if_pos enters).symm
  · exact (congrArg AxisRecord.state (resumed_axis_of_kept enters)).trans (if_neg enters).symm

theorem request_refused {s : State} {payload : List Byte} (takes : takesPart s .operator = true) (long : payload.length = 4)
    (sound : byteSum payload = 0) (new : s.axes.rotary.lastAlive ≠ some (u8At payload 2 % 16)) (idle : s.sequencer = .idle)
    (notAuto : s.axes.rotary.state ≠ .auto)
    (flagged : commandLockReq payload = true ∨ commandReleaseReq payload = true) {n : Nat}
    (named : requestSubject (commandLockReq payload) (commandReleaseReq payload) = n) {x : RequestRefusal}
    (refusal : requestRefusal (resumed s .rotary payload) (commandLockReq payload) (commandReleaseReq payload)
      (demandAfterDeadband s payload) = some x) : RequestRefused s payload n x.code := by
  unfold RequestRefused
  intro d r v back
  subst named
  let u := resumed s .rotary payload
  have frame := resumed_frame s .rotary payload
  obtain ⟨t, run, whole, counts, reports, others, active, kept⟩ := exec_refused takes long sound new idle notAuto flagged refusal
  have stateIs := resumed_stateTaken s payload
  have told (i : Nat) (n : Int) : reportsAfter u .autoRefused i n = reportsAfter back .autoRefused i n := by
    by_cases enters : entersActive s .rotary d
    · have backIs : back = report s .axisState 0 1 := if_pos enters
      have reportsIs := congrArg State.reports (resumed_of_entered enters)
      rw [backIs]
      exact reportsAfter_congr (u := u) (s := report s .axisState 0 1) frame.tables (reportsIs.trans rfl) frame.channel
        frame.millis _ _ _
    · have backIs : back = s := if_neg enters
      have reportsIs := congrArg State.reports (resumed_of_kept enters)
      rw [backIs]
      exact reportsAfter_congr (u := u) (s := s) frame.tables (reportsIs.trans rfl) frame.channel frame.millis _ _ _
  refine ⟨t, run, whole.sequencer.trans idle, whole.sequenceTimer, whole.aborts, reports.trans (told _ _),
    ⟨others, whole.toSameTracking, counts⟩, fun inService => ?_, fun out => ?_⟩
  · obtain ⟨record, sent⟩ := active (stateIs.trans inService)
    refine ⟨record.trans ?_, sent⟩
    by_cases enters : entersActive s .rotary d
    · rw [resumed_axis_of_entered enters]
      rfl
    · have found : s.axes.rotary.state = .active := (if_neg enters).symm.trans inService
      have notRamping : ¬s.axes.rotary.state = .rampdown := fun ramping => nomatch found.symm.trans ramping
      rw [resumed_axis_of_kept enters, if_neg notRamping, ← found]
      rfl
  · have enters : ¬entersActive s .rotary d := fun enters => out (if_pos enters)
    obtain ⟨record, sent⟩ := kept (fun inService => out (stateIs.symm.trans inService))
    exact ⟨record.trans (resumed_axis_of_kept enters), sent⟩

/-- A command in AUTO aborts the sequence, and ROTARY is handed back with its demand. -/
def CommandAborts (s : State) (payload : List Byte) (c : AbortCause) : Prop :=
  let d := demandAfterDeadband s payload
  let r := s.axes.rotary.commanded s .rotary payload
  ∃ t, exec (.operatorCommand .rotary payload) s = .next t ∧
    t.sequencer = .idle ∧ t.sequenceTimer = none ∧ t.aborts = addAbort s.aborts c ∧ CommandKeepsRest s payload t ∧
    t.reports = reportsAfter (report s .autoAborted (if s.sequencer = .releasing then 1 else 0) c.bit)
      .axisState 0 (if r.freshness.isSome then 1 else 0) ∧
    (r.freshness.isSome = true →
      let v := governedValue s .rotary d
      t.axes.rotary = { r with state := .active, governed := v.1, cause := v.2, lastEval := some s.millis } ∧
      t.delivery .rotary = (produce s .rotary v.1 .active false).delivery .rotary) ∧
    (r.freshness = none →
      t.axes.rotary = { r with state := .neutral, governed := 0, ramp := none, exits := addExit r.exits .stale } ∧
      t.delivery .rotary = (produce s .rotary 0 .neutral false).delivery .rotary)

theorem stored_governedValue (s : State) (payload : List Byte) (d : Int) :
    governedValue (stored s .rotary payload) .rotary d = governedValue s .rotary d :=
  (stored_envelope s .rotary payload).governedValue (fun other => absurd rfl other)
    ((congrArg AxisRecord.governed (stored_axis s .rotary payload)).trans rfl)
    ((congrArg AxisRecord.lastEval (stored_axis s .rotary payload)).trans rfl) d

theorem stored_produce (s : State) (payload : List Byte) (g : Int) (m : Mode) :
    (produce (stored s .rotary payload) .rotary g m false).delivery .rotary = (produce s .rotary g m false).delivery .rotary :=
  produce_delivery_congr (u := stored s .rotary payload) (s := s) rfl (stored_busOff s .rotary payload .machine) rfl g m false

theorem command_aborts {s : State} {payload : List Byte} (takes : takesPart s .operator = true) (long : payload.length = 4)
    (sound : byteSum payload = 0) (new : s.axes.rotary.lastAlive ≠ some (u8At payload 2 % 16)) (running : s.sequencer ≠ .idle)
    (auto : s.axes.rotary.state = .auto) {c : AbortCause}
    (ends : sequencerCommand (stored s .rotary payload) (commandLockReq payload) (commandReleaseReq payload)
      (demandAfterDeadband s payload) =
      handBackState (abortSequence (stored s .rotary payload) c) (demandAfterDeadband s payload)) : CommandAborts s payload c := by
  unfold CommandAborts
  intro d r
  let u := stored s .rotary payload
  have record : u.axes.rotary = r := stored_axis s .rotary payload
  obtain ⟨idle, timer, aborts, others, tracking, counted, reports, fresh, stale⟩ :=
    handBack_abortSequence_spec u c d running
  rw [stored_governedValue, stored_produce, record] at fresh
  rw [stored_produce, record] at stale
  rw [record] at reports
  refine ⟨_, ?_, idle, timer, aborts, ⟨fun b other => ?_, (stored_frame s .rotary payload).toSameTracking.trans tracking,
    (stored_counts s .rotary payload).trans counted⟩, reports, fresh, stale⟩
  · rw [exec_operatorCommand_of_auto takes long sound new auto, ends, evaluateInService_handBackState]
  · have same := (stored_same_at s payload other).trans (others b other)
    exact ⟨same.axis, same.delivery⟩

/-- A command in AUTO lets the sequence run on, evaluated with its creep demand. -/
def CommandContinues (s : State) (payload : List Byte) : Prop :=
  let r := s.axes.rotary.commanded s .rotary payload
  ∃ t, exec (.operatorCommand .rotary payload) s = .next t ∧
    let v := governedValue s .rotary
      (if s.sequencer = .locking then Bar.lockCreep s.tables.bar else - Bar.releaseCreep s.tables.bar)
    t.sequencer = s.sequencer ∧ t.sequenceTimer = s.sequenceTimer ∧ t.aborts = s.aborts ∧ t.reports = s.reports ∧
    t.axes.rotary = { r with governed := v.1, cause := v.2, lastEval := some s.millis } ∧
    t.delivery .rotary = (produce s .rotary v.1 .auto false).delivery .rotary ∧ CommandKeepsRest s payload t

theorem creepDemand_of_running {s : State} (running : s.sequencer ≠ .idle) : creepDemand s =
    if s.sequencer = .locking then Bar.lockCreep s.tables.bar else - Bar.releaseCreep s.tables.bar := by
  cases sequencer : s.sequencer with
  | idle => exact absurd sequencer running
  | locking => simp only [creepDemand, sequencer, if_true]
  | releasing => simp only [creepDemand, sequencer, reduceCtorEq, if_false]

theorem command_continues {s : State} {payload : List Byte} (takes : takesPart s .operator = true) (long : payload.length = 4)
    (sound : byteSum payload = 0) (new : s.axes.rotary.lastAlive ≠ some (u8At payload 2 % 16)) (running : s.sequencer ≠ .idle)
    (auto : s.axes.rotary.state = .auto)
    (continues : sequencerCommand (stored s .rotary payload) (commandLockReq payload) (commandReleaseReq payload)
      (demandAfterDeadband s payload) = stored s .rotary payload) : CommandContinues s payload := by
  unfold CommandContinues
  intro r
  let u := stored s .rotary payload
  have autoU : (u.axis .rotary).state = .auto := auto
  have value : evaluated u .rotary = governedValue s .rotary
      (if s.sequencer = .locking then Bar.lockCreep s.tables.bar else - Bar.releaseCreep s.tables.bar) := by
    simp only [evaluated, autoU]
    rw [stored_governedValue, ← creepDemand_of_running running]
    rfl
  obtain ⟨axis, sent⟩ := evaluateNow_evaluatedIn u .rotary
  have turn := evaluateNow_frame u .rotary
  rw [value] at axis sent
  rw [stored_axis] at axis
  rw [autoU, stored_produce] at sent
  refine ⟨_, ?_, turn.sequencer, turn.sequenceTimer, turn.aborts, evaluateNow_reports u .rotary, axis, sent, fun b other => ?_,
    ((stored_frame s .rotary payload).trans turn).toSameTracking,
    (stored_counts s .rotary payload).trans (evaluateNow_counts u .rotary)⟩
  · rw [exec_operatorCommand_of_auto takes long sound new auto, continues, evaluateInService_of_inService (.inr (.inr autoU))]
  · have same := (stored_same_at s payload other).trans (evaluateNow_same_at u other)
    exact ⟨same.axis, same.delivery⟩

theorem sequencerCommand_of_locking {s : State} (lock release : Bool) (d : Int) (locking : s.sequencer = .locking) :
    sequencerCommand s lock release d =
      if d ≠ 0 then handBackState (abortSequence s .operator) d
      else if release then handBackState (abortSequence s .opposite) 0 else s := by
  simp only [sequencerCommand, locking]

theorem sequencerCommand_of_releasing {s : State} (lock release : Bool) (d : Int) (releasing : s.sequencer = .releasing) :
    sequencerCommand s lock release d =
      if d ≠ 0 then handBackState (abortSequence s .operator) d
      else if lock then handBackState (abortSequence s .opposite) 0 else s := by
  simp only [sequencerCommand, releasing]

/-- The three answers in AUTO, for the state that has stored the command. -/
theorem sequencerCommand_of_running {s : State} (lock release : Bool) (d : Int) (running : s.sequencer ≠ .idle) :
    let opposite := (s.sequencer = .locking ∧ release = true) ∨ (s.sequencer = .releasing ∧ lock = true)
    (d ≠ 0 → sequencerCommand s lock release d = handBackState (abortSequence s .operator) d) ∧
    (d = 0 → opposite → sequencerCommand s lock release d = handBackState (abortSequence s .opposite) 0) ∧
    (d = 0 → ¬opposite → sequencerCommand s lock release d = s) := by
  intro opposite
  cases sequencer : s.sequencer with
  | idle => exact absurd sequencer running
  | locking =>
    rw [sequencerCommand_of_locking lock release d sequencer]
    refine ⟨fun demand => if_pos demand, fun zero opposes => ?_, fun zero agrees => ?_⟩
    · have requested : release = true := by simpa [opposite, sequencer] using opposes
      rw [if_neg (not_not.mpr zero), if_pos requested]
    · have notRequested : ¬release = true := by simpa [opposite, sequencer] using agrees
      rw [if_neg (not_not.mpr zero), if_neg notRequested]
  | releasing =>
    rw [sequencerCommand_of_releasing lock release d sequencer]
    refine ⟨fun demand => if_pos demand, fun zero opposes => ?_, fun zero agrees => ?_⟩
    · have requested : lock = true := by simpa [opposite, sequencer] using opposes
      rw [if_neg (not_not.mpr zero), if_pos requested]
    · have notRequested : ¬lock = true := by simpa [opposite, sequencer] using agrees
      rw [if_neg (not_not.mpr zero), if_neg notRequested]

/-- Settles O21: refusals by the checks of `requestRefusal_resumed_cases`, the answers in AUTO by the sequencer's three. -/
theorem rotaryRequestsAndAutoCommands : Obligations.RotaryRequestsAndAutoCommands := by
  intro s payload takes long sound new d lock release r rest
  have lockIs : commandLockReq payload = true ↔ lock := flag_iff _
  have releaseIs : commandReleaseReq payload = true ↔ release := flag_iff _
  refine ⟨?idle, ?auto⟩
  case idle =>
    intro idle notAuto flagged connected entered state v back refused serves one ready subject
    have refuse {n : Nat} (named : requestSubject (commandLockReq payload) (commandReleaseReq payload) = n) {x : RequestRefusal}
        (refusal : requestRefusal (resumed s .rotary payload) (commandLockReq payload) (commandReleaseReq payload) d = some x) :
        refused n x.code :=
      request_refused takes long sound new idle notAuto (flagged.imp lockIs.mpr releaseIs.mpr) named refusal
    have isServes : serves ↔ (s.governor = .govern ∧ isBusOff s .machine = false) ∧
        (((resumed s .rotary payload).axis .rotary).state = .active ∨
          ((resumed s .rotary payload).axis .rotary).state = .neutral) := by
      rw [resumed_stateTaken]
      exact Iff.rfl
    obtain ⟨conflict, outside, demand, geometry, angle, notAligned, nothingLocked⟩ :=
      requestRefusal_resumed_cases s payload (commandLockReq payload) (commandReleaseReq payload) d serves isServes
    simp only [lockIs, releaseIs] at conflict outside demand geometry angle notAligned nothingLocked
    have both (l : lock) (m : release) : requestSubject (commandLockReq payload) (commandReleaseReq payload) = 2 := by
      rw [requestSubject_eq, if_pos ⟨lockIs.mpr l, releaseIs.mpr m⟩]
    have single (not : ¬(lock ∧ release)) :
        requestSubject (commandLockReq payload) (commandReleaseReq payload) = subject := by
      have notBoth : ¬(commandLockReq payload = true ∧ commandReleaseReq payload = true) := by rw [lockIs, releaseIs]; exact not
      rw [requestSubject_eq, if_neg notBoth]
      exact if_congr releaseIs rfl rfl
    have onlyLock (not : ¬(lock ∧ release)) (l : lock) : subject = 0 := if_neg (fun m => not ⟨l, m⟩)
    have onlyRelease (m : release) : subject = 1 := if_pos m
    refine ⟨fun l m => refuse (x := .conflict) (both l m) (conflict l m),
      fun not out => refuse (x := .state) (single not) (outside not out),
      fun isOne d0 => refuse (x := .demand) (single isOne.1) (demand isOne d0),
      fun isOne zero elsewhere => refuse (x := .geometry) (single isOne.1) (geometry isOne zero elsewhere),
      fun isReady stale => refuse (x := .angle) (single isReady.1.1) (angle isReady stale), fun isReady fresh l empty => ?_,
      fun isReady fresh m free => ?_⟩
    · have none : anyJoint (alignedSet s) = false := by
        rw [← Bool.not_eq_true, anyJoint_alignedSet_iff]
        rintro ⟨j, member, inSet⟩
        exact empty j member inSet
      exact refuse (x := .notAligned) ((single isReady.1.1).trans (onlyLock isReady.1.1 l)) (notAligned isReady fresh l none)
    · have none : anyNotFree s = false := by
        rw [← Bool.not_eq_true, anyNotFree_iff]
        rintro ⟨j, member, held⟩
        exact held (free j member)
      exact refuse (x := .nothingLocked) ((single isReady.1.1).trans (onlyRelease m)) (nothingLocked isReady fresh m none)
  case auto =>
    intro running auto opposite aborted
    obtain ⟨demanded, opposed, agreed⟩ := sequencerCommand_of_running (s := stored s .rotary payload)
      (commandLockReq payload) (commandReleaseReq payload) d running
    rw [lockIs, releaseIs] at opposed agreed
    exact ⟨fun demand => command_aborts takes long sound new running auto (demanded demand),
      fun zero opposes => command_aborts takes long sound new running auto ((opposed zero opposes).trans (by rw [← zero])),
      fun zero agrees => command_continues takes long sound new running auto (agreed zero agrees)⟩

end Sys2Proof.Machine
end

section
/-! Joint records by number: the division of the free extension, innermost first (R64, R65), nearest rows and aligned flags (R54 to
R56), and what keeps joints within their strokes (R51, R65, R69, R72, R78). -/

namespace Sys2Proof.Machine

open Sys2Proof

/-! ## Joint records by number -/

theorem getElem?_numbered (js : List Joint) (i : Nat) : (numbered js)[i]? = js[i]?.map (fun r => (i + 1, r)) := by
  rcases found : js[i]? with _ | r
  · have short : js.length ≤ i := List.getElem?_eq_none_iff.mp found
    exact List.getElem?_eq_none_iff.mpr (by simp [numbered, short])
  · obtain ⟨inside, rfl⟩ := List.getElem?_eq_some_iff.mp found
    exact List.getElem?_eq_some_iff.mpr ⟨by simp [numbered, inside], by simp [numbered]⟩

theorem mem_numbered (js : List Joint) (p : Nat × Joint) : p ∈ numbered js ↔ ∃ i, js[i]? = some p.2 ∧ p.1 = i + 1 := by
  simp only [List.mem_iff_getElem?, getElem?_numbered, Option.map_eq_some_iff]
  exact ⟨fun ⟨i, r, found, eq⟩ => ⟨i, eq ▸ found, eq ▸ rfl⟩, fun ⟨i, found, number⟩ => ⟨i, p.2, found, Prod.ext number.symm rfl⟩⟩

theorem length_numbered (js : List Joint) : (numbered js).length = js.length := by simp [numbered]

theorem getElem?_map_numbered (js : List Joint) (f : Nat × Joint → Joint) (i : Nat) :
    ((numbered js).map f)[i]? = js[i]?.map (fun r => f (i + 1, r)) := by
  rw [List.getElem?_map, getElem?_numbered, Option.map_map]
  rfl

theorem realign_joint (s : State) (i : Nat) : (realign s).joints[i]? = s.joints[i]?.map (fun r => r.realigned s.tables (i + 1)) :=
  getElem?_map_numbered s.joints (fun p => p.2.realigned s.tables p.1) i

theorem realign_length (s : State) : (realign s).joints.length = s.joints.length := by
  rw [realign, List.length_map, length_numbered]

/-- Nearest rows and aligned flags are no part of the offsets. -/
theorem realign_offsets (s : State) : (realign s).joints.map Joint.offset = s.joints.map Joint.offset := by
  refine List.ext_getElem? fun i => ?_
  rw [List.getElem?_map, List.getElem?_map, realign_joint, Option.map_map]
  rfl

/-! ## The division of the free extension (R64) -/

/-- What a joint can be given: its stroke, or nothing where it is LOCKED. -/
def openStroke (bar : Table) (p : Nat × Joint) : Int := if p.2.lock = .locked then 0 else Bar.stroke bar p.1

theorem stroke_nonneg (bar : Table) (j : Nat) : 0 ≤ Bar.stroke bar j := Int.natCast_nonneg _

theorem openStroke_nonneg (bar : Table) (p : Nat × Joint) : 0 ≤ openStroke bar p := by
  unfold openStroke
  split
  · exact le_rfl
  · exact stroke_nonneg bar p.1

theorem openStrokes_nonneg (bar : Table) (l : List (Nat × Joint)) : 0 ≤ (l.map (openStroke bar)).sum :=
  List.sum_nonneg fun _ member => by
    obtain ⟨p, -, rfl⟩ := List.mem_map.mp member
    exact openStroke_nonneg bar p

theorem freeStroke_eq (bar : Table) (js : List Joint) : freeStroke bar js = ((numbered js).map (openStroke bar)).sum := rfl

theorem freeStroke_nonneg (bar : Table) (js : List Joint) : 0 ≤ freeStroke bar js := openStrokes_nonneg bar _

theorem clamp_zero_of_nonpos {hi v : Int} (nonneg : 0 ≤ hi) (low : v ≤ 0) : clamp 0 hi v = 0 := by
  unfold clamp
  split
  · rfl
  · next above =>
    have zero : v = 0 := le_antisymm low (not_lt.mp above)
    rw [zero, if_neg (not_lt.mpr nonneg)]

theorem clamp_bounds {lo hi : Int} (ordered : lo ≤ hi) (v : Int) : lo ≤ clamp lo hi v ∧ clamp lo hi v ≤ hi := by
  unfold clamp
  split
  · exact ⟨le_rfl, ordered⟩
  · split <;> omega

/-- A joint with what is left of the free extension: a LOCKED joint as it is, another at that much, within its stroke. -/
def Joint.given (bar : Table) (left : Int) (p : Nat × Joint) : Joint :=
  if p.2.lock = .locked then p.2 else { p.2 with offset := clamp 0 (Bar.stroke bar p.1) left }

theorem giveInnermost_cons (bar : Table) {free : Int} (nonneg : 0 ≤ free) (p : Nat × Joint) (l : List (Nat × Joint)) :
    giveInnermost bar free (p :: l) = Joint.given bar free p :: giveInnermost bar (free - min free (openStroke bar p)) l := by
  obtain ⟨j, r⟩ := p
  by_cases locked : r.lock = .locked
  · simp only [giveInnermost, openStroke, Joint.given, locked, if_true, min_eq_right nonneg, sub_zero]
  · simp only [giveInnermost, openStroke, Joint.given, locked, if_false, clamp_zero_of_nonneg nonneg]

/-- Of what is left, a joint takes no more than there is. -/
theorem given_of_short (bar : Table) (p : Nat × Joint) {x y : Int} (same : x = y ∨ (x ≤ 0 ∧ y ≤ 0)) :
    Joint.given bar x p = Joint.given bar y p := by
  rcases same with rfl | ⟨low, low'⟩
  · rfl
  · unfold Joint.given
    rw [clamp_zero_of_nonpos (stroke_nonneg bar p.1) low, clamp_zero_of_nonpos (stroke_nonneg bar p.1) low']

theorem giveInnermost_getElem? (bar : Table) {free : Int} (nonneg : 0 ≤ free) (l : List (Nat × Joint)) (n : Nat) :
    (giveInnermost bar free l)[n]? =
      l[n]?.map (Joint.given bar (free - ((l.take n).map (openStroke bar)).sum)) := by
  induction l generalizing free n with
  | nil => rfl
  | cons p l ih =>
    have left : 0 ≤ free - min free (openStroke bar p) := by omega
    rw [giveInnermost_cons bar nonneg]
    cases n with
    | zero => simp [sub_zero]
    | succ n =>
      rw [List.getElem?_cons_succ, List.getElem?_cons_succ, ih left, List.take_succ_cons, List.map_cons, List.sum_cons]
      have rest := openStrokes_nonneg bar (l.take n)
      refine congrArg (fun f => l[n]?.map f) (funext fun q => given_of_short bar q ?_)
      omega

/-- What the joints beyond index `i` can be given. -/
def beyondStroke (bar : Table) (js : List Joint) (i : Nat) : Int := (((numbered js).drop (i + 1)).map (openStroke bar)).sum

/-- Each joint has what the joints further in leave of the free extension (R64). -/
theorem divideExtension_getElem? (bar : Table) {free : Int} (nonneg : 0 ≤ free) (js : List Joint) (i : Nat) :
    (divideExtension bar free js)[i]? = js[i]?.map (fun r => Joint.given bar (free - beyondStroke bar js i) (i + 1, r)) := by
  have length (f : Int) (l : List (Nat × Joint)) : (giveInnermost bar f l).length = l.length := by
    induction l generalizing f with
    | nil => rfl
    | cons p l ih =>
      obtain ⟨j, r⟩ := p
      simp only [giveInnermost]
      split <;> simp [ih]
  by_cases inside : i < js.length
  · have reversed : i < (giveInnermost bar free (numbered js).reverse).length := by simpa [length, length_numbered] using inside
    rw [divideExtension, List.getElem?_reverse reversed, giveInnermost_getElem? bar nonneg]
    have size : (giveInnermost bar free (numbered js).reverse).length - 1 - i = js.length - 1 - i := by
      rw [length, List.length_reverse, length_numbered]
    have back : js.length - 1 - i < (numbered js).length := by rw [length_numbered]; omega
    rw [size, List.getElem?_reverse back, List.take_reverse, List.map_reverse, List.sum_reverse, length_numbered,
      getElem?_numbered]
    have index : js.length - 1 - (js.length - 1 - i) = i := by omega
    have drop : js.length - (js.length - 1 - i) = i + 1 := by omega
    rw [index, drop, Option.map_map]
    rfl
  · have outside : js[i]? = none := List.getElem?_eq_none_iff.mpr (not_lt.mp inside)
    rw [outside]
    exact List.getElem?_eq_none_iff.mpr (by simpa [divideExtension, length, length_numbered] using inside)

theorem divideExtension_length (bar : Table) {free : Int} (nonneg : 0 ≤ free) (js : List Joint) :
    (divideExtension bar free js).length = js.length := by
  refine Nat.le_antisymm ?_ ?_
  · exact List.getElem?_eq_none_iff.mp (by rw [divideExtension_getElem? bar nonneg, List.getElem?_eq_none_iff.mpr le_rfl]; rfl)
  · have none := List.getElem?_eq_none_iff.mpr (le_refl (divideExtension bar free js).length)
    rw [divideExtension_getElem? bar nonneg, Option.map_eq_none_iff] at none
    exact List.getElem?_eq_none_iff.mp none

/-- The offset that a joint holds while LOCKED. -/
def heldOffset (r : Joint) : Int := if r.lock = .locked then r.offset else 0

theorem lockedSum_eq (js : List Joint) : lockedSum js = (js.map heldOffset).sum := rfl

theorem giveInnermost_sum (bar : Table) {free : Int} (nonneg : 0 ≤ free) (l : List (Nat × Joint)) :
    ((giveInnermost bar free l).map Joint.offset).sum =
      (l.map (fun p => heldOffset p.2)).sum + min free (l.map (openStroke bar)).sum := by
  induction l generalizing free with
  | nil => simpa [giveInnermost] using nonneg
  | cons p l ih =>
    have left : 0 ≤ free - min free (openStroke bar p) := by omega
    have rest := openStrokes_nonneg bar l
    have here := openStroke_nonneg bar p
    rw [giveInnermost_cons bar nonneg, List.map_cons, List.sum_cons, ih left, List.map_cons, List.sum_cons, List.map_cons,
      List.sum_cons]
    have offset : (Joint.given bar free p).offset = heldOffset p.2 + min free (openStroke bar p) := by
      unfold Joint.given heldOffset openStroke
      split
      · rw [min_eq_right nonneg, add_zero]
      · rw [zero_add]
        exact clamp_zero_of_nonneg nonneg
    rw [offset]
    omega

theorem numbered_map_snd (js : List Joint) (f : Joint → Int) : (numbered js).map (fun p => f p.2) = js.map f := by
  refine List.ext_getElem? fun i => ?_
  rw [List.getElem?_map, getElem?_numbered, Option.map_map, List.getElem?_map]
  rfl

/-- After the division the offsets sum to what the LOCKED joints hold and the free extension given (R65). -/
theorem divideExtension_sum (bar : Table) {free : Int} (nonneg : 0 ≤ free) (js : List Joint) (fits : free ≤ freeStroke bar js) :
    ((divideExtension bar free js).map Joint.offset).sum = lockedSum js + free := by
  rw [divideExtension, List.map_reverse, List.sum_reverse, giveInnermost_sum bar nonneg, List.map_reverse, List.sum_reverse,
    List.map_reverse, List.sum_reverse, numbered_map_snd js heldOffset, ← lockedSum_eq, ← freeStroke_eq, min_eq_left fits]

/-! ## A consistent bar -/

/-- What `JointsWithinStroke` says of one joint. -/
structure JointOk (ts : Tables) (j : Nat) (r : Joint) : Prop where
  offset  : 0 ≤ r.offset ∧ r.offset ≤ Bar.stroke ts.bar j
  nearest : r.nearest < Bar.rows ts.bar j
  locked  : r.lock = .locked → ∃ k, r.lockedRow = some k ∧ k < Bar.rows ts.bar j ∧ r.offset = rowPosition ts j k
  noRow   : r.lock ≠ .locked → r.lockedRow = none

theorem JointsWithinStroke.joint {s : State} (within : JointsWithinStroke s) {i : Nat} {r : Joint} (found : s.joints[i]? = some r) :
    JointOk s.tables (i + 1) r := by
  have member : (i + 1, r) ∈ numbered s.joints := (mem_numbered _ _).mpr ⟨i, found, rfl⟩
  exact ⟨within.offset _ member, within.nearest _ member, within.locked _ member, within.noRow _ member⟩

theorem JointsWithinStroke.used {s : State} (within : JointsWithinStroke s) {i : Nat} {r : Joint} (found : s.joints[i]? = some r) :
    s.tables.bar.valid = true ∧ i + 1 ∈ Bar.joints s.tables.bar := by
  have inside : i < s.joints.length := (List.getElem?_eq_some_iff.mp found).1
  rw [within.count] at inside
  split at inside
  · next valid =>
    refine ⟨valid, (mem_joints _ _).mpr ?_⟩
    simp only [Bar.joints, List.length_map, List.length_range] at inside
    omega
  · exact absurd inside (Nat.not_lt_zero i)

/-- A joint in use has at least one row, and its rows lie within its stroke (R50, R51). -/
theorem JointsWithinStroke.rowsOf {s : State} (within : JointsWithinStroke s) {i : Nat} {r : Joint} (found : s.joints[i]? = some r) :
    1 ≤ Bar.rows s.tables.bar (i + 1) ∧ ∀ k < Bar.rows s.tables.bar (i + 1),
      0 ≤ rowPosition s.tables (i + 1) k ∧ rowPosition s.tables (i + 1) k ≤ Bar.stroke s.tables.bar (i + 1) := by
  obtain ⟨valid, used⟩ := within.used found
  refine ⟨within.rows (i + 1) (by omega) (within.present valid _ used), fun k inside => ?_⟩
  have window := within.windows valid _ used
  simp only [rowsInStroke, List.all_eq_true, List.mem_range, Bool.and_eq_true, decide_eq_true_eq] at window
  exact window k inside

theorem nearestRow_lt {ts : Tables} {j : Nat} (rows : 1 ≤ Bar.rows ts.bar j) (e : Int) : nearestRow ts j e < Bar.rows ts.bar j := by
  unfold nearestRow
  split
  · exact (nearestListed_isNearest _ e rows).inRange
  · unfold nearestUniform
    omega

/-- Joints as they are but for their flags and other state: the bar stays consistent. -/
theorem JointsWithinStroke.of_kept {s t : State} (within : JointsWithinStroke s) (frame : Kept s t) (joints : t.joints = s.joints)
    (extension : t.extension = s.extension) : JointsWithinStroke t := within.of_same frame.tables joints extension

end Sys2Proof.Machine
end

section
/-! Lock and release events (R78 to R81) and the completion of a sequence (R159), and band lookups (R94 to R97). -/

namespace Sys2Proof.Machine

open Sys2Proof

/-! ## Completion (R159) -/

theorem HandedBackAtZero.then_same {s t u : State} (back : HandedBackAtZero s t) (same : SameAt .rotary t u) :
    HandedBackAtZero s u := by
  have record : u.axes.rotary = t.axes.rotary := same.axis
  obtain ⟨active, neutral, sent⟩ := back
  rw [← record] at active neutral
  exact ⟨active, neutral, same.delivery.trans sent⟩

/-- A completed sequence: IDLE, AUTO_DONE, ROTARY handed back at 0, and nothing else (R159). -/
theorem completeSequence_spec (s : State) (n : Nat) :
    let t := completeSequence s n
    t.sequencer = .idle ∧ t.sequenceTimer = none ∧ t.aborts = s.aborts ∧ HandedBackAtZero s t ∧
    (∀ a, a ≠ .rotary → SameAt a s t) ∧ reportsAfter s .autoDone (sequenceSubject s) n <+: t.reports := by
  intro t
  let u := report (endSequence s) .autoDone (sequenceSubject s) n
  have frame := handBack_frame u 0
  refine ⟨frame.sequencer, frame.sequenceTimer, frame.aborts, (handBack_handedBackAtZero u).of_same rfl rfl rfl rfl rfl,
    fun a other => (show SameAt a s u from ⟨rfl, rfl, rfl⟩).trans (handBack_same_at u 0 other), frame.grows⟩

theorem sequencerLockEvent_of_locking {s : State} (n : Nat) (locking : s.sequencer = .locking) :
    sequencerLockEvent s n = completeSequence s n := if_pos locking

theorem sequencerLockEvent_of_other {s : State} (n : Nat) (other : s.sequencer ≠ .locking) : sequencerLockEvent s n = s :=
  if_neg other

theorem sequencerReleaseEvent_of_releasing {s : State} (n : Nat) (releasing : s.sequencer = .releasing) :
    sequencerReleaseEvent s n = completeSequence s n := if_pos releasing

theorem sequencerReleaseEvent_of_other {s : State} (n : Nat) (other : s.sequencer ≠ .releasing) : sequencerReleaseEvent s n = s :=
  if_neg other

/-! ## Lock events (R78, R79) -/

theorem reportLocked_eq (s : State) (l : List (Nat × Joint)) : reportLocked s l =
    (l.filter (fun p => p.2.inAlignedSet)).foldl (fun u p => report u .jointLocked p.1 p.2.nearest) s := by
  rw [List.foldl_filter]
  rfl

theorem numbered_snd (js : List Joint) : (numbered js).map Prod.snd = js := by
  refine List.ext_getElem? fun i => ?_
  rw [List.getElem?_map, getElem?_numbered, Option.map_map]
  cases js[i]? <;> rfl

theorem countP_numbered (js : List Joint) (f : Joint → Bool) : js.countP f = ((numbered js).filter (fun p => f p.2)).length := by
  conv_lhs => rw [← numbered_snd js]
  rw [List.countP_map, List.countP_eq_length_filter]
  rfl

/-- The joints of the aligned set locked, the extension their offsets' sum, A at 0, and the events raised; the sequencer is still
to be told. -/
def jointsLocked (s : State) : State :=
  realign { reportLocked s (numbered s.joints) with
    joints := (numbered s.joints).map (fun p => p.2.snapped s.tables p.1)
    extension := (((numbered s.joints).map (fun p => p.2.snapped s.tables p.1)).map Joint.offset).sum
    keyTravel := 0 }

theorem lockEvent_eq (s : State) : lockEvent s = sequencerLockEvent (jointsLocked s) (s.joints.countP Joint.inAlignedSet) := rfl

theorem jointsLocked_joint (s : State) (i : Nat) : (jointsLocked s).joints[i]? =
    s.joints[i]?.map (fun r => (r.snapped s.tables (i + 1)).realigned s.tables (i + 1)) := by
  have tables := (reportLocked_frame s (numbered s.joints)).tables
  rw [jointsLocked, realign_joint]
  show (((numbered s.joints).map (fun p => p.2.snapped s.tables p.1))[i]?).map
    (fun r => r.realigned (reportLocked s (numbered s.joints)).tables (i + 1)) = _
  rw [getElem?_map_numbered, Option.map_map, tables]
  rfl

theorem jointsLocked_length (s : State) : (jointsLocked s).joints.length = s.joints.length := by
  rw [jointsLocked, realign_length, List.length_map, length_numbered]

theorem jointsLocked_sum (s : State) : (jointsLocked s).extension = ((jointsLocked s).joints.map Joint.offset).sum := by
  rw [jointsLocked, realign_offsets]
  rfl

theorem jointsLocked_frame (s : State) :
    SameSequence { s with joints := (jointsLocked s).joints, extension := (jointsLocked s).extension, keyTravel := 0 }
      (jointsLocked s) := by
  have told := reportLocked_frame s (numbered s.joints)
  exact { told with joints := rfl, extension := rfl, keyTravel := rfl }

theorem reportLocked_axes (s : State) (l : List (Nat × Joint)) : (reportLocked s l).axes = s.axes ∧
    (reportLocked s l).deliveries = s.deliveries := by
  induction l generalizing s with
  | nil => exact ⟨rfl, rfl⟩
  | cons p l ih =>
    obtain ⟨axes, deliveries⟩ := ih (if p.2.inAlignedSet then report s .jointLocked p.1 p.2.nearest else s)
    refine ⟨axes.trans ?_, deliveries.trans ?_⟩ <;> split <;> rfl

theorem jointsLocked_same_at (s : State) (a : Axis) : SameAt a s (jointsLocked s) := by
  obtain ⟨axes, deliveries⟩ := reportLocked_axes s (numbered s.joints)
  exact ⟨congrArg (fun x => x.get a) axes, congrArg (fun x => x.get a) deliveries, (jointsLocked_frame s).ports⟩

theorem jointsLocked_counts (s : State) : SameCounts s (jointsLocked s) :=
  (reportLocked_counts s (numbered s.joints)).trans (SameCounts.same rfl)

/-- The parts that a lock event writes are those of `jointsLocked`: a completion leaves them. -/
theorem lockEvent_frame_locked (s : State) : SameTracking (jointsLocked s) (lockEvent s) := by
  rw [lockEvent_eq]
  exact sequencerLockEvent_frame _ _

/-- Settles O47: the joints of `jointsLocked`, and the completion where LOCKING runs. -/
theorem lockEventLocksTheAlignedSet : Obligations.LockEventLocksTheAlignedSet := by
  intro s t locks set told
  have after := lockEvent_frame_locked s
  have frame := jointsLocked_frame s
  have counted : s.joints.countP Joint.inAlignedSet = set.length := countP_numbered s.joints Joint.inAlignedSet
  have toldIs : reportLocked s (numbered s.joints) = told := reportLocked_eq s _
  have joints : t.joints = (jointsLocked s).joints := after.joints
  have extension : t.extension = (jointsLocked s).extension := after.extension
  have joint (i : Nat) : t.joints[i]? =
      s.joints[i]?.map (fun r => (r.snapped s.tables (i + 1)).realigned s.tables (i + 1)) :=
    (congrArg (fun l => l[i]?) joints).trans (jointsLocked_joint s i)
  have inSet (r : Joint) : r.inAlignedSet = true ↔ r.aligned = true ∧ r.lock ≠ .locked := by simp [Joint.inAlignedSet]
  refine ⟨after.keyTravel, ?_, ?_, fun i r found aligned => ?_, fun i r found apart => ?_, fun locking => ?_, fun other => ?_, ?_,
    ?_, fun a other => ?_, ?_⟩
  · rw [extension, joints, jointsLocked_sum]
  · rw [joints, jointsLocked_length]
  · refine ⟨_, (joint i).trans (congrArg _ found), ?_, ?_, ?_⟩ <;>
      simp only [Joint.realigned, Joint.snapped, if_pos ((inSet r).mpr aligned)]
  · refine ⟨_, (joint i).trans (congrArg _ found), ?_, ?_, ?_⟩ <;>
      simp only [Joint.realigned, Joint.snapped, if_neg (mt (inSet r).mp apart)]
  · have done : t = completeSequence (jointsLocked s) set.length := by
      rw [← counted]
      exact sequencerLockEvent_of_locking _ (frame.sequencer.trans locking)
    obtain ⟨idle, timer, -, back, -, reports⟩ := completeSequence_spec (jointsLocked s) set.length
    have rotary := jointsLocked_same_at s .rotary
    rw [done]
    refine ⟨idle, timer, back.of_same rotary.axis rotary.delivery (rotary.busOff .machine) frame.governor frame.millis, ?_⟩
    have subject : sequenceSubject (jointsLocked s) = 0 := by
      have other : (jointsLocked s).sequencer ≠ .releasing := by rw [frame.sequencer, locking]; decide
      exact if_neg other
    have same : reportsAfter (jointsLocked s) .autoDone 0 set.length = reportsAfter told .autoDone 0 set.length := by
      rw [← toldIs]
      exact reportsAfter_congr rfl rfl rfl rfl _ _ _
    rw [subject, same] at reports
    exact reports
  · have plain : t = jointsLocked s := sequencerLockEvent_of_other _ (fun locking => other (frame.sequencer.symm.trans locking))
    obtain ⟨axes, deliveries⟩ := reportLocked_axes s (numbered s.joints)
    rw [plain]
    exact ⟨frame.sequencer, frame.sequenceTimer, axes, deliveries, (show _ = (reportLocked s _).reports from rfl).trans (congrArg State.reports toldIs)⟩
  · rw [joints, extension]
    exact frame.toSameTracking.trans after
  · have kept : (jointsLocked s).aborts = s.aborts := frame.aborts
    by_cases locking : (jointsLocked s).sequencer = .locking
    · have done : t = completeSequence (jointsLocked s) _ := sequencerLockEvent_of_locking _ locking
      rw [done, (completeSequence_spec (jointsLocked s) _).2.2.1, kept]
    · have plain : t = jointsLocked s := sequencerLockEvent_of_other _ locking
      rw [plain, kept]
  · have same : SameAt a (jointsLocked s) t := by
      by_cases locking : (jointsLocked s).sequencer = .locking
      · have done : t = completeSequence (jointsLocked s) _ := sequencerLockEvent_of_locking _ locking
        rw [done]
        exact (completeSequence_spec (jointsLocked s) _).2.2.2.2.1 a other
      · have plain : t = jointsLocked s := sequencerLockEvent_of_other _ locking
        rw [plain]
    have whole := (jointsLocked_same_at s a).trans same
    exact ⟨whole.axis, whole.delivery⟩
  · exact (jointsLocked_counts s).trans (sequencerLockEvent_counts _ _)

/-! ## Release events (R80, R81) -/

/-- Every joint freed and the event raised; CROWD and the sequencer are still to be told. -/
def jointsFreed (s : State) : State :=
  report (realign { s with joints := s.joints.map Joint.released, keyTravel := 0 }) .jointsReleased 0 (countNotFree s)

theorem releaseEvent_eq (s : State) : releaseEvent s = handOffRelease (jointsFreed s) (countNotFree s) := rfl

theorem jointsFreed_joint (s : State) (i : Nat) : (jointsFreed s).joints[i]? =
    s.joints[i]?.map (fun r => r.released.realigned s.tables (i + 1)) := by
  show (realign _).joints[i]? = _
  rw [realign_joint]
  show ((s.joints.map Joint.released)[i]?).map _ = _
  rw [List.getElem?_map, Option.map_map]
  rfl

theorem jointsFreed_length (s : State) : (jointsFreed s).joints.length = s.joints.length := by
  show (realign _).joints.length = _
  rw [realign_length]
  exact List.length_map _

theorem jointsFreed_frame (s : State) :
    SameSequence { s with joints := (jointsFreed s).joints, keyTravel := 0 } (jointsFreed s) := by
  have told := report_frame (realign { s with joints := s.joints.map Joint.released, keyTravel := 0 }) .jointsReleased 0
    (countNotFree s)
  exact { told with joints := rfl, keyTravel := rfl }

theorem jointsFreed_counts (s : State) : SameCounts s (jointsFreed s) :=
  SameCounts.trans (t := realign { s with joints := s.joints.map Joint.released, keyTravel := 0 }) (SameCounts.same rfl)
    (report_counts _ _ _ _)

theorem handOffRelease_of_other {s : State} (n : Nat) (other : s.sequencer ≠ .releasing) :
    handOffRelease s n = evaluateNow s .crowd := if_neg other

/-- In RELEASING the completion and the evaluation of CROWD stand in one order or the other (log 10). -/
theorem handOffRelease_of_releasing {s : State} (n : Nat) (releasing : s.sequencer = .releasing) :
    handOffRelease s n = evaluateNow (completeSequence (madeChoices s 1) n) .crowd ∨
    handOffRelease s n = completeSequence (evaluateNow (madeChoices s 1) .crowd) n := by
  have first : sequencerReleaseEvent (madeChoices s 1) n = completeSequence (madeChoices s 1) n :=
    sequencerReleaseEvent_of_releasing n releasing
  have second : sequencerReleaseEvent (evaluateNow (madeChoices s 1) .crowd) n =
      completeSequence (evaluateNow (madeChoices s 1) .crowd) n :=
    sequencerReleaseEvent_of_releasing n ((evaluateNow_frame (madeChoices s 1) .crowd).sequencer.trans releasing)
  rw [handOffRelease, if_pos releasing, first, second]
  cases chooses s 0
  · exact .inr rfl
  · exact .inl rfl

/-- What the two hand-offs of a release event leave in RELEASING, in either order. -/
theorem handOffRelease_spec {s : State} (n : Nat) (releasing : s.sequencer = .releasing) :
    let t := handOffRelease s n
    t.sequencer = .idle ∧ t.sequenceTimer = none ∧ t.aborts = s.aborts ∧ HandedBackAtZero s t ∧ SameAt .hoist s t ∧
    t.axis .crowd = { s.axis .crowd with
      governed := (t.axis .crowd).governed, cause := (t.axis .crowd).cause, lastEval := some s.millis } ∧
    reportsAfter s .autoDone 1 n <+: t.reports ∧ SameTracking { s with choices := t.choices } t ∧ SameCounts s t := by
  intro t
  let v := madeChoices s 1
  have subject : sequenceSubject v = 1 := if_pos releasing
  rcases handOffRelease_of_releasing n releasing with order | order
  · let w := completeSequence v n
    have eq : t = evaluateNow w .crowd := order
    obtain ⟨idle, timer, aborts, back, others, reports⟩ := completeSequence_spec v n
    have turn := evaluateNow_frame w .crowd
    have whole : SameTracking v w := completeSequence_frame v n
    rw [subject] at reports
    rw [eq]
    refine ⟨turn.sequencer.trans idle, turn.sequenceTimer.trans timer, turn.aborts.trans aborts,
      (back.then_same (evaluateNow_same_at w (by decide))).of_same rfl rfl rfl rfl rfl,
      (show SameAt .hoist s v from ⟨rfl, rfl, rfl⟩).trans ((others .hoist (by decide)).trans
        (evaluateNow_same_at w (a := .crowd) (by decide))), ?_, ?_, ?_,
      (madeChoices_counts s 1).trans ((completeSequence_counts v n).trans (evaluateNow_counts w .crowd))⟩
    · obtain ⟨record, -⟩ := evaluateNow_evaluatedIn w .crowd
      have found : w.axis .crowd = s.axis .crowd := (others .crowd (by decide)).axis
      have millis : w.millis = s.millis := whole.millis
      rw [record, found, millis]
    · rw [evaluateNow_reports]
      exact reports
    · have all := whole.trans turn.toSameTracking
      exact { all with choices := rfl }
  · let w := evaluateNow v .crowd
    have eq : t = completeSequence w n := order
    obtain ⟨idle, timer, aborts, back, others, reports⟩ := completeSequence_spec w n
    have turn := evaluateNow_frame v .crowd
    have rotary : SameAt .rotary v w := evaluateNow_same_at v (by decide)
    have subjectW : sequenceSubject w = 1 := if_pos (turn.sequencer.trans releasing)
    have same := reportsAfter_congr (s := s) (u := w) turn.tables (evaluateNow_reports v .crowd) turn.channel turn.millis .autoDone 1 n
    rw [subjectW, same] at reports
    rw [eq]
    refine ⟨idle, timer, aborts.trans turn.aborts,
      back.of_same rotary.axis rotary.delivery (rotary.busOff .machine) turn.governor turn.millis,
      (show SameAt .hoist s v from ⟨rfl, rfl, rfl⟩).trans ((evaluateNow_same_at v (a := .crowd) (by decide)).trans
        (others .hoist (by decide))), ?_, reports, ?_,
      (madeChoices_counts s 1).trans ((evaluateNow_counts v .crowd).trans (completeSequence_counts w n))⟩
    · obtain ⟨record, -⟩ := evaluateNow_evaluatedIn v .crowd
      have found : (completeSequence w n).axis .crowd = w.axis .crowd := (others .crowd (by decide)).axis
      rw [found, record]
      rfl
    · have all := turn.toSameTracking.trans (completeSequence_frame w n)
      exact { all with choices := rfl }

/-- Settles O48. -/
theorem releaseEventFreesEveryJoint : Obligations.ReleaseEventFreesEveryJoint := by
  intro s t n u
  let v := jointsFreed s
  have frame := jointsFreed_frame s
  have vcounts := jointsFreed_counts s
  have joint (i : Nat) (r : Joint) (found : s.joints[i]? = some r) : v.joints[i]? = some
      { offset := r.offset, lock := .free, lockedRow := none, nearest := nearestRow s.tables (i + 1) r.offset
        aligned := isAligned s.tables (i + 1) r.offset } := by
    rw [jointsFreed_joint, found]
    rfl
  by_cases releasing : s.sequencer = .releasing
  · obtain ⟨idle, timer, aborts, back, hoist, crowd, reports, tracking, counts⟩ :=
      handOffRelease_spec (s := v) n releasing
    have joints : t.joints = v.joints := tracking.joints
    refine ⟨?_, fun i r found => ?_, ?_, vcounts.trans counts, aborts, hoist.axis, hoist.delivery, crowd,
      fun other => absurd releasing other, fun _ => ⟨idle, timer, back.of_same rfl rfl rfl rfl rfl, reports⟩⟩
    · rw [joints, jointsFreed_length]
    · rw [joints, joint i r found]
    · have start : SameTracking u { v with choices := t.choices } := by
        have all := frame.toSameTracking
        exact { all with joints := joints.symm, choices := rfl }
      exact start.trans tracking
  · have eq : t = evaluateNow v .crowd := handOffRelease_of_other n releasing
    have turn := evaluateNow_frame v .crowd
    have joints : t.joints = v.joints := by rw [eq]; exact turn.joints
    have choices : t.choices = s.choices := by rw [eq]; exact turn.choices
    have tracking : SameTracking u t := by
      have all := frame.toSameTracking.trans turn.toSameTracking
      rw [← eq] at all
      exact { all with joints := rfl, choices := rfl }
    obtain ⟨record, sent⟩ := evaluateNow_evaluatedIn v .crowd
    have hoist : SameAt .hoist v t := by rw [eq]; exact evaluateNow_same_at v (by decide)
    have rotary : SameAt .rotary v t := by rw [eq]; exact evaluateNow_same_at v (by decide)
    have value : evaluated v .crowd = evaluated u .crowd := by
      have env : SameEnvelope u v := ⟨rfl, rfl, joints.symm, rfl, rfl, rfl, rfl⟩
      exact env.evaluated (fun _ => ⟨rfl, rfl⟩) rfl rfl
    refine ⟨?_, fun i r found => ?_, tracking, ?_, ?_, hoist.axis, hoist.delivery, ?_, fun _ => ⟨?_, ?_, choices, ?_, ?_, rotary.axis, rotary.delivery⟩,
      fun releases => absurd releases releasing⟩
    · rw [joints, jointsFreed_length]
    · rw [joints, joint i r found]
    · rw [eq]
      exact vcounts.trans (evaluateNow_counts v .crowd)
    · rw [eq]
      exact turn.aborts
    · rw [eq, record]
      rfl
    · rw [eq]
      exact turn.sequencer
    · rw [eq]
      exact turn.sequenceTimer
    · rw [eq, evaluateNow_reports]
      rfl
    · rw [value] at record sent
      rw [eq]
      exact ⟨record, sent.trans (produce_delivery_congr (s := s) (u := v) (a := .crowd) rfl rfl rfl _ _ _)⟩

/-! ## Band lookups (R94 to R97) -/

theorem contains_iff (bore : Table) (k : Nat) (z : Int) :
    Bore.contains bore k z = true ↔ Bore.top bore k ≤ z ∧ z < Bore.bottom bore k := by
  simp [Bore.contains]

/-- The band found is the first in use that contains the depth (R91). -/
theorem bandAt_eq_some (bore : Table) (z : Int) (k : Nat) : Bore.bandAt bore z = some k ↔
    k < Bore.count bore ∧ (Bore.top bore k ≤ z ∧ z < Bore.bottom bore k) ∧
      ∀ j < k, ¬(Bore.top bore j ≤ z ∧ z < Bore.bottom bore j) := by
  have outside (j : Nat) : (!Bore.contains bore j z) = true ↔ ¬(Bore.top bore j ≤ z ∧ z < Bore.bottom bore j) := by
    rw [Bool.not_eq_true', ← Bool.not_eq_true, contains_iff]
  rw [Bore.bandAt, List.find?_range_eq_some, List.mem_range, contains_iff]
  simp only [outside]
  exact ⟨fun ⟨here, used, before⟩ => ⟨used, here, before⟩, fun ⟨used, here, before⟩ => ⟨here, used, before⟩⟩

theorem lookupBand_kept {ts : Tables} {i : Nat} {z : Int} (near : Bore.top ts.bore i - Rig.hysteresis ts.rig ≤ z ∧
    z < Bore.bottom ts.bore i + Rig.hysteresis ts.rig) : lookupBand ts (some i) z = some i := if_pos near

theorem lookupBand_left {ts : Tables} {i : Nat} {z : Int} (valid : ts.bore.valid = true)
    (far : ¬(Bore.top ts.bore i - Rig.hysteresis ts.rig ≤ z ∧ z < Bore.bottom ts.bore i + Rig.hysteresis ts.rig)) :
    lookupBand ts (some i) z = Bore.bandAt ts.bore z := (if_neg far).trans (if_pos valid)

theorem entersBand_iff (bore : Table) (h z : Int) (i : Nat) : entersBand bore h z i = true ↔
    if (Bore.bottom bore i - Bore.top bore i) / 2 < h then Bore.top bore i ≤ z ∧ z < Bore.bottom bore i
    else Bore.top bore i + h ≤ z ∧ z < Bore.bottom bore i - h := by
  unfold entersBand
  dsimp only
  split <;> simp only [Bool.and_eq_true, decide_eq_true_eq]

theorem lookupBand_default {ts : Tables} (valid : ts.bore.valid = true) (z : Int) (k : Nat) :
    lookupBand ts none z = some k ↔
      Bore.bandAt ts.bore z = some k ∧ entersBand ts.bore (Rig.hysteresis ts.rig) z k = true := by
  simp only [lookupBand, if_pos valid]
  cases Bore.bandAt ts.bore z with
  | none => simp
  | some i =>
    by_cases enters : entersBand ts.bore (Rig.hysteresis ts.rig) z i = true
    · simp only [if_pos enters, Option.some.injEq]
      exact ⟨fun same => ⟨same, same ▸ enters⟩, And.left⟩
    · simp only [if_neg enters, Option.some.injEq, reduceCtorEq, false_iff]
      rintro ⟨rfl, enters'⟩
      exact enters enters'

theorem changeBand_eq (s : State) (band : Option Nat) : changeBand s band =
    evaluateAll (report { s with band := band } .bandEntered (band.getD 255) (match band with
      | none => u8At (s.tables.rig.row 9) 0
      | some i => u8At (s.tables.bore.row (i + 1)) 6)) := by
  cases band <;> rfl

theorem bandPayout_of_change {s : State} (valid : s.tables.rig.valid = true) (changes : bandAtSample s ≠ s.band) :
    bandPayout s = changeBand s (bandAtSample s) := if_pos ⟨valid, changes⟩

theorem bandPayout_of_kept {s : State} (kept : s.tables.rig.valid = false ∨ bandAtSample s = s.band) : bandPayout s = s := by
  refine if_neg ?_
  rintro ⟨valid, changes⟩
  rcases kept with invalid | same
  · exact absurd valid (by simp [invalid])
  · exact changes same

theorem bandAtCommit_eq_some (s : State) (k : Nat) : bandAtCommit s = some k ↔ ∃ x, commitDepth s = some x ∧
    k < Bore.count s.tables.bore ∧ Bore.top s.tables.bore k ≤ x ∧ x < Bore.bottom s.tables.bore k ∧
      ∀ j < k, ¬(Bore.top s.tables.bore j ≤ x ∧ x < Bore.bottom s.tables.bore j) := by
  rcases depth : commitDepth s with _ | x
  · simp [bandAtCommit, depth]
  · simp [bandAtCommit, depth, bandAt_eq_some, and_assoc]

theorem bandRowApplied_iff (es : List BufferEntry) (k : Nat) :
    bandRowApplied es (some k) = true ↔ ∃ e ∈ es, e.table = 4 ∧ e.row = k + 1 := by
  simp [bandRowApplied, touchesRow]

theorem bandCommit_of_change {s : State} {es : List BufferEntry}
    (changes : bandAtCommit s ≠ s.band ∨ bandRowApplied es (bandAtCommit s) = true) :
    bandCommit s es = changeBand s (bandAtCommit s) := if_pos changes

/-- Settles O49. -/
theorem bandLookupHasHysteresis : Obligations.BandLookupHasHysteresis := by
  refine ⟨?lookup, ?change⟩
  case lookup =>
    intro ts z valid h inside first enters
    exact ⟨fun i low high => lookupBand_kept ⟨low, high⟩,
      fun i far k => by rw [lookupBand_left valid far]; exact bandAt_eq_some _ _ _,
      fun k => by rw [lookupBand_default valid, entersBand_iff, bandAt_eq_some]⟩
  case change =>
    intro s es entered z sampled depth bore found applied
    have enteredIs (band : Option Nat) : changeBand s band = entered band := changeBand_eq s band
    have depthIs : commitDepth s = depth := by
      simp only [commitDepth, isFresh, beq_iff_eq] <;> rfl
    have foundIs (k : Nat) : found k ↔ bandAtCommit s = some k := by
      rw [bandAtCommit_eq_some, depthIs]
    refine ⟨fun valid changes => (bandPayout_of_change valid changes).trans (enteredIs _), bandPayout_of_kept,
      fun k isFound changes => ?_, fun k isFound same kept => ?_, fun none => ?_⟩
    · have at_ := (foundIs k).mp isFound
      rw [bandCommit_of_change (by rw [at_, bandRowApplied_iff]; exact changes.imp Ne.symm id), at_, enteredIs]
    · have at_ := (foundIs k).mp isFound
      refine if_neg ?_
      rw [at_, bandRowApplied_iff]
      rintro (changes | isApplied)
      · exact changes same.symm
      · exact kept isApplied
    · have at_ : bandAtCommit s = Option.none := by
        rcases band : bandAtCommit s with _ | k
        · rfl
        · exact absurd ((foundIs k).mpr band) (none k)
      by_cases default : s.band = Option.none
      · rw [if_pos default]
        refine if_neg ?_
        rw [at_, default]
        simp [bandRowApplied]
      · rw [if_neg default, bandCommit_of_change (.inl (by rw [at_]; exact Ne.symm default)), at_, enteredIs]

end Sys2Proof.Machine
end

section
/-! One allocation, through its eight steps (R58 to R68): what each writes, its events, and its hand-offs. -/

namespace Sys2Proof.Machine

open Sys2Proof

/-! ## What an allocation leaves alone -/

/-- Outside the drives, the sequencer and the geometry nothing is changed. -/
structure KellyFrame (s t : State) : Prop extends Kept s t where
  sensors       : t.sensors = s.sensors
  depthHeld     : t.depthHeld = s.depthHeld
  angleRef      : t.angleRef = s.angleRef
  band          : t.band = s.band
  backoff       : t.backoff = s.backoff
  stallTimer    : t.stallTimer = s.stallTimer
  recoveryTimer : t.recoveryTimer = s.recoveryTimer
  machineFault  : t.machineFault = s.machineFault
  choices       : t.choices = s.choices

theorem KellyFrame.trans {s t u : State} (h : KellyFrame s t) (k : KellyFrame t u) : KellyFrame s u where
  toKept := h.toKept.trans k.toKept
  sensors := k.sensors.trans h.sensors
  depthHeld := k.depthHeld.trans h.depthHeld
  angleRef := k.angleRef.trans h.angleRef
  band := k.band.trans h.band
  backoff := k.backoff.trans h.backoff
  stallTimer := k.stallTimer.trans h.stallTimer
  recoveryTimer := k.recoveryTimer.trans h.recoveryTimer
  machineFault := k.machineFault.trans h.machineFault
  choices := k.choices.trans h.choices

theorem SameTracking.kelly {s t : State} (h : SameTracking s t) : KellyFrame s t :=
  ⟨h.toKept, h.sensors, h.depthHeld, h.angleRef, h.band, h.backoff, h.stallTimer, h.recoveryTimer, h.machineFault, h.choices⟩

theorem kellyFrame_of_kept {s t : State} (h : Kept s t) (sensors : t.sensors = s.sensors) (depthHeld : t.depthHeld = s.depthHeld)
    (angleRef : t.angleRef = s.angleRef) (band : t.band = s.band) (backoff : t.backoff = s.backoff)
    (stallTimer : t.stallTimer = s.stallTimer) (recoveryTimer : t.recoveryTimer = s.recoveryTimer)
    (machineFault : t.machineFault = s.machineFault) (choices : t.choices = s.choices) : KellyFrame s t :=
  ⟨h, sensors, depthHeld, angleRef, band, backoff, stallTimer, recoveryTimer, machineFault, choices⟩

/-- Axes, deliveries and sequencer are as they were. -/
structure SameDrive (s t : State) : Prop where
  axes          : t.axes = s.axes
  deliveries    : t.deliveries = s.deliveries
  sequencer     : t.sequencer = s.sequencer
  sequenceTimer : t.sequenceTimer = s.sequenceTimer
  aborts        : t.aborts = s.aborts

theorem SameDrive.trans {s t u : State} (h : SameDrive s t) (k : SameDrive t u) : SameDrive s u :=
  ⟨k.axes.trans h.axes, k.deliveries.trans h.deliveries, k.sequencer.trans h.sequencer,
    k.sequenceTimer.trans h.sequenceTimer, k.aborts.trans h.aborts⟩

theorem SameDrive.at {s t : State} (h : SameDrive s t) (ports : t.ports = s.ports) (a : Axis) : SameAt a s t :=
  ⟨congrArg (fun x => x.get a) h.axes, congrArg (fun x => x.get a) h.deliveries, ports⟩

/-! ## The lock slip (R63, R83) -/

/-- A LOCKED joint becomes UNKNOWN, without a locked row (R83). -/
def Joint.slipped (r : Joint) : Joint := if r.lock = .locked then { r with lock := .unknown, lockedRow := none } else r

/-- The joints of a lock slip, with its event and fault; CROWD is still to be told. -/
def slipRecorded (s : State) (deficit : Int) : State :=
  capture (report { s with joints := s.joints.map Joint.slipped, keyTravel := 0 } .lockSlip
    (s.joints.countP (fun r => r.lock == .locked)) (min deficit 32767)) .lockSlip (s.joints.countP (fun r => r.lock == .locked))

theorem lockSlip_eq (s : State) (deficit : Int) :
    lockSlip s deficit = evaluateNow (enterFault (slipRecorded s deficit) .crowd .lockSlip) .crowd := rfl

theorem slipRecorded_frame (s : State) (deficit : Int) : KellyFrame s (slipRecorded s deficit) := by
  have told : SameSequence _ (report { s with joints := s.joints.map Joint.slipped, keyTravel := 0 } .lockSlip
    (s.joints.countP (fun r => r.lock == .locked)) (min deficit 32767)) := report_frame _ _ _ _
  have all := told.toSameTracking.kelly
  exact { all with machineFault := rfl }

theorem slipRecorded_drive (s : State) (deficit : Int) : SameDrive s (slipRecorded s deficit) := ⟨rfl, rfl, rfl, rfl, rfl⟩

theorem lockSlip_tracking (s : State) (deficit : Int) : SameTracking (slipRecorded s deficit) (lockSlip s deficit) :=
  (enterFault_frame _ _ _).trans (evaluateNow_frame _ _).toSameTracking

theorem enterFault_reports {s : State} {a : Axis} (c : ExitCause) (notAuto : (s.axis a).state ≠ .auto) :
    (enterFault s a c).reports = if (s.axis a).state = .fault ∧ hasExit (s.axis a).exits c = true then s.reports
      else reportsAfter s .axisFault a.code c.bit := by
  by_cases fault : (s.axis a).state = .fault
  · cases known : hasExit (s.axis a).exits c
    · rw [enterFault_of_fault fault known, if_neg (by simp)]
      rfl
    · rw [enterFault_of_known fault known, if_pos ⟨fault, rfl⟩]
  · rw [enterFault_of_entry fault, if_neg notAuto, produce_reports, if_neg (fun h => fault h.1)]
    rfl

/-- CROWD after a lock slip: in FAULT with LOCK_SLIP, evaluated there, and 0 handed over (R83, R130, R134). -/
theorem lockSlip_crowd (s : State) (deficit : Int) :
    (lockSlip s deficit).axis .crowd = { s.axis .crowd with
      state := .fault, governed := 0, cause := .none, lastEval := some s.millis
      ramp := if (s.axis .crowd).state = .fault then (s.axis .crowd).ramp else none
      exits := addExit (s.axis .crowd).exits .lockSlip } ∧
    (lockSlip s deficit).delivery .crowd = (produce s .crowd 0 .neutral false).delivery .crowd := by
  let u := slipRecorded s deficit
  let v := enterFault u .crowd .lockSlip
  have entered := enterFault_enteredFault u .crowd .lockSlip
  have frame := enterFault_frame u .crowd .lockSlip
  have record : v.axis .crowd = { s.axis .crowd with
      state := .fault, governed := if (s.axis .crowd).state = .fault then (s.axis .crowd).governed else 0
      ramp := if (s.axis .crowd).state = .fault then (s.axis .crowd).ramp else none
      exits := addExit (s.axis .crowd).exits .lockSlip } := by
    by_cases fault : (s.axis .crowd).state = .fault
    · rw [entered.already fault, if_pos fault, if_pos fault, ← fault]
      rfl
    · rw [entered.entered fault, if_neg fault, if_neg fault]
      rfl
  have state : (v.axis .crowd).state = .fault := by rw [record]
  have value : evaluated v .crowd = (0, .none) := by simp only [evaluated, state]
  obtain ⟨axis, sent⟩ := evaluateNow_evaluatedIn v .crowd
  rw [value, state] at sent
  rw [value, record] at axis
  have millis : v.millis = s.millis := frame.millis
  refine ⟨axis.trans (by rw [millis]), sent.trans ?_⟩
  have off : isBusOff v .machine = isBusOff s .machine := by rw [isBusOff, State.port, frame.ports]; rfl
  cases connected : isBusOff s .machine
  · rw [AxisState.mode, produce_neutral_delivery_same v .crowd (off.trans connected),
      produce_neutral_delivery_same s .crowd connected]
    by_cases fault : (s.axis .crowd).state = .fault
    · rw [entered.notHanded (.inl fault)]
      rfl
    · rw [entered.handed fault connected, DeliveryRecord.handed_handed]
      rfl
  · rw [produce_busOff v _ _ _ _ (off.trans connected), produce_busOff s _ _ _ _ connected, entered.notHanded (.inr connected)]
    rfl

theorem lockSlip_same_at (s : State) (deficit : Int) {a : Axis} (other : a ≠ .crowd) : SameAt a s (lockSlip s deficit) := by
  have entered := enterFault_enteredFault (slipRecorded s deficit) .crowd .lockSlip
  have frame := enterFault_frame (slipRecorded s deficit) .crowd .lockSlip
  obtain ⟨axis, delivery⟩ := entered.others a other
  have before : SameAt a s (enterFault (slipRecorded s deficit) .crowd .lockSlip) := ⟨axis, delivery, frame.ports⟩
  exact before.trans (evaluateNow_same_at _ other)

theorem lockSlip_sequence {s : State} (deficit : Int) (notAuto : (s.axis .crowd).state ≠ .auto) :
    (lockSlip s deficit).sequencer = s.sequencer ∧ (lockSlip s deficit).sequenceTimer = s.sequenceTimer ∧
    (lockSlip s deficit).aborts = s.aborts := by
  have entered := enterFault_enteredFault (slipRecorded s deficit) .crowd .lockSlip
  have turn := evaluateNow_frame (enterFault (slipRecorded s deficit) .crowd .lockSlip) .crowd
  obtain ⟨sequencer, timer, aborts⟩ := entered.kept (.inl notAuto)
  exact ⟨turn.sequencer.trans sequencer, turn.sequenceTimer.trans timer, turn.aborts.trans aborts⟩

/-- The step slips where the free extension is below minus the slip tolerance (R63). -/
abbrev Slips (s : State) : Prop := freeExtension s < - Rig.slipTolerance s.tables.rig

theorem slipStep_of_slips {s : State} (slips : Slips s) : slipStep s = lockSlip s (- freeExtension s) := if_pos slips

theorem slipStep_of_held {s : State} (held : ¬Slips s) : slipStep s = s := if_neg held

/-- What the geometry of a state makes of the joints at step 3. -/
def jointsAtSlip (s : State) : List Joint := if Slips s then s.joints.map Joint.slipped else s.joints

theorem slipStep_kelly (s : State) : KellyFrame s (slipStep s) := by
  by_cases slips : Slips s
  · rw [slipStep_of_slips slips]
    exact (slipRecorded_frame s _).trans (lockSlip_tracking s _).kelly
  · rw [slipStep_of_held slips]
    exact (SameSequence.refl s).toSameTracking.kelly

theorem slipStep_fields (s : State) : (slipStep s).joints = jointsAtSlip s ∧
    (slipStep s).extension = s.extension ∧ (slipStep s).mismatch = s.mismatch ∧
    (slipStep s).keyTravel = (if Slips s then 0 else s.keyTravel) ∧
    (slipStep s).barFault = (if Slips s then FaultRecord.offer s.barFault
      (freshFault s .lockSlip (s.joints.countP (fun r => r.lock == .locked))) else s.barFault) := by
  unfold jointsAtSlip
  by_cases slips : Slips s
  · have frame := lockSlip_tracking s (- freeExtension s)
    simp only [slipStep_of_slips slips, if_pos slips]
    exact ⟨frame.joints, frame.extension, frame.mismatch, frame.keyTravel, frame.barFault⟩
  · rw [slipStep_of_held slips, if_neg slips, if_neg slips, if_neg slips]
    exact ⟨rfl, rfl, rfl, rfl, rfl⟩

theorem freeExtension_congr {s t : State} (tables : t.tables = s.tables) (sensors : t.sensors = s.sensors) :
    rawExtension t = rawExtension s ∧ clampedExtension t = clampedExtension s ∧ rangeFails t = rangeFails s := by
  have raw : rawExtension t = rawExtension s := by
    simp only [rawExtension, toolDepth, sensorValue, State.sensor, tables, sensors]
  refine ⟨raw, ?_, ?_⟩
  · simp only [clampedExtension, raw, tables]
  · simp only [rangeFails, raw, tables]

/-! ## The mismatch (R60, R64) -/

theorem decideMismatch_drive (s : State) : SameDrive s (decideMismatch s) := by
  unfold decideMismatch
  dsimp only
  split
  · exact ⟨rfl, rfl, rfl, rfl, rfl⟩
  · split <;> exact ⟨rfl, rfl, rfl, rfl, rfl⟩

theorem decideMismatch_fields (s : State) : (decideMismatch s).joints = s.joints ∧ (decideMismatch s).extension = s.extension ∧
    (decideMismatch s).keyTravel = s.keyTravel ∧ (decideMismatch s).mismatch = (rangeFails s || overExtended s) := by
  unfold decideMismatch
  dsimp only
  split
  · exact ⟨rfl, rfl, rfl, rfl⟩
  · split <;> exact ⟨rfl, rfl, rfl, rfl⟩

theorem decideMismatch_kelly (s : State) : KellyFrame s (decideMismatch s) := by
  refine kellyFrame_of_kept (decideMismatch_frame s) ?_ ?_ ?_ ?_ ?_ ?_ ?_ ?_ ?_ <;>
    (unfold decideMismatch; dsimp only; split; · rfl) <;> split <;> rfl

theorem decideMismatch_entered {s : State} (now : (rangeFails s || overExtended s) = true) (before : s.mismatch = false) :
    (decideMismatch s).reports = reportsAfter s .geometryMismatch (if rangeFails s then 0 else 1) (mismatchDetail s) ∧
    (decideMismatch s).barFault =
      FaultRecord.offer s.barFault (freshFault s .geometryMismatch (if rangeFails s then 0 else 1)) := by
  unfold decideMismatch
  dsimp only
  rw [if_pos (by rw [now, before]; rfl)]
  exact ⟨rfl, rfl⟩

theorem decideMismatch_left {s : State} (now : (rangeFails s || overExtended s) = false) (before : s.mismatch = true) :
    (decideMismatch s).reports = reportsAfter s .geometryRestored 0 0 ∧ (decideMismatch s).barFault = s.barFault := by
  unfold decideMismatch
  dsimp only
  rw [if_neg (by rw [now]; simp), if_pos (by rw [now, before]; rfl)]
  exact ⟨rfl, rfl⟩

theorem decideMismatch_kept {s : State} (same : (rangeFails s || overExtended s) = s.mismatch) :
    (decideMismatch s).reports = s.reports ∧ (decideMismatch s).barFault = s.barFault := by
  unfold decideMismatch
  dsimp only
  rw [same, if_neg (by simp), if_neg (by simp)]
  exact ⟨rfl, rfl⟩

/-! ## The division (R64, R65) -/

theorem divideStep_joint (s : State) (i : Nat) : (divideStep s).joints[i]? = s.joints[i]?.map (fun r =>
    Joint.given s.tables.bar (clamp 0 (freeStroke s.tables.bar s.joints) (freeExtension s) - beyondStroke s.tables.bar s.joints i)
      (i + 1, r)) :=
  divideExtension_getElem? _ (clamp_bounds (freeStroke_nonneg _ _) _).1 _ i

theorem divideStep_length (s : State) : (divideStep s).joints.length = s.joints.length :=
  divideExtension_length _ (clamp_bounds (freeStroke_nonneg _ _) _).1 _

theorem divideStep_sum (s : State) : ((divideStep s).joints.map Joint.offset).sum = (divideStep s).extension := by
  obtain ⟨low, high⟩ := clamp_bounds (freeStroke_nonneg s.tables.bar s.joints) (freeExtension s)
  exact divideExtension_sum _ low _ high

theorem divideStep_kelly (s : State) : KellyFrame s (divideStep s) :=
  kellyFrame_of_kept (divideStep_frame s) rfl rfl rfl rfl rfl rfl rfl rfl rfl

theorem divideStep_drive (s : State) : SameDrive s (divideStep s) := ⟨rfl, rfl, rfl, rfl, rfl⟩

theorem divideStep_fields (s : State) : (divideStep s).mismatch = s.mismatch ∧ (divideStep s).keyTravel = s.keyTravel ∧
    (divideStep s).barFault = s.barFault ∧ (divideStep s).reports = s.reports ∧
    (divideStep s).extension = lockedSum s.joints + clamp 0 (freeStroke s.tables.bar s.joints) (freeExtension s) :=
  ⟨rfl, rfl, rfl, rfl, rfl⟩

/-! ## The retraction reset (R66, R82) -/

/-- The bar is retracted within the tolerance (R66). -/
abbrev Closes (s : State) : Prop := s.extension ≤ Rig.retractTolerance s.tables.rig

/-- Every joint at 0 and FREE, and the event raised; the sequencer is still to be told. -/
def retractedState (s : State) : State :=
  let t := { s with joints := s.joints.map Joint.retracted, extension := 0, keyTravel := 0 }
  if countNotFree s = 0 then t else report t .jointsReleased 1 (countNotFree s)

theorem retractionStep_of_closes {s : State} (closes : Closes s) :
    retractionStep s = sequencerReleaseEvent (retractedState s) (countNotFree s) := if_pos closes

theorem retractionStep_of_open {s : State} (drawn : ¬Closes s) : retractionStep s = s := if_neg drawn

theorem retractedState_fields (s : State) : (retractedState s).joints = s.joints.map Joint.retracted ∧
    (retractedState s).extension = 0 ∧ (retractedState s).keyTravel = 0 ∧ (retractedState s).mismatch = s.mismatch ∧
    (retractedState s).barFault = s.barFault := by
  unfold retractedState
  dsimp only
  split <;> exact ⟨rfl, rfl, rfl, rfl, rfl⟩

theorem retractedState_drive (s : State) : SameDrive s (retractedState s) := by
  unfold retractedState
  dsimp only
  split <;> exact ⟨rfl, rfl, rfl, rfl, rfl⟩

theorem retractedState_kelly (s : State) : KellyFrame s (retractedState s) := by
  let t := { s with joints := s.joints.map Joint.retracted, extension := 0, keyTravel := 0 }
  have moved : KellyFrame s t :=
    kellyFrame_of_kept (kept_mk s _ _ _ _ _ _ _ _ _ _) rfl rfl rfl rfl rfl rfl rfl rfl rfl
  unfold retractedState
  dsimp only
  split
  · exact moved
  · exact moved.trans (report_frame t _ _ _).toSameTracking.kelly

theorem retractedState_reports (s : State) : (retractedState s).reports =
    if countNotFree s = 0 then s.reports else reportsAfter s .jointsReleased 1 (countNotFree s) := by
  unfold retractedState
  dsimp only
  split <;> rfl

/-! ## The aligned set (R67) -/

/-- Nearest rows and flags recomputed, with A at 0 where the aligned set changed. -/
def alignedState (before : List Bool) (s : State) : State :=
  { realign s with keyTravel := if alignedSet (realign s) = before then s.keyTravel else 0 }

/-- A change that leaves the aligned set empty ends LOCKING (R67, R160). -/
def LosesSet (before : List Bool) (s : State) : Prop :=
  s.sequencer = .locking ∧ alignedSet (realign s) ≠ before ∧ anyJoint (alignedSet (realign s)) = false

theorem alignmentStep_of_kept {before : List Bool} {s : State} (kept : ¬LosesSet before s) :
    alignmentStep before s = alignedState before s := by
  unfold alignmentStep alignedState
  dsimp only
  by_cases same : alignedSet (realign s) = before
  · rw [if_pos same, if_pos same]
    rfl
  · rw [if_neg same, if_neg same, sequencerSetChange, if_neg]
    rintro ⟨locking, empty⟩
    exact kept ⟨locking, same, empty⟩

theorem alignmentStep_of_lost {before : List Bool} {s : State} (lost : LosesSet before s) :
    alignmentStep before s = abortAndHandBack (alignedState before s) .alignmentLost := by
  obtain ⟨locking, changed, empty⟩ := lost
  unfold alignmentStep alignedState
  dsimp only
  rw [if_neg changed, if_neg changed, sequencerSetChange, if_pos ⟨locking, empty⟩]

theorem alignedState_kelly (before : List Bool) (s : State) : KellyFrame s (alignedState before s) :=
  kellyFrame_of_kept (kept_mk s _ _ _ _ _ _ _ _ _ _) rfl rfl rfl rfl rfl rfl rfl rfl rfl

theorem alignedState_drive (before : List Bool) (s : State) : SameDrive s (alignedState before s) := ⟨rfl, rfl, rfl, rfl, rfl⟩

theorem alignedState_fields (before : List Bool) (s : State) : (alignedState before s).joints = (realign s).joints ∧
    (alignedState before s).extension = s.extension ∧ (alignedState before s).mismatch = s.mismatch ∧
    (alignedState before s).barFault = s.barFault ∧ (alignedState before s).reports = s.reports ∧
    (alignedState before s).keyTravel = if alignedSet (realign s) = before then s.keyTravel else 0 :=
  ⟨rfl, rfl, rfl, rfl, rfl, rfl⟩

theorem alignedState_same_at (before : List Bool) (s : State) (a : Axis) : SameAt a s (alignedState before s) := ⟨rfl, rfl, rfl⟩

theorem alignmentStep_tracking (before : List Bool) (s : State) : SameTracking (alignedState before s) (alignmentStep before s) := by
  by_cases lost : LosesSet before s
  · rw [alignmentStep_of_lost lost]
    exact abortAndHandBack_frame _ _
  · exact alignmentStep_of_kept lost ▸ (SameSequence.refl _).toSameTracking

end Sys2Proof.Machine
end

section
/-! An allocation as a whole (R61 to R68): the state before its retraction reset, the state before its alignment, and what its
hand-offs leave. -/

namespace Sys2Proof.Machine

open Sys2Proof

/-! ## Steps 1 to 6 -/

/-- The state of an allocation once the extension is divided (R62 to R65). -/
def dividedState (s : State) : State := divideStep (decideMismatch (slipStep s))

/-- The free extension that step 6 divides. -/
def freeAtSlip (s : State) : Int := clampedExtension s - lockedSum (jointsAtSlip s)

/-- What of it the joints that are not LOCKED can take. -/
def givenAtSlip (s : State) : Int := clamp 0 (freeStroke s.tables.bar (jointsAtSlip s)) (freeAtSlip s)

theorem decided_kelly (s : State) : KellyFrame s (decideMismatch (slipStep s)) :=
  (slipStep_kelly s).trans (decideMismatch_kelly _)

theorem dividedState_kelly (s : State) : KellyFrame s (dividedState s) := (decided_kelly s).trans (divideStep_kelly _)

theorem dividedState_drive (s : State) : SameDrive (slipStep s) (dividedState s) :=
  (decideMismatch_drive _).trans (divideStep_drive _)

theorem slipped_free (s : State) : freeExtension (slipStep s) = freeAtSlip s := by
  have frame := slipStep_kelly s
  obtain ⟨-, clamped, -⟩ := freeExtension_congr frame.tables frame.sensors
  rw [freeExtension, clamped, (slipStep_fields s).1, freeAtSlip]

theorem decided_joints (s : State) : (decideMismatch (slipStep s)).joints = jointsAtSlip s :=
  (decideMismatch_fields _).1.trans (slipStep_fields s).1

theorem decided_free (s : State) : freeExtension (decideMismatch (slipStep s)) = freeAtSlip s := by
  have frame := decided_kelly s
  obtain ⟨-, clamped, -⟩ := freeExtension_congr frame.tables frame.sensors
  rw [freeExtension, clamped, decided_joints, freeAtSlip]

theorem dividedState_joint (s : State) (i : Nat) : (dividedState s).joints[i]? = (jointsAtSlip s)[i]?.map (fun r =>
    Joint.given s.tables.bar (givenAtSlip s - beyondStroke s.tables.bar (jointsAtSlip s) i) (i + 1, r)) := by
  rw [dividedState, divideStep_joint, decided_joints, decided_free, (decided_kelly s).tables]
  rfl

theorem dividedState_extension (s : State) : (dividedState s).extension = lockedSum (jointsAtSlip s) + givenAtSlip s := by
  rw [dividedState, (divideStep_fields _).2.2.2.2, decided_joints, decided_free, (decided_kelly s).tables, givenAtSlip]

theorem overExtended_slipped (s : State) : overExtended (slipStep s) =
    decide (freeStroke s.tables.bar (jointsAtSlip s) + Rig.slipTolerance s.tables.rig < freeAtSlip s) := by
  rw [overExtended, slipped_free, (slipStep_fields s).1, (slipStep_kelly s).tables]

theorem rangeFails_slipped (s : State) : rangeFails (slipStep s) = rangeFails s :=
  (freeExtension_congr (slipStep_kelly s).tables (slipStep_kelly s).sensors).2.2

theorem dividedState_mismatch (s : State) : (dividedState s).mismatch = (rangeFails s ||
    decide (freeStroke s.tables.bar (jointsAtSlip s) + Rig.slipTolerance s.tables.rig < freeAtSlip s)) := by
  rw [dividedState, (divideStep_fields _).1, (decideMismatch_fields _).2.2.2, rangeFails_slipped, overExtended_slipped]

theorem dividedState_keyTravel (s : State) : (dividedState s).keyTravel = if Slips s then 0 else s.keyTravel := by
  rw [dividedState, (divideStep_fields _).2.1, (decideMismatch_fields _).2.2.1, (slipStep_fields s).2.2.2.1]

theorem jointsAtSlip_length (s : State) : (jointsAtSlip s).length = s.joints.length := by
  unfold jointsAtSlip
  split
  · exact List.length_map _
  · rfl

theorem dividedState_length (s : State) : (dividedState s).joints.length = s.joints.length := by
  rw [dividedState, divideStep_length, decided_joints, jointsAtSlip_length]

/-- A division changes no lock state. -/
theorem dividedState_notFree (s : State) :
    countNotFree (dividedState s) = (jointsAtSlip s).countP (fun j => j.lock != .free) := by
  have locks : (dividedState s).joints.map Joint.lock = (jointsAtSlip s).map Joint.lock := by
    refine List.ext_getElem? fun i => ?_
    rw [List.getElem?_map, List.getElem?_map, dividedState_joint, Option.map_map]
    refine congrArg (fun f => Option.map f _) (funext fun r => ?_)
    simp only [Function.comp, Joint.given]
    split <;> rfl
  have count (l : List Joint) : l.countP (fun j => j.lock != .free) = (l.map Joint.lock).countP (· != .free) :=
    (List.countP_map (p := (· != LockState.free)) (f := Joint.lock) (l := l)).symm
  rw [countNotFree, count, count, locks]

/-! ## Step 7 -/

/-- The state before the alignment, but for the completion of RELEASING. -/
def settledState (s : State) : State := if Closes (dividedState s) then retractedState (dividedState s) else dividedState s

theorem settledState_kelly (s : State) : KellyFrame s (settledState s) := by
  unfold settledState
  split
  · exact (dividedState_kelly s).trans (retractedState_kelly _)
  · exact dividedState_kelly s

theorem settledState_drive (s : State) : SameDrive (slipStep s) (settledState s) := by
  unfold settledState
  split
  · exact (dividedState_drive s).trans (retractedState_drive _)
  · exact dividedState_drive s

theorem settledState_same_at (s : State) (a : Axis) : SameAt a (slipStep s) (settledState s) :=
  (settledState_drive s).at ((settledState_kelly s).ports.trans (slipStep_kelly s).ports.symm) a

theorem closes_iff (s : State) : Closes (dividedState s) ↔
    lockedSum (jointsAtSlip s) + givenAtSlip s ≤ Rig.retractTolerance s.tables.rig := by
  rw [Closes, dividedState_extension, (dividedState_kelly s).tables]

theorem settledState_of_closes {s : State} (closes : Closes (dividedState s)) :
    settledState s = retractedState (dividedState s) := if_pos closes

theorem settledState_of_open {s : State} (drawn : ¬Closes (dividedState s)) : settledState s = dividedState s := if_neg drawn

theorem settledState_length (s : State) : (settledState s).joints.length = s.joints.length := by
  unfold settledState
  split
  · rw [(retractedState_fields _).1, List.length_map, dividedState_length]
  · exact dividedState_length s

theorem settledState_sum (s : State) : ((settledState s).joints.map Joint.offset).sum = (settledState s).extension := by
  unfold settledState
  split
  · obtain ⟨joints, extension, -⟩ := retractedState_fields (dividedState s)
    rw [joints, extension, List.map_map]
    exact List.sum_eq_zero fun _ member => by
      obtain ⟨r, -, rfl⟩ := List.mem_map.mp member
      rfl
  · exact divideStep_sum (decideMismatch (slipStep s))

theorem settledState_mismatch (s : State) : (settledState s).mismatch = (dividedState s).mismatch := by
  unfold settledState
  split
  · exact (retractedState_fields _).2.2.2.1
  · rfl

theorem settledState_barFault (s : State) : (settledState s).barFault = (decideMismatch (slipStep s)).barFault := by
  unfold settledState
  split
  · exact (retractedState_fields _).2.2.2.2.trans (divideStep_fields _).2.2.1
  · exact (divideStep_fields _).2.2.1

theorem settledState_keyTravel (s : State) :
    (settledState s).keyTravel = if Slips s ∨ Closes (dividedState s) then 0 else s.keyTravel := by
  by_cases closes : Closes (dividedState s)
  · rw [settledState_of_closes closes, (retractedState_fields _).2.2.1, if_pos (.inr closes)]
  · rw [settledState_of_open closes, dividedState_keyTravel]
    by_cases slips : Slips s
    · rw [if_pos slips, if_pos (.inl slips)]
    · rw [if_neg slips, if_neg (by simp only [slips, closes, or_self, not_false_eq_true])]

/-! ## Step 8 and the hand-offs -/

theorem allocate_eq (s : State) : allocate s = alignmentStep (alignedSet s) (retractionStep (dividedState s)) := rfl

/-- In RELEASING a retraction completes the sequence; nothing else is told to the sequencer. -/
theorem retraction_of_plain {s : State} (other : ¬((dividedState s).sequencer = .releasing ∧ Closes (dividedState s))) :
    retractionStep (dividedState s) = settledState s := by
  by_cases closes : Closes (dividedState s)
  · rw [retractionStep_of_closes closes, settledState_of_closes closes]
    exact sequencerReleaseEvent_of_other _ fun releasing =>
      other ⟨(retractedState_drive _).sequencer.symm.trans releasing, closes⟩
  · rw [retractionStep_of_open closes, settledState_of_open closes]

theorem retraction_of_releasing {s : State} (releasing : (dividedState s).sequencer = .releasing)
    (closes : Closes (dividedState s)) :
    retractionStep (dividedState s) = completeSequence (settledState s) (countNotFree (dividedState s)) := by
  rw [retractionStep_of_closes closes, settledState_of_closes closes]
  exact sequencerReleaseEvent_of_releasing _ ((retractedState_drive _).sequencer.trans releasing)

theorem retraction_tracking (s : State) : SameTracking (settledState s) (retractionStep (dividedState s)) := by
  by_cases completes : (dividedState s).sequencer = .releasing ∧ Closes (dividedState s)
  · rw [retraction_of_releasing completes.1 completes.2]
    exact completeSequence_frame (settledState s) _
  · rw [retraction_of_plain completes]

/-- The tracking state an allocation leaves is that of its settled state, aligned. -/
theorem allocate_tracking (s : State) :
    SameTracking (alignedState (alignedSet s) (retractionStep (dividedState s))) (allocate s) := by
  rw [allocate_eq]
  exact alignmentStep_tracking _ _

theorem alignedSet_congr {s t : State} (joints : t.joints = s.joints) : alignedSet t = alignedSet s := by
  rw [alignedSet, joints, alignedSet]

theorem realign_congr {s t : State} (joints : t.joints = s.joints) (tables : t.tables = s.tables) :
    (realign t).joints = (realign s).joints := by simp only [realign, joints, tables]

theorem allocate_joints (s : State) : (allocate s).joints = (realign (settledState s)).joints := by
  rw [(allocate_tracking s).joints, (alignedState_fields _ _).1]
  exact realign_congr (retraction_tracking s).joints (retraction_tracking s).tables

theorem allocate_extension (s : State) : (allocate s).extension = (settledState s).extension := by
  rw [(allocate_tracking s).extension, (alignedState_fields _ _).2.1, (retraction_tracking s).extension]

theorem allocate_mismatch (s : State) : (allocate s).mismatch = (dividedState s).mismatch := by
  rw [(allocate_tracking s).mismatch, (alignedState_fields _ _).2.2.1, (retraction_tracking s).mismatch, settledState_mismatch]

theorem allocate_barFault (s : State) : (allocate s).barFault = (decideMismatch (slipStep s)).barFault := by
  rw [(allocate_tracking s).barFault, (alignedState_fields _ _).2.2.2.1, (retraction_tracking s).barFault,
    settledState_barFault]

theorem allocate_sum (s : State) : ((allocate s).joints.map Joint.offset).sum = (allocate s).extension := by
  rw [allocate_joints, realign_offsets, settledState_sum, allocate_extension]

theorem allocate_length (s : State) : (allocate s).joints.length = s.joints.length := by
  rw [allocate_joints, realign_length, settledState_length]

theorem allocate_keyTravel (s : State) : (allocate s).keyTravel =
    if Slips s ∨ Closes (dividedState s) ∨ alignedSet (allocate s) ≠ alignedSet s then 0 else s.keyTravel := by
  have set : alignedSet (allocate s) = alignedSet (realign (retractionStep (dividedState s))) :=
    alignedSet_congr ((allocate_tracking s).joints.trans (alignedState_fields _ _).1)
  rw [(allocate_tracking s).keyTravel, (alignedState_fields _ _).2.2.2.2.2, ← set, (retraction_tracking s).keyTravel, settledState_keyTravel]
  by_cases same : alignedSet (allocate s) = alignedSet s
  · rw [if_pos same]
    simp only [same, ne_eq, not_true_eq_false, or_false]
  · rw [if_neg same, if_pos (.inr (.inr same))]

theorem allocate_kelly (s : State) : KellyFrame s (allocate s) :=
  (((settledState_kelly s).trans (retraction_tracking s).kelly).trans (alignedState_kelly _ _)).trans (allocate_tracking s).kelly

/-- The three ends of an allocation: RELEASING completes, LOCKING loses its aligned set, or the sequencer is told nothing. -/
inductive AllocationEnd (s : State) : Prop
  | completed (releasing : (slipStep s).sequencer = .releasing) (closes : Closes (dividedState s))
      (eq : allocate s = alignedState (alignedSet s) (completeSequence (settledState s) (countNotFree (dividedState s))))
  | lost (locking : (slipStep s).sequencer = .locking) (changed : alignedSet (allocate s) ≠ alignedSet s)
      (empty : anyJoint (alignedSet (allocate s)) = false)
      (eq : allocate s = abortAndHandBack (alignedState (alignedSet s) (settledState s)) .alignmentLost)
  | plain (noRelease : ¬((slipStep s).sequencer = .releasing ∧ Closes (dividedState s)))
      (noLoss : ¬((slipStep s).sequencer = .locking ∧ alignedSet (allocate s) ≠ alignedSet s ∧
        anyJoint (alignedSet (allocate s)) = false))
      (eq : allocate s = alignedState (alignedSet s) (settledState s))

theorem allocationEnd (s : State) : AllocationEnd s := by
  have same : (dividedState s).sequencer = (slipStep s).sequencer := (dividedState_drive s).sequencer
  have set : alignedSet (allocate s) = alignedSet (realign (settledState s)) := alignedSet_congr (allocate_joints s)
  by_cases completes : (slipStep s).sequencer = .releasing ∧ Closes (dividedState s)
  · obtain ⟨releasing, closes⟩ := completes
    have eq := retraction_of_releasing (same.trans releasing) closes
    refine .completed releasing closes ?_
    have idle := (completeSequence_spec (settledState s) (countNotFree (dividedState s))).1
    rw [allocate_eq, eq, alignmentStep_of_kept]
    intro lost
    exact absurd (idle.symm.trans lost.1) (by decide)
  · have eq := retraction_of_plain (s := s) (by rw [same]; exact completes)
    have sequencer : (settledState s).sequencer = (slipStep s).sequencer := (settledState_drive s).sequencer
    have loses : LosesSet (alignedSet s) (settledState s) ↔ (slipStep s).sequencer = .locking ∧
        alignedSet (allocate s) ≠ alignedSet s ∧ anyJoint (alignedSet (allocate s)) = false := by
      rw [LosesSet, set, sequencer]
    by_cases lost : LosesSet (alignedSet s) (settledState s)
    · obtain ⟨locking, changed, empty⟩ := loses.mp lost
      exact .lost locking changed empty (by rw [allocate_eq, eq, alignmentStep_of_lost lost])
    · exact .plain completes (mt loses.mpr lost) (by rw [allocate_eq, eq, alignmentStep_of_kept lost])

/-- Only a lock slip tells CROWD anything, and nothing tells HOIST (R63). -/
theorem allocate_same_at (s : State) {a : Axis} (other : a ≠ .rotary) : SameAt a (slipStep s) (allocate s) := by
  have before := settledState_same_at s a
  cases allocationEnd s with
  | completed releasing closes eq =>
    rw [eq]
    exact (before.trans ((completeSequence_spec _ _).2.2.2.2.1 a other)).trans (alignedState_same_at _ _ a)
  | lost locking changed empty eq =>
    rw [eq]
    have running : (alignedState (alignedSet s) (settledState s)).sequencer ≠ .idle := by
      rw [(alignedState_drive _ _).sequencer, (settledState_drive s).sequencer, locking]
      decide
    exact (before.trans (alignedState_same_at _ _ a)).trans ((abortAndHandBack_of_running _ _ running).2.2.2.2.1 a other)
  | plain noRelease noLoss eq =>
    rw [eq]
    exact before.trans (alignedState_same_at _ _ a)

end Sys2Proof.Machine
end

section
/-! An allocation in the terms of R58 to R68: strokes by index, the joints it leaves, and the events of its steps in their order. -/

namespace Sys2Proof.Machine

open Sys2Proof

/-! ## Strokes by index -/

/-- What the joint of index `i` can be given. -/
def roomAt (bar : Table) (js : List Joint) (i : Nat) : Int :=
  if (js[i]?).any (fun j => j.lock != .locked) then Bar.stroke bar (i + 1) else 0

theorem roomAt_eq (bar : Table) (js : List Joint) : (numbered js).map (openStroke bar) = (List.range js.length).map (roomAt bar js) := by
  refine List.ext_getElem? fun i => ?_
  rw [List.getElem?_map, List.getElem?_map, getElem?_numbered]
  by_cases inside : i < js.length
  · rw [List.getElem?_range inside, List.getElem?_eq_getElem inside]
    simp only [Option.map_some, openStroke, roomAt, List.getElem?_eq_getElem inside, Option.any_some]
    by_cases locked : (js[i]).lock = .locked <;> simp [locked]
  · rw [List.getElem?_eq_none_iff.mpr (not_lt.mp inside),
      List.getElem?_eq_none_iff.mpr (by rw [List.length_range]; exact not_lt.mp inside)]
    rfl

theorem freeStroke_eq_rooms (bar : Table) (js : List Joint) :
    ((List.range js.length).map (roomAt bar js)).sum = freeStroke bar js := by rw [freeStroke_eq, roomAt_eq]

theorem filter_lt_range (i n : Nat) : (List.range n).filter (fun k => i < k) = (List.range n).drop (i + 1) := by
  induction n with
  | zero => rfl
  | succ n ih =>
    rw [List.range_succ, List.filter_append, ih, List.drop_append, List.length_range]
    refine congrArg ((List.range n).drop (i + 1) ++ ·) ?_
    by_cases inside : i < n
    · rw [Nat.sub_eq_zero_of_le inside]
      simp [inside]
    · obtain ⟨k, hk⟩ : ∃ k, i + 1 - n = k + 1 := ⟨i - n, by omega⟩
      rw [hk]
      simp [inside]

theorem beyondStroke_eq_rooms (bar : Table) (js : List Joint) (i : Nat) :
    (((List.range js.length).filter (fun k => i < k)).map (roomAt bar js)).sum = beyondStroke bar js i := by
  rw [filter_lt_range, beyondStroke, List.map_drop, List.map_drop, roomAt_eq]

/-! ## The joints it leaves -/

/-- A joint after the allocation but for its nearest row and flag: at 0 and FREE where the bar closes, else as divided. -/
def settledJoint (s : State) (i : Nat) (r : Joint) : Joint :=
  let g := Joint.given s.tables.bar (givenAtSlip s - beyondStroke s.tables.bar (jointsAtSlip s) i) (i + 1, r)
  if Closes (dividedState s) then g.retracted else g

theorem settledState_joint (s : State) (i : Nat) :
    (settledState s).joints[i]? = (jointsAtSlip s)[i]?.map (settledJoint s i) := by
  unfold settledJoint
  by_cases closes : Closes (dividedState s)
  · rw [settledState_of_closes closes, (retractedState_fields _).1, List.getElem?_map, dividedState_joint, Option.map_map]
    simp only [if_pos closes]
    rfl
  · rw [settledState_of_open closes, dividedState_joint]
    simp only [if_neg closes]

theorem allocate_joint (s : State) (i : Nat) : (allocate s).joints[i]? =
    (jointsAtSlip s)[i]?.map (fun r => (settledJoint s i r).realigned s.tables (i + 1)) := by
  rw [allocate_joints, realign_joint, settledState_joint, Option.map_map, (settledState_kelly s).tables]
  rfl

theorem settledJoint_locks (s : State) (i : Nat) (r : Joint) :
    (settledJoint s i r).lock = (if Closes (dividedState s) then .free else r.lock) ∧
    (settledJoint s i r).lockedRow = (if Closes (dividedState s) then none else r.lockedRow) ∧
    (settledJoint s i r).offset = (if Closes (dividedState s) then 0 else if r.lock = .locked then r.offset
      else clamp 0 (Bar.stroke s.tables.bar (i + 1)) (givenAtSlip s - beyondStroke s.tables.bar (jointsAtSlip s) i)) := by
  unfold settledJoint Joint.given
  by_cases closes : Closes (dividedState s)
  · simp only [if_pos closes]
    exact ⟨rfl, rfl, rfl⟩
  · simp only [if_neg closes]
    by_cases locked : r.lock = .locked
    · simp only [if_pos locked]
      exact ⟨trivial, trivial, trivial⟩
    · simp only [if_neg locked]
      exact ⟨trivial, trivial, trivial⟩

/-! ## The events in their order (R68, R84) -/

/-- What an event handed over depends on is the same in two states: report levels, queue, channel and time. -/
structure SameTelling (s u : State) : Prop where
  tables  : u.tables = s.tables
  reports : u.reports = s.reports
  channel : u.channel = s.channel
  millis  : u.millis = s.millis

theorem SameTelling.report {s u : State} (h : SameTelling s u) (k : EventKind) (i : Nat) (d : Int) :
    SameTelling (report s k i d) (report u k i d) :=
  ⟨h.tables, reportsAfter_congr h.tables h.reports h.channel h.millis k i d, h.channel, h.millis⟩

theorem SameTelling.after {s u : State} (h : SameTelling s u) (k : EventKind) (i : Nat) (d : Int) :
    reportsAfter u k i d = reportsAfter s k i d := reportsAfter_congr h.tables h.reports h.channel h.millis k i d

theorem SameTelling.of_kept {s u v : State} (h : SameTelling s u) (frame : Kept u v) (reports : v.reports = u.reports) :
    SameTelling s v :=
  ⟨frame.tables.trans h.tables, reports.trans h.reports, frame.channel.trans h.channel, frame.millis.trans h.millis⟩

/-- A state told in one operation what another was told by an event. -/
theorem SameTelling.of_told {s u v : State} (h : SameTelling s u) (frame : Kept u v) {k : EventKind} {i : Nat} {d : Int}
    (reports : v.reports = reportsAfter u k i d) : SameTelling (Machine.report s k i d) v :=
  ⟨frame.tables.trans h.tables, reports.trans (h.after k i d), frame.channel.trans h.channel, frame.millis.trans h.millis⟩

/-- The events of step 3. -/
def toldAtSlip (s : State) (deficit : Int) : State :=
  let told := report s .lockSlip (s.joints.countP (fun j => j.lock == .locked)) (min deficit 32767)
  if ¬Slips s then s
  else if (s.axis .crowd).state = .fault ∧ hasExit (s.axis .crowd).exits .lockSlip = true then told
  else report told .axisFault 1 6

theorem slipStep_told {s : State} (notAuto : (s.axis .crowd).state ≠ .auto) :
    SameTelling (toldAtSlip s (- freeExtension s)) (slipStep s) := by
  unfold toldAtSlip
  by_cases slips : Slips s
  · rw [if_neg (not_not.mpr slips), slipStep_of_slips slips]
    let u := slipRecorded s (- freeExtension s)
    have told : SameTelling (report s .lockSlip (s.joints.countP (fun j => j.lock == .locked)) (min (- freeExtension s) 32767)) u :=
      ⟨rfl, reportsAfter_congr rfl rfl rfl rfl _ _ _, rfl, rfl⟩
    have frame : Kept u (lockSlip s (- freeExtension s)) := (lockSlip_tracking s _).toKept
    have reports : (lockSlip s (- freeExtension s)).reports = (enterFault u .crowd .lockSlip).reports := by
      rw [lockSlip_eq, evaluateNow_reports]
    have entered := enterFault_reports (s := u) (a := .crowd) .lockSlip notAuto
    by_cases known : (s.axis .crowd).state = .fault ∧ hasExit (s.axis .crowd).exits .lockSlip = true
    · rw [if_pos known]
      exact told.of_kept frame (reports.trans (entered.trans (if_pos known)))
    · rw [if_neg known]
      exact told.of_told frame (reports.trans (entered.trans (if_neg known)))
  · rw [if_pos slips, slipStep_of_held slips]
    exact ⟨rfl, rfl, rfl, rfl⟩

/-- By how much the tested figure passed its bound (R60). -/
def distanceAtSlip (s : State) : Int :=
  if rawExtension s < - Rig.geometryTolerance s.tables.rig then - Rig.geometryTolerance s.tables.rig - rawExtension s
  else if totalStroke s.tables.bar + Rig.geometryTolerance s.tables.rig < rawExtension s then
    rawExtension s - (totalStroke s.tables.bar + Rig.geometryTolerance s.tables.rig)
  else freeAtSlip s - (freeStroke s.tables.bar (jointsAtSlip s) + Rig.slipTolerance s.tables.rig)

theorem mismatchDetail_slipped (s : State) : mismatchDetail (slipStep s) = min (distanceAtSlip s) 32767 := by
  have frame := slipStep_kelly s
  obtain ⟨raw, -, -⟩ := freeExtension_congr frame.tables frame.sensors
  simp only [mismatchDetail, distanceAtSlip, raw, frame.tables, slipped_free, (slipStep_fields s).1, sub_sub]

/-- The events of step 4 beside those before. -/
def toldAtMismatch (s x : State) : State :=
  if (dividedState s).mismatch = true ∧ s.mismatch = false then
    report x .geometryMismatch (if rangeFails s then 0 else 1) (min (distanceAtSlip s) 32767)
  else if ¬(dividedState s).mismatch = true ∧ s.mismatch = true then report x .geometryRestored 0 0
  else x

/-- The bar fault record after step 4. -/
def barFaultAtMismatch (s : State) : Option FaultRecord :=
  let record := if Slips s then FaultRecord.offer s.barFault
    (freshFault s .lockSlip (s.joints.countP (fun j => j.lock == .locked))) else s.barFault
  if (dividedState s).mismatch = true ∧ s.mismatch = false then
    FaultRecord.offer record (freshFault s .geometryMismatch (if rangeFails s then 0 else 1))
  else record

theorem freshFault_congr {s t : State} (frame : KellyFrame s t) (extension : t.extension = s.extension) (f : FaultKind) (n : Nat) :
    freshFault t f n = freshFault s f n := by
  rw [freshFault, frame.millis, frame.depthHeld, frame.tables, extension, freshFault]

theorem decided_told {s x : State} (told : SameTelling x (slipStep s)) :
    SameTelling (toldAtMismatch s x) (decideMismatch (slipStep s)) ∧
    (decideMismatch (slipStep s)).barFault = barFaultAtMismatch s := by
  have frame := (decideMismatch_kelly (slipStep s)).toKept
  obtain ⟨-, extension, before, -, record⟩ := slipStep_fields s
  have now : (rangeFails (slipStep s) || overExtended (slipStep s)) = (dividedState s).mismatch := by
    rw [dividedState, (divideStep_fields _).1, (decideMismatch_fields _).2.2.2]
  unfold toldAtMismatch barFaultAtMismatch
  dsimp only
  rw [← record]
  by_cases mismatch : (dividedState s).mismatch = true
  · by_cases kept : s.mismatch = true
    · rw [if_neg (by simp [kept]), if_neg (by simp [mismatch]), if_neg (by simp [kept])]
      obtain ⟨reports, barFault⟩ := decideMismatch_kept (now.trans (mismatch.trans (before.trans kept).symm))
      exact ⟨told.of_kept frame reports, barFault⟩
    · have entry : s.mismatch = false := Bool.eq_false_iff.mpr kept
      have enters : (dividedState s).mismatch = true ∧ s.mismatch = false := ⟨mismatch, entry⟩
      rw [if_pos enters, if_pos enters]
      obtain ⟨reports, barFault⟩ := decideMismatch_entered (now.trans mismatch) (before.trans entry)
      rw [rangeFails_slipped, mismatchDetail_slipped] at reports
      rw [rangeFails_slipped, freshFault_congr (slipStep_kelly s) extension] at barFault
      exact ⟨told.of_told frame reports, barFault⟩
  · have away : (dividedState s).mismatch = false := Bool.eq_false_iff.mpr mismatch
    by_cases kept : s.mismatch = true
    · rw [if_neg (by simp [kept]), if_pos ⟨mismatch, kept⟩, if_neg (by simp [kept])]
      obtain ⟨reports, barFault⟩ := decideMismatch_left (now.trans away) (before.trans kept)
      exact ⟨told.of_told frame reports, barFault⟩
    · rw [if_neg (fun h => mismatch h.1), if_neg (fun h => kept h.2), if_neg (fun h => mismatch h.1)]
      obtain ⟨reports, barFault⟩ :=
        decideMismatch_kept (now.trans (away.trans (before.trans (Bool.eq_false_iff.mpr kept)).symm))
      exact ⟨told.of_kept frame reports, barFault⟩

/-- The events of step 7 beside those before. -/
def toldAtRetraction (s x : State) : State :=
  if Closes (dividedState s) ∧ countNotFree (dividedState s) ≠ 0 then
    report x .jointsReleased 1 (countNotFree (dividedState s))
  else x

theorem settled_told {s x : State} (told : SameTelling x (decideMismatch (slipStep s))) :
    SameTelling (toldAtRetraction s x) (settledState s) := by
  have divided : SameTelling x (dividedState s) := told.of_kept (divideStep_kelly _).toKept (divideStep_fields _).2.2.2.1
  unfold toldAtRetraction
  by_cases closes : Closes (dividedState s)
  · have frame := (retractedState_kelly (dividedState s)).toKept
    have reports := retractedState_reports (dividedState s)
    rw [settledState_of_closes closes]
    by_cases free : countNotFree (dividedState s) = 0
    · rw [if_neg fun h => h.2 free]
      exact divided.of_kept frame (reports.trans (if_pos free))
    · rw [if_pos ⟨closes, free⟩]
      exact divided.of_told frame (reports.trans (if_neg free))
  · rw [settledState_of_open closes, if_neg fun h => closes h.1]
    exact divided

/-- All the events of an allocation before its hand-offs. -/
def toldByAllocation (s : State) : State :=
  toldAtRetraction s (toldAtMismatch s (toldAtSlip s (- freeExtension s)))

theorem allocation_told {s : State} (notAuto : (s.axis .crowd).state ≠ .auto) :
    SameTelling (toldByAllocation s) (settledState s) ∧ (allocate s).barFault = barFaultAtMismatch s := by
  obtain ⟨told, barFault⟩ := decided_told (slipStep_told notAuto)
  exact ⟨settled_told told, (allocate_barFault s).trans barFault⟩

end Sys2Proof.Machine
end

section
/-! The allocation's hand-offs (R66, R67, R159, R160), and the statement about its eight steps. -/

namespace Sys2Proof.Machine

open Sys2Proof

/-! ## The hand-offs -/

theorem slipStep_sequence {s : State} (notAuto : (s.axis .crowd).state ≠ .auto) :
    (slipStep s).sequencer = s.sequencer ∧ (slipStep s).sequenceTimer = s.sequenceTimer ∧ (slipStep s).aborts = s.aborts := by
  by_cases slips : Slips s
  · rw [slipStep_of_slips slips]
    exact lockSlip_sequence _ notAuto
  · rw [slipStep_of_held slips]
    exact ⟨rfl, rfl, rfl⟩

theorem slipStep_same_at (s : State) {a : Axis} (other : a ≠ .crowd) : SameAt a s (slipStep s) := by
  by_cases slips : Slips s
  · rw [slipStep_of_slips slips]
    exact lockSlip_same_at s _ other
  · rw [slipStep_of_held slips]

theorem settledState_rotary (s : State) : SameAt .rotary s (settledState s) :=
  (slipStep_same_at s (by decide)).trans (settledState_same_at s .rotary)

theorem settledState_sequence {s : State} (notAuto : (s.axis .crowd).state ≠ .auto) :
    (settledState s).sequencer = s.sequencer ∧ (settledState s).sequenceTimer = s.sequenceTimer ∧
    (settledState s).aborts = s.aborts := by
  obtain ⟨sequencer, timer, aborts⟩ := slipStep_sequence notAuto
  have drive := settledState_drive s
  exact ⟨drive.sequencer.trans sequencer, drive.sequenceTimer.trans timer, drive.aborts.trans aborts⟩

/-- RELEASING completes at a retraction (R66, R159). -/
theorem allocation_completes {s : State} (notAuto : (s.axis .crowd).state ≠ .auto) (releasing : s.sequencer = .releasing)
    (closes : Closes (dividedState s)) :
    (allocate s).sequencer = .idle ∧ (allocate s).sequenceTimer = none ∧ (allocate s).aborts = s.aborts ∧ HandedBackAtZero s (allocate s) ∧
    reportsAfter (toldByAllocation s) .autoDone 1 (countNotFree (dividedState s)) <+: (allocate s).reports := by
  have began := (slipStep_sequence notAuto).1
  obtain ⟨sequencer, -, kept⟩ := settledState_sequence notAuto
  cases allocationEnd s with
  | completed _ _ eq =>
    obtain ⟨idle, timer, aborts, back, -, reports⟩ := completeSequence_spec (settledState s) (countNotFree (dividedState s))
    have rotary := settledState_rotary s
    have frame := settledState_kelly s
    have drive := alignedState_drive (alignedSet s) (completeSequence (settledState s) (countNotFree (dividedState s)))
    have subject : sequenceSubject (settledState s) = 1 := if_pos (sequencer.trans releasing)
    rw [subject, (allocation_told notAuto).1.after] at reports
    have home := back.of_same rotary.axis rotary.delivery (rotary.busOff .machine) frame.governor frame.millis
    rw [eq]
    refine ⟨drive.sequencer.trans idle, drive.sequenceTimer.trans timer, (drive.aborts.trans aborts).trans kept,
      home.then_same (alignedState_same_at _ _ .rotary), ?_⟩
    rw [(alignedState_fields _ _).2.2.2.2.1]
    exact reports
  | lost locking _ _ _ => exact absurd (locking.symm.trans (began.trans releasing)) (by decide)
  | plain noRelease _ _ => exact absurd ⟨began.trans releasing, closes⟩ noRelease

/-- LOCKING aborts where the aligned set changes to the empty set (R67, R160). -/
theorem allocation_aborts {s : State} (notAuto : (s.axis .crowd).state ≠ .auto) (locking : s.sequencer = .locking)
    (changed : alignedSet (allocate s) ≠ alignedSet s) (empty : anyJoint (alignedSet (allocate s)) = false) :
    (allocate s).sequencer = .idle ∧ (allocate s).sequenceTimer = none ∧ (allocate s).aborts = addAbort s.aborts .alignmentLost ∧ HandedBackAtZero s (allocate s) ∧
    reportsAfter (toldByAllocation s) .autoAborted 0 5 <+: (allocate s).reports := by
  have began := (slipStep_sequence notAuto).1
  obtain ⟨sequencer, -, kept⟩ := settledState_sequence notAuto
  cases allocationEnd s with
  | completed releasing _ _ => exact absurd (releasing.symm.trans (began.trans locking)) (by decide)
  | lost _ _ _ eq =>
    let u := alignedState (alignedSet s) (settledState s)
    have drive : SameDrive (settledState s) u := alignedState_drive _ _
    have locks : u.sequencer = .locking := drive.sequencer.trans (sequencer.trans locking)
    obtain ⟨idle, timer, aborts, back, -, reports⟩ := abortAndHandBack_of_running u .alignmentLost (by rw [locks]; decide)
    have rotary : SameAt .rotary s u := (settledState_rotary s).trans (alignedState_same_at _ _ .rotary)
    have frame : KellyFrame s u := (settledState_kelly s).trans (alignedState_kelly _ _)
    have told : SameTelling (toldByAllocation s) u := (allocation_told notAuto).1.of_kept (alignedState_kelly _ _).toKept
      (alignedState_fields _ _).2.2.2.2.1
    rw [if_neg (by rw [locks]; decide), told.after] at reports
    rw [drive.aborts, kept] at aborts
    rw [eq]
    exact ⟨idle, timer, aborts, back.of_same rotary.axis rotary.delivery (rotary.busOff .machine) frame.governor frame.millis, reports⟩
  | plain _ noLoss _ => exact absurd ⟨began.trans locking, changed, empty⟩ noLoss

/-- Else the sequencer and ROTARY are left alone. -/
theorem allocation_leaves {s : State} (notAuto : (s.axis .crowd).state ≠ .auto)
    (noRelease : ¬(s.sequencer = .releasing ∧ Closes (dividedState s)))
    (noLoss : ¬(s.sequencer = .locking ∧ alignedSet (allocate s) ≠ alignedSet s ∧ anyJoint (alignedSet (allocate s)) = false)) :
    (allocate s).sequencer = s.sequencer ∧ (allocate s).sequenceTimer = s.sequenceTimer ∧ (allocate s).aborts = s.aborts ∧ SameAt .rotary s (allocate s) ∧
    (allocate s).reports = (toldByAllocation s).reports := by
  have began := (slipStep_sequence notAuto).1
  obtain ⟨sequencer, timer, aborts⟩ := settledState_sequence notAuto
  cases allocationEnd s with
  | completed releasing closes _ => exact absurd ⟨began.symm.trans releasing, closes⟩ noRelease
  | lost locking changed empty _ => exact absurd ⟨began.symm.trans locking, changed, empty⟩ noLoss
  | plain _ _ eq =>
    have drive := alignedState_drive (alignedSet s) (settledState s)
    rw [eq]
    refine ⟨drive.sequencer.trans sequencer, drive.sequenceTimer.trans timer, drive.aborts.trans aborts,
      (settledState_rotary s).trans (alignedState_same_at _ _ .rotary), ?_⟩
    rw [(alignedState_fields _ _).2.2.2.2.1]
    exact (allocation_told notAuto).1.reports

/-! ## The statement -/

theorem allocate_settled (s : State) : (allocate s).extension =
    if Closes (dividedState s) then 0 else lockedSum (jointsAtSlip s) + givenAtSlip s := by
  rw [allocate_extension]
  by_cases closes : Closes (dividedState s)
  · rw [settledState_of_closes closes, if_pos closes, (retractedState_fields _).2.1]
  · rw [settledState_of_open closes, if_neg closes, dividedState_extension]

theorem totalStroke_eq (bar : Table) :
    ((List.range (min (Bar.sections bar - 1) 4)).map (fun i => Bar.stroke bar (i + 1))).sum = totalStroke bar := by
  rw [totalStroke, Bar.joints, List.map_map]
  rfl

theorem rangeFails_iff (s : State) : rangeFails s = true ↔ rawExtension s < - Rig.geometryTolerance s.tables.rig ∨
    totalStroke s.tables.bar + Rig.geometryTolerance s.tables.rig < rawExtension s := by
  simp only [rangeFails, Bool.or_eq_true, decide_eq_true_eq]

theorem roomAt_of_open {bar : Table} {js : List Joint} {i : Nat} {r : Joint} (found : js[i]? = some r) (apart : r.lock ≠ .locked) :
    roomAt bar js i = Bar.stroke bar (i + 1) := by
  rw [roomAt, found, Option.any_some, if_pos (by simpa using apart)]

theorem realigned_of_parts {r : Joint} {e : Int} {l : LockState} {k : Option Nat} (ts : Tables) (j : Nat)
    (offset : r.offset = e) (lock : r.lock = l) (row : r.lockedRow = k) : r.realigned ts j =
    { offset := e, lock := l, lockedRow := k, nearest := nearestRow ts j e
      aligned := decide (Rig.retractTolerance ts.rig < e ∧
        |e - rowPosition ts j (nearestRow ts j e)| ≤ Bar.rowTolerance ts.bar) } := by
  subst offset lock row
  rw [Joint.realigned, isAligned, Bool.decide_and]

theorem anyJoint_eq_false (l : List Bool) : anyJoint l = false ↔ ∀ b ∈ l, b = false := by
  simp [anyJoint]

theorem KellyFrame.tracking {s t : State} (frame : KellyFrame s t) : SameTracking { s with
    joints := t.joints, extension := t.extension, mismatch := t.mismatch
    keyTravel := t.keyTravel, barFault := t.barFault } t :=
  { frame.toKept with
    sensors := frame.sensors, joints := rfl, extension := rfl, mismatch := rfl, depthHeld := frame.depthHeld
    keyTravel := rfl, angleRef := frame.angleRef, band := frame.band, backoff := frame.backoff
    stallTimer := frame.stallTimer, recoveryTimer := frame.recoveryTimer, machineFault := frame.machineFault
    barFault := rfl, choices := frame.choices }

/-- What an allocation makes of the drives, the sequencer and the reports, with CROWD not in AUTO. -/
theorem allocation_drives {s : State} (notAuto : (s.axis .crowd).state ≠ .auto) :
    (allocate s).barFault = barFaultAtMismatch s ∧
    (Slips s → (allocate s).axis .crowd = { s.axis .crowd with
        state := .fault, governed := 0, cause := .none, lastEval := some s.millis
        ramp := if (s.axis .crowd).state = .fault then (s.axis .crowd).ramp else none
        exits := addExit (s.axis .crowd).exits .lockSlip } ∧
      (allocate s).delivery .crowd = (produce s .crowd 0 .neutral false).delivery .crowd) ∧
    (¬Slips s → (allocate s).axis .crowd = s.axis .crowd ∧ (allocate s).delivery .crowd = s.delivery .crowd) ∧
    (allocate s).axis .hoist = s.axis .hoist ∧ (allocate s).delivery .hoist = s.delivery .hoist ∧
    (s.sequencer = .releasing → Closes (dividedState s) → (allocate s).sequencer = .idle ∧ (allocate s).sequenceTimer = none ∧
      (allocate s).aborts = s.aborts ∧ HandedBackAtZero s (allocate s) ∧
      reportsAfter (toldByAllocation s) .autoDone 1 (countNotFree (dividedState s)) <+: (allocate s).reports) ∧
    (s.sequencer = .locking → alignedSet (allocate s) ≠ alignedSet s → anyJoint (alignedSet (allocate s)) = false →
      (allocate s).sequencer = .idle ∧ (allocate s).sequenceTimer = none ∧
      (allocate s).aborts = addAbort s.aborts .alignmentLost ∧ HandedBackAtZero s (allocate s) ∧
      reportsAfter (toldByAllocation s) .autoAborted 0 5 <+: (allocate s).reports) ∧
    (¬(s.sequencer = .releasing ∧ Closes (dividedState s)) →
      ¬(s.sequencer = .locking ∧ alignedSet (allocate s) ≠ alignedSet s ∧ anyJoint (alignedSet (allocate s)) = false) →
      (allocate s).sequencer = s.sequencer ∧ (allocate s).sequenceTimer = s.sequenceTimer ∧ (allocate s).aborts = s.aborts ∧
      (allocate s).axis .rotary = s.axis .rotary ∧ (allocate s).delivery .rotary = s.delivery .rotary ∧
      (allocate s).reports = (toldByAllocation s).reports) := by
  have crowd : SameAt .crowd (slipStep s) (allocate s) := allocate_same_at s (by decide)
  have hoist : SameAt .hoist s (allocate s) := (slipStep_same_at s (by decide)).trans (allocate_same_at s (by decide))
  refine ⟨(allocation_told notAuto).2, fun slips => ?slipped, fun held => ?held, hoist.axis, hoist.delivery,
    allocation_completes notAuto, allocation_aborts notAuto, fun noRelease noLoss => ?plain⟩
  case slipped =>
    obtain ⟨record, sent⟩ := lockSlip_crowd s (- freeExtension s)
    rw [← slipStep_of_slips slips] at record sent
    exact ⟨crowd.axis.trans record, crowd.delivery.trans sent⟩
  case held =>
    rw [slipStep_of_held held] at crowd
    exact ⟨crowd.axis, crowd.delivery⟩
  case plain =>
    obtain ⟨sequencer, timer, aborts, rotary, reports⟩ := allocation_leaves notAuto noRelease noLoss
    exact ⟨sequencer, timer, aborts, rotary.axis, rotary.delivery, reports⟩

/-- Settles O46: the settled state aligned, with the events of the steps in their order, and the three ends of an allocation. -/
theorem allocationFollowsItsSteps : Obligations.AllocationFollowsItsSteps := by
  intro s t rig bar tolerance slip total raw range held deficit slips js room reach free given inner beyond mismatch closes
    offset set
  have totalIs : total = totalStroke bar := totalStroke_eq bar
  have deficitIs : deficit = - freeExtension s := by
    show lockedSum s.joints - clamp 0 total raw = -(clamp 0 (totalStroke bar) raw - lockedSum s.joints)
    rw [totalIs]
    omega
  have slipsIff : slips ↔ Slips s := by
    show slip < deficit ↔ freeExtension s < - slip
    omega
  have jsIs : js = jointsAtSlip s := if_congr slipsIff rfl rfl
  have freeIs : free = freeAtSlip s := by
    show clamp 0 total raw - lockedSum js = _
    rw [totalIs, jsIs]
    rfl
  have reachIs : reach = freeStroke bar (jointsAtSlip s) := by
    rw [← jsIs]
    exact freeStroke_eq_rooms bar js
  have givenIs : given = givenAtSlip s := by
    show clamp 0 reach free = _
    rw [reachIs, freeIs]
    rfl
  have innerIs (i : Nat) : inner i = beyondStroke bar (jointsAtSlip s) i := by
    rw [← jsIs]
    exact beyondStroke_eq_rooms bar js i
  have closesIff : closes ↔ Closes (dividedState s) := by
    rw [closes_iff, ← jsIs, ← givenIs]
    exact Iff.rfl
  have rangeIff : range ↔ rangeFails s = true := by
    rw [rangeFails_iff, ← totalIs]
    exact Iff.rfl
  have mismatchIff : mismatch ↔ (dividedState s).mismatch = true := by
    rw [dividedState_mismatch, Bool.or_eq_true, decide_eq_true_eq, ← rangeIff, ← reachIs, ← freeIs]
  have setIs (l : List Joint) : set l = l.map Joint.inAlignedSet := rfl
  have tIs : t = allocate s := rfl
  clear_value t
  rw [tIs]
  refine ⟨allocate_length s, ?joint, ?extension, allocate_sum s, ?mismatch, ?keyTravel, ?drives⟩
  case joint =>
    intro i r found o row
    obtain ⟨lock, lockedRow, place⟩ := settledJoint_locks s i r
    have inside (apart : r.lock ≠ .locked) : clamp 0 (Bar.stroke s.tables.bar (i + 1)) (givenAtSlip s -
        beyondStroke s.tables.bar (jointsAtSlip s) i) = clamp 0 (room i) (given - inner i) := by
      rw [show room i = _ from roomAt_of_open found apart, givenIs, innerIs]
    have offsetIs : (settledJoint s i r).offset = o :=
      place.trans (if_congr closesIff.symm rfl (by split <;> [rfl; exact inside ‹_›]))
    have lockIs : (settledJoint s i r).lock = if closes then .free else r.lock :=
      lock.trans (if_congr closesIff.symm rfl rfl)
    have rowIs : (settledJoint s i r).lockedRow = if closes then none else r.lockedRow :=
      lockedRow.trans (if_congr closesIff.symm rfl rfl)
    rw [allocate_joint, ← jsIs, found, Option.map_some]
    exact congrArg some (realigned_of_parts s.tables (i + 1) offsetIs lockIs rowIs)
  case extension => exact (allocate_settled s).trans (if_congr closesIff.symm rfl (by rw [← jsIs, ← givenIs] <;> rfl))
  case mismatch =>
    rw [allocate_mismatch, ← Bool.decide_coe (dividedState s).mismatch]
    exact decide_eq_decide.mpr mismatchIff.symm
  case keyTravel =>
    rw [allocate_keyTravel]
    exact if_congr (or_congr slipsIff.symm (or_congr closesIff.symm Iff.rfl)) rfl rfl
  case drives =>
    intro notAuto crowd slipped freed subject distance slipTold faulted decided told record done lost
    have freedIs : freed = countNotFree (dividedState s) := by rw [dividedState_notFree, ← jsIs]
    have subjectIs : subject = if rangeFails s then 0 else 1 := if_congr rangeIff rfl rfl
    have distanceIs : distance = distanceAtSlip s := by
      show (if raw < - tolerance then _ else if total + tolerance < raw then raw - (total + tolerance)
        else free - (reach + slip)) = _
      rw [freeIs, reachIs, totalIs]
      rfl
    have slipToldIs : slipTold = report s .lockSlip slipped (min (- freeExtension s) 32767) := by
      show report s .lockSlip slipped (min deficit 32767) = _
      rw [deficitIs]
    have faultedIs : faulted = toldAtSlip s (- freeExtension s) :=
      if_congr (not_congr slipsIff) rfl (by rw [slipToldIs])
    have decidedIs : decided = toldAtMismatch s faulted := by
      show (if mismatch ∧ s.mismatch = false then report faulted .geometryMismatch subject (min distance 32767)
        else if ¬mismatch ∧ s.mismatch = true then report faulted .geometryRestored 0 0 else faulted) = _
      rw [subjectIs, distanceIs]
      exact if_congr (and_congr_left' mismatchIff) rfl (if_congr (and_congr_left' (not_congr mismatchIff)) rfl rfl)
    have toldIs : told = toldByAllocation s := by
      show (if closes ∧ freed ≠ 0 then report decided .jointsReleased 1 freed else decided) = _
      rw [freedIs, decidedIs, faultedIs]
      exact if_congr (and_congr_left' closesIff) rfl rfl
    have recordIs : record = if Slips s then FaultRecord.offer s.barFault (freshFault s .lockSlip slipped) else s.barFault :=
      if_congr slipsIff rfl rfl
    have emptyIff : (∀ b ∈ set (allocate s).joints, b = false) ↔ anyJoint (alignedSet (allocate s)) = false :=
      (anyJoint_eq_false _).symm
    obtain ⟨barFault, slipped, held, hoist, sent, completes, aborts, leaves⟩ := allocation_drives notAuto
    rw [toldIs, freedIs]
    refine ⟨?barFault, fun now => slipped (slipsIff.mp now), fun away => held (mt slipsIff.mpr away), hoist, sent,
      fun h => completes h.1 (closesIff.mp h.2), fun h => aborts h.1 h.2.1 (emptyIff.mp h.2.2),
      fun h k => leaves (fun done => h ⟨done.1, closesIff.mpr done.2⟩) (fun lost => k ⟨lost.1, lost.2.1, emptyIff.mpr lost.2.2⟩),
      (allocate_kelly s).tracking, allocate_counts s⟩
    case barFault =>
      rw [barFault, recordIs, subjectIs]
      exact if_congr (and_congr_left' mismatchIff.symm) rfl rfl

end Sys2Proof.Machine
end

section
/-! What every operation keeps of the drives: neutrality out of service, AUTO with the sequencer, demands and sequence numbers in range,
and governed values within their demands (R25, R121, R135, R139, R153). -/

namespace Sys2Proof.Machine

open Sys2Proof

/-! ## Deliveries -/

/-- Sequence number and miss streak are in range (R139, R146). -/
structure DeliveryRecord.Sound (d : DeliveryRecord) : Prop where
  sequence   : d.sequence ≤ 15
  missStreak : d.missStreak ≤ 255

/-- A pending frame, if any, carries 0 and NEUTRAL (R26). -/
def DeliveryRecord.Resting (d : DeliveryRecord) : Prop := d.state ≠ .idle → d.value = 0 ∧ d.mode = .neutral

/-- No delivery leaves its ranges, nor, outside GOVERN, is given a frame other than 0 and NEUTRAL. -/
structure DeliveriesKept (s t : State) : Prop where
  sound   : ∀ a, (s.delivery a).Sound → (t.delivery a).Sound
  resting : s.governor ≠ .govern → ∀ a, (s.delivery a).Resting → (t.delivery a).Resting

@[refl] theorem DeliveriesKept.refl (s : State) : DeliveriesKept s s := ⟨fun _ => id, fun _ _ => id⟩

theorem DeliveriesKept.trans {s t u : State} (h : DeliveriesKept s t) (k : DeliveriesKept t u) (governor : t.governor = s.governor) :
    DeliveriesKept s u :=
  ⟨fun a sound => k.sound a (h.sound a sound),
    fun out a rests => k.resting (governor ▸ out) a (h.resting out a rests)⟩

theorem DeliveriesKept.of_same {s t : State} (deliveries : t.deliveries = s.deliveries) : DeliveriesKept s t := by
  have same (a : Axis) : t.delivery a = s.delivery a := congrArg (fun x => x.get a) deliveries
  exact ⟨fun a => by rw [same]; exact id, fun _ a => by rw [same]; exact id⟩

/-- A change of one delivery record. -/
theorem DeliveriesKept.setDelivery (s : State) (a : Axis) {d : DeliveryRecord} (sound : (s.delivery a).Sound → d.Sound)
    (resting : s.governor ≠ .govern → (s.delivery a).Resting → d.Resting) : DeliveriesKept s (s.setDelivery a d) := by
  refine ⟨fun b => ?_, fun out b => ?_⟩ <;> by_cases same : b = a
  · rw [same, State.delivery_setDelivery_same]; exact sound
  · rw [State.delivery_setDelivery_other s a b d same]; exact id
  · rw [same, State.delivery_setDelivery_same]; exact resting out
  · rw [State.delivery_setDelivery_other s a b d same]; exact id

theorem newFrame_deliveriesKept (s : State) (a : Axis) (g : Int) (m : Mode) : DeliveriesKept s (newFrame s a g m) := by
  refine ⟨fun b sound => ?_, fun out b rests => ?_⟩ <;> by_cases same : b = a
  · subst same
    rw [newFrame_delivery_same]
    exact ⟨Nat.le_of_lt_succ (Nat.mod_lt _ (by decide)), sound.missStreak⟩
  · rw [newFrame_delivery_other s a b g m same]
    exact sound
  · subst same
    rw [newFrame_delivery_same, if_neg out, if_neg out]
    exact fun _ => ⟨rfl, rfl⟩
  · rw [newFrame_delivery_other s a b g m same]
    exact rests

theorem produce_deliveriesKept (s : State) (a : Axis) (g : Int) (m : Mode) (r : Bool) : DeliveriesKept s (produce s a g m r) := by
  rcases produce_cases s a g m r with kept | ⟨made, -⟩
  · rw [kept]
  · rw [made]
    exact newFrame_deliveriesKept s a g m

/-! ## The relation -/

/-- Each stored demand is from -1000 to 1000 (R121). -/
def DemandsInRange (s : State) : Prop := ∀ a d, (s.axis a).demand = some d → -1000 ≤ d ∧ d ≤ 1000

/-- A governed value is within a demand and not opposite to it (R135). -/
def WithinDemand (g d : Int) : Prop := |g| ≤ |d| ∧ 0 ≤ g * d

/-- What a change keeps of the drives.  `P` is what the change needs of the bar: that the joints lie within their strokes, or
nothing. -/
structure DriveSafe (P : Prop) (s t : State) : Prop where
  neutral  : NeutralOutOfService s → NeutralOutOfService t
  auto     : AutoOnlyInSequence s → AutoOnlyInSequence t
  demands  : DemandsInRange s → DemandsInRange t
  sound    : (∀ a, (s.delivery a).Sound) → ∀ a, (t.delivery a).Sound
  operator : P → NeutralOutOfService s → WithinOperatorDemand s → WithinOperatorDemand t
  sequence : P → NeutralOutOfService s → AutoOnlyInSequence s → WithinSequenceDemand s → WithinSequenceDemand t

@[refl] theorem DriveSafe.refl {P : Prop} (s : State) : DriveSafe P s s :=
  ⟨id, id, id, id, fun _ _ => id, fun _ _ _ => id⟩

theorem DriveSafe.trans {P Q : Prop} {s t u : State} (h : DriveSafe P s t) (k : DriveSafe Q t u) (needs : P → Q) :
    DriveSafe P s u where
  neutral := fun n => k.neutral (h.neutral n)
  auto := fun a => k.auto (h.auto a)
  demands := fun d => k.demands (h.demands d)
  sound := fun d => k.sound (h.sound d)
  operator := fun p n w => k.operator (needs p) (h.neutral n) (h.operator p n w)
  sequence := fun p n a w => k.sequence (needs p) (h.neutral n) (h.auto a) (h.sequence p n a w)

/-! ## Axes that stay or leave service -/

/-- State, governed value and stored demand are the same. -/
structure AxisRecord.SameMotion (r r' : AxisRecord) : Prop where
  state    : r'.state = r.state
  governed : r'.governed = r.governed
  demand   : r'.demand = r.demand

theorem AxisRecord.SameMotion.of_eq {r r' : AxisRecord} (h : r' = r) : r.SameMotion r' := ⟨by rw [h], by rw [h], by rw [h]⟩

/-- The axis is out of service at 0. -/
structure AxisRecord.AtRest (r : AxisRecord) : Prop where
  out  : r.state.outOfService
  zero : r.governed = 0

theorem AxisState.outOfService.not_auto {x : AxisState} (h : x.outOfService) : x ≠ .auto := by
  rintro rfl
  rcases h with h | h <;> cases h

theorem AxisState.outOfService.not_moving {x : AxisState} (h : x.outOfService) : ¬(x = .active ∨ x = .rampdown) := by
  rintro (rfl | rfl) <;> rcases h with h | h <;> cases h

theorem creep_nonneg (bar : Table) : 0 ≤ Bar.lockCreep bar ∧ - Bar.releaseCreep bar ≤ 0 :=
  ⟨Int.natCast_nonneg _, by have := Int.natCast_nonneg (u16At (bar.row 0) 11); unfold Bar.releaseCreep; omega⟩

/-- Every axis stays as it is or leaves service, and a sequence ends where ROTARY leaves AUTO, and only so. -/
theorem DriveSafe.of_axes {P : Prop} {s t : State} (governor : t.governor = s.governor) (bar : t.tables.bar = s.tables.bar)
    (deliveries : DeliveriesKept s t)
    (axes : ∀ a, (s.axis a).SameMotion (t.axis a) ∨ ((t.axis a).AtRest ∧
      ((t.axis a).demand = (s.axis a).demand ∨ (t.axis a).demand = some 0)))
    (sequencer : (t.sequencer = s.sequencer ∧ ∀ a, (t.axis a).state = .auto ↔ (s.axis a).state = .auto) ∨
      (t.sequencer = .idle ∧ (AutoOnlyInSequence s → ∀ a, (t.axis a).state ≠ .auto))) : DriveSafe P s t where
  neutral := fun ⟨governed, out, idle, rest⟩ => by
    refine ⟨fun a away => ?_, fun off a => ?_, fun off => ?_, fun off a => ?_⟩
    · rcases axes a with same | ⟨rests, -⟩
      · rw [same.governed]; exact governed a (same.state ▸ away)
      · exact rests.zero
    · rcases axes a with same | ⟨rests, -⟩
      · rw [same.state]; exact out (governor ▸ off) a
      · exact rests.out
    · rcases sequencer with ⟨same, -⟩ | ⟨ended, -⟩
      · exact same.trans (idle (governor ▸ off))
      · exact ended
    · exact deliveries.resting (governor ▸ off) a (rest (governor ▸ off) a)
  auto := fun only => by
    rcases sequencer with ⟨same, autos⟩ | ⟨ended, none⟩
    · refine ⟨?_, fun h => only.crowd ((autos .crowd).mp h), fun h => only.hoist ((autos .hoist).mp h)⟩
      rw [same]
      exact (autos .rotary).trans only.rotary
    · exact ⟨⟨fun h => absurd h (none only .rotary), fun h => absurd ended h⟩, none only .crowd, none only .hoist⟩
  demands := fun ranges a d stored => by
    rcases axes a with same | ⟨-, kept | zero⟩
    · exact ranges a d (same.demand ▸ stored)
    · exact ranges a d (kept ▸ stored)
    · have : d = 0 := Option.some.inj (stored.symm.trans zero)
      omega
  sound := fun sound a => deliveries.sound a (sound a)
  operator := fun _ _ within a moving => by
    rcases axes a with same | ⟨rests, -⟩
    · obtain ⟨d, stored, bound⟩ := within a (same.state ▸ moving)
      exact ⟨d, same.demand.trans stored, by rw [same.governed]; exact bound⟩
    · exact absurd moving rests.out.not_moving
  sequence := fun _ _ _ within => by
    have value (a : Axis) : (t.axis a).governed = (s.axis a).governed ∨ (t.axis a).governed = 0 :=
      (axes a).imp (fun same => same.governed) (fun rests => rests.1.zero)
    have running (h : t.sequencer ≠ .idle) : t.sequencer = s.sequencer := by
      rcases sequencer with ⟨same, -⟩ | ⟨ended, -⟩
      · exact same
      · exact absurd ended h
    obtain ⟨lock, release⟩ := creep_nonneg s.tables.bar
    obtain ⟨others, locking, releasing⟩ := within
    refine ⟨fun h => ?_, fun h => ?_, fun h => ?_⟩
    · obtain ⟨crowd, hoist⟩ := others (running h ▸ h)
      exact ⟨(value .crowd).elim (fun e => e.trans crowd) id, (value .hoist).elim (fun e => e.trans hoist) id⟩
    · have bounds := locking ((running (by rw [h]; decide)).symm.trans h)
      rw [bar]
      rcases value .rotary with e | e <;> rw [show t.axes.rotary.governed = _ from e]
      · exact bounds
      · exact ⟨le_rfl, lock⟩
    · have bounds := releasing ((running (by rw [h]; decide)).symm.trans h)
      rw [bar]
      rcases value .rotary with e | e <;> rw [show t.axes.rotary.governed = _ from e]
      · exact bounds
      · exact ⟨release, le_rfl⟩

/-- Nothing of the drives changes but timers, counters and the like. -/
theorem DriveSafe.of_same {P : Prop} {s t : State} (governor : t.governor = s.governor) (bar : t.tables.bar = s.tables.bar)
    (deliveries : DeliveriesKept s t) (axes : ∀ a, (s.axis a).SameMotion (t.axis a)) (sequencer : t.sequencer = s.sequencer) :
    DriveSafe P s t :=
  .of_axes governor bar deliveries (fun a => .inl (axes a)) (.inl ⟨sequencer, fun a => by rw [(axes a).state]⟩)

theorem DriveSafe.of_drive {P : Prop} {s t : State} (frame : Kept s t) (drive : SameDrive s t) : DriveSafe P s t :=
  .of_same frame.governor (congrArg Tables.bar frame.tables) (.of_same drive.deliveries)
    (fun a => .of_eq (congrArg (fun x => x.get a) drive.axes)) drive.sequencer

/-- A hand-off moves no axis. -/
theorem produce_drive (P : Prop) (s : State) (a : Axis) (g : Int) (m : Mode) (r : Bool) : DriveSafe P s (produce s a g m r) := by
  have frame := produce_frame s a g m r
  refine .of_same frame.governor (congrArg Tables.bar frame.tables) (produce_deliveriesKept s a g m r) (fun b => .of_eq ?_)
    frame.sequencer
  rw [State.axis, produce_axes]
  rfl

/-- Every axis leaves service and no sequence is left running (R25, R26, R131, R150). -/
theorem DriveSafe.of_left {P : Prop} {s t : State} (axes : ∀ a, (t.axis a).state.outOfService)
    (zero : NeutralOutOfService s → ∀ a, (t.axis a).governed = 0) (idle : t.sequencer = .idle)
    (demands : DemandsInRange s → DemandsInRange t) (sound : (∀ a, (s.delivery a).Sound) → ∀ a, (t.delivery a).Sound)
    (resting : NeutralOutOfService s → t.governor ≠ .govern → ∀ a, (t.delivery a).Resting) : DriveSafe P s t where
  neutral := fun n => ⟨fun a _ => zero n a, fun _ => axes, fun _ => idle, resting n⟩
  auto := fun _ => ⟨⟨fun h => absurd h (axes .rotary).not_auto, fun h => absurd idle h⟩, (axes .crowd).not_auto,
    (axes .hoist).not_auto⟩
  demands := demands
  sound := sound
  operator := fun _ _ _ a moving => absurd moving (axes a).not_moving
  sequence := fun _ _ _ _ => ⟨fun h => absurd idle h, fun h => absurd (idle.symm.trans h) (by decide),
    fun h => absurd (idle.symm.trans h) (by decide)⟩

end Sys2Proof.Machine
end

section
/-! Evaluations, faults, hand-backs and operator commands keep the drives safe (R107, R109, R110, R129, R130, R135, R156, R158). -/

namespace Sys2Proof.Machine

open Sys2Proof

/-! ## Evaluations (R135) -/

theorem WithinDemand.zero (d : Int) : WithinDemand 0 d := ⟨by simp, by simp⟩

theorem governedValue_within {s : State} (within : JointsWithinStroke s) (a : Axis) (d : Int) :
    WithinDemand (governedValue s a d).1 d := governedValueStaysWithinTheDemand s a d within

/-- A value nearer to 0 than one within a demand, and not opposite to it, is within the demand. -/
theorem WithinDemand.nearer {g v d : Int} (within : WithinDemand g d) (nearer : |v| ≤ |g|) (sign : 0 ≤ v * g) : WithinDemand v d := by
  obtain ⟨bound, same⟩ := within
  refine ⟨nearer.trans bound, ?_⟩
  by_cases zero : g = 0
  · rw [zero, abs_zero] at nearer
    rw [abs_nonpos_iff.mp nearer, zero_mul]
  · have square : 0 < g * g := mul_self_pos.mpr zero
    have product : 0 ≤ (v * d) * (g * g) := by
      have := mul_nonneg sign same
      calc (0 : Int) ≤ v * g * (g * d) := this
        _ = (v * d) * (g * g) := by ring
    exact nonneg_of_mul_nonneg_left product square

/-- A value within a creep demand lies between 0 and it. -/
theorem WithinDemand.between_nonneg {g c : Int} (within : WithinDemand g c) (nonneg : 0 ≤ c) : 0 ≤ g ∧ g ≤ c := by
  obtain ⟨bound, sign⟩ := within
  rw [abs_of_nonneg nonneg] at bound
  refine ⟨?_, (le_abs_self g).trans bound⟩
  rcases nonneg.eq_or_lt with zero | pos
  · rw [← zero] at bound
    exact (abs_nonpos_iff.mp bound).ge
  · exact nonneg_of_mul_nonneg_left sign pos

theorem WithinDemand.between_nonpos {g c : Int} (within : WithinDemand g (-c)) (nonneg : 0 ≤ c) : -c ≤ g ∧ g ≤ 0 := by
  have mirrored : WithinDemand (-g) c := ⟨by rw [abs_neg, ← abs_neg c]; exact within.1, by have := within.2; linarith [neg_mul_comm g c]⟩
  obtain ⟨low, high⟩ := mirrored.between_nonneg nonneg
  omega

/-- A value that axis `a` may move to in its state: within the stored demand, 0 for CROWD and HOIST in a sequence, and in AUTO
within the creep demand. -/
structure MoveSound (s : State) (a : Axis) (v : Int) : Prop where
  out    : (s.axis a).state.outOfService → v = 0
  demand : (s.axis a).state = .active ∨ (s.axis a).state = .rampdown → ∀ d, (s.axis a).demand = some d →
    WithinDemand (s.axis a).governed d → WithinDemand v d
  others : s.sequencer ≠ .idle → a ≠ .rotary → (s.axis a).governed = 0 → v = 0
  auto   : (s.axis a).state = .auto → WithinDemand v (creepDemand s)

theorem MoveSound.zero (s : State) (a : Axis) : MoveSound s a 0 :=
  ⟨fun _ => rfl, fun _ d _ _ => .zero d, fun _ _ _ => rfl, fun _ => .zero _⟩

theorem evaluated_out {s : State} {a : Axis} (out : (s.axis a).state.outOfService) : (evaluated s a).1 = 0 := by
  rcases out with h | h <;> simp only [evaluated, h]

theorem evaluated_sound {s : State} (within : JointsWithinStroke s) (a : Axis) : MoveSound s a (evaluated s a).1 := by
  refine ⟨evaluated_out, fun moving d stored bound => ?_, fun running other _ => evaluated_of_sequence within running other,
    fun auto => ?_⟩
  · rcases moving with state | state
    · simp only [evaluated, state, stored, Option.getD_some]
      exact governedValue_within within a d
    · simp only [evaluated, state, stored, Option.getD_some]
      split
      · exact governedValue_within within a d
      · exact bound
  · simp only [evaluated, auto]
    exact governedValue_within within a _

/-- One axis moves to a sound value, its state and demand as they were. -/
theorem DriveSafe.of_move {P : Prop} {s t : State} {a : Axis} (governor : t.governor = s.governor)
    (bar : t.tables.bar = s.tables.bar) (deliveries : DeliveriesKept s t) (sequencer : t.sequencer = s.sequencer)
    (others : ∀ b, b ≠ a → t.axis b = s.axis b) (state : (t.axis a).state = (s.axis a).state)
    (demand : (t.axis a).demand = (s.axis a).demand) (rest : (s.axis a).state.outOfService → (t.axis a).governed = 0)
    (moves : P → MoveSound s a (t.axis a).governed) : DriveSafe P s t := by
  have states (b : Axis) : (t.axis b).state = (s.axis b).state := by
    by_cases same : b = a
    · rw [same, state]
    · rw [others b same]
  have demands (b : Axis) : (t.axis b).demand = (s.axis b).demand := by
    by_cases same : b = a
    · rw [same, demand]
    · rw [others b same]
  refine ⟨fun ⟨governed, out, idle, resting⟩ => ?_, fun ⟨rotary, crowd, hoist⟩ => ?_, fun ranges b d stored => ?_,
    fun sound b => deliveries.sound b (sound b), fun p _ within b moving => ?_, fun p _ only ⟨both, locking, releasing⟩ => ?_⟩
  · refine ⟨fun b away => ?_, fun off b => ?_, fun off => sequencer.trans (idle (governor ▸ off)),
      fun off b => deliveries.resting (governor ▸ off) b (resting (governor ▸ off) b)⟩
    · rw [states] at away
      by_cases same : b = a
      · rw [same] at away ⊢
        exact rest away
      · rw [others b same]
        exact governed b away
    · rw [states]
      exact out (governor ▸ off) b
  · refine ⟨?_, fun h => crowd ((states .crowd).symm.trans h), fun h => hoist ((states .hoist).symm.trans h)⟩
    rw [sequencer, show t.axes.rotary.state = _ from states .rotary]
    exact rotary
  · exact ranges b d ((demands b).symm.trans stored)
  · rw [states] at moving
    obtain ⟨d, stored, bound⟩ := within b moving
    refine ⟨d, (demands b).trans stored, ?_⟩
    by_cases same : b = a
    · subst same
      exact (moves p).demand moving d stored bound
    · rw [others b same]
      exact bound
  · have zero (b : Axis) (other : b ≠ .rotary) (running : s.sequencer ≠ .idle) (still : (s.axis b).governed = 0) :
        (t.axis b).governed = 0 := by
      by_cases same : b = a
      · subst same
        exact (moves p).others running other still
      · rw [others b same]
        exact still
    have rotary (running : s.sequencer ≠ .idle) :
        WithinDemand (t.axis .rotary).governed (creepDemand s) ∨ (t.axis .rotary).governed = (s.axis .rotary).governed := by
      by_cases same : .rotary = a
      · subst same
        exact .inl ((moves p).auto (only.rotary.mpr running))
      · exact .inr (by rw [others .rotary same])
    obtain ⟨lock, release⟩ := creep_nonneg s.tables.bar
    refine ⟨fun h => ?_, fun h => ?_, fun h => ?_⟩
    · rw [sequencer] at h
      exact ⟨zero .crowd (by decide) h (both h).1, zero .hoist (by decide) h (both h).2⟩
    · rw [sequencer] at h
      rw [bar]
      rcases rotary (by rw [h]; decide) with creep | still
      · rw [creepDemand, h] at creep
        exact creep.between_nonneg lock
      · rw [show t.axes.rotary.governed = _ from still]
        exact locking h
    · rw [sequencer] at h
      rw [bar]
      rcases rotary (by rw [h]; decide) with creep | still
      · rw [creepDemand, h] at creep
        exact creep.between_nonpos (Int.natCast_nonneg _)
      · rw [show t.axes.rotary.governed = _ from still]
        exact releasing h

end Sys2Proof.Machine
end

section
/-! The operations of the drives, one by one: evaluations, faults, hand-backs, and the ends of a sequence. -/

namespace Sys2Proof.Machine

open Sys2Proof

/-! ## Evaluations -/

theorem handOver_deliveriesKept (s : State) (a : Axis) (r : Bool) : DeliveriesKept s (handOver s a r) :=
  produce_deliveriesKept s a _ _ r

theorem evaluate_deliveriesKept (s : State) (a : Axis) (r : Bool) : DeliveriesKept s (evaluate s a r) :=
  (DeliveriesKept.of_same (s := s) (t := s.setAxis a ((s.axis a).withEvaluation (evaluated s a) s.millis)) rfl).trans
    (handOver_deliveriesKept _ a r) rfl

theorem evaluate_drive_of_sound {P : Prop} {s : State} {a : Axis} (r : Bool) (sound : P → MoveSound s a (evaluated s a).1) :
    DriveSafe P s (evaluate s a r) := by
  have frame := evaluate_frame s a r
  have record := evaluate_axis_same s a r
  have value : ((evaluate s a r).axis a).governed = (evaluated s a).1 := by rw [record]; rfl
  refine .of_move frame.governor (congrArg Tables.bar frame.tables) (evaluate_deliveriesKept s a r) frame.sequencer
    (fun b other => evaluate_axis_other s a b r other) (by rw [record]; rfl) (by rw [record]; rfl) (fun out => ?_) (fun p => ?_)
  · rw [value, evaluated_out out]
  · rw [value]
    exact sound p

/-- An evaluation keeps the drives safe where the joints lie within their strokes. -/
theorem evaluate_drive (s : State) (a : Axis) (r : Bool) : DriveSafe (JointsWithinStroke s) s (evaluate s a r) :=
  evaluate_drive_of_sound r fun within => evaluated_sound within a

theorem evaluateNow_drive (s : State) (a : Axis) : DriveSafe (JointsWithinStroke s) s (evaluateNow s a) := evaluate_drive s a false

/-- An evaluation to 0 is safe whatever the bar is. -/
theorem evaluateNow_drive_of_zero {P : Prop} {s : State} {a : Axis} (zero : (evaluated s a).1 = 0) :
    DriveSafe P s (evaluateNow s a) := evaluate_drive_of_sound false fun _ => zero ▸ .zero s a

theorem evaluateAxes_drive (s : State) (l : List Axis) : DriveSafe (JointsWithinStroke s) s (evaluateAxes s l) := by
  induction l generalizing s with
  | nil => rfl
  | cons a l ih =>
    have frame := evaluateNow_frame s a
    exact (evaluateNow_drive s a).trans (ih _) fun within => within.of_same frame.tables frame.joints frame.extension

theorem evaluateAll_drive (s : State) : DriveSafe (JointsWithinStroke s) s (evaluateAll s) := evaluateAxes_drive s _

theorem evaluateInService_drive (s : State) (a : Axis) : DriveSafe (JointsWithinStroke s) s (evaluateInService s a) := by
  cases state : (s.axis a).state with
  | neutral => rw [evaluateInService_of_outOfService (.inl state)]
  | fault => rw [evaluateInService_of_outOfService (.inr state)]
  | active => rw [evaluateInService_of_inService (.inl state)]; exact evaluateNow_drive s a
  | rampdown => rw [evaluateInService_of_inService (.inr (.inl state))]; exact evaluateNow_drive s a
  | auto => rw [evaluateInService_of_inService (.inr (.inr state))]; exact evaluateNow_drive s a

/-! ## Changes of one axis -/

theorem report_drive (P : Prop) (s : State) (k : EventKind) (i : Nat) (d : Int) : DriveSafe P s (report s k i d) :=
  .of_drive (report_frame s k i d).toKept ⟨rfl, rfl, rfl, rfl, rfl⟩

theorem changeAxis_deliveriesKept (s : State) (a : Axis) (r : AxisRecord) : DeliveriesKept s (changeAxis s a r) :=
  (DeliveriesKept.of_same (s := s) (t := reportAxisState (s.setAxis a r) a) rfl).trans (handOver_deliveriesKept _ a false) rfl

/-- An axis that was not in AUTO goes out of service at 0. -/
theorem changeAxis_rest_drive {P : Prop} {s : State} {a : Axis} {r : AxisRecord} (rest : r.AtRest)
    (demand : r.demand = (s.axis a).demand ∨ r.demand = some 0) (notAuto : (s.axis a).state ≠ .auto) :
    DriveSafe P s (changeAxis s a r) := by
  have frame := changeAxis_frame s a r
  have record := changeAxis_axis_same s a r
  refine .of_axes frame.governor (congrArg Tables.bar frame.tables) (changeAxis_deliveriesKept s a r) (fun b => ?_)
    (.inl ⟨frame.sequencer, fun b => ?_⟩) <;> by_cases same : b = a
  · rw [same, record]
    exact .inr ⟨rest, demand⟩
  · exact .inl (.of_eq (changeAxis_axis_other s a b r same))
  · rw [same, record]
    exact iff_of_false rest.out.not_auto notAuto
  · rw [changeAxis_axis_other s a b r same]

theorem abortSequence_deliveriesKept (s : State) (c : AbortCause) : DeliveriesKept s (abortSequence s c) := by
  unfold abortSequence
  split
  · rfl
  · exact .of_same rfl

theorem enterFault_deliveriesKept (s : State) (a : Axis) (c : ExitCause) : DeliveriesKept s (enterFault s a c) := by
  let t := report (s.setAxis a { (s.axis a).toNeutralFor c with state := .fault }) .axisFault a.code c.bit
  unfold enterFault
  dsimp only
  split
  · split
    · rfl
    · exact .of_same rfl
  · have handed : DeliveriesKept s (handOver t a false) :=
      (DeliveriesKept.of_same (s := s) (t := t) rfl).trans (handOver_deliveriesKept t a false) rfl
    split
    · exact handed.trans (abortSequence_deliveriesKept _ .fault) (handOver_frame t a false).governor
    · exact handed

theorem enterFault_drive {P : Prop} (s : State) (a : Axis) (c : ExitCause) : DriveSafe P s (enterFault s a c) := by
  have frame := enterFault_frame s a c
  have entered := enterFault_enteredFault s a c
  have others (b : Axis) (other : b ≠ a) : (enterFault s a c).axis b = s.axis b := (entered.others b other).1
  have state : ((enterFault s a c).axis a).state = .fault := by
    by_cases fault : (s.axis a).state = .fault
    · rw [entered.already fault]; exact fault
    · rw [entered.entered fault]
  have bar := congrArg Tables.bar frame.tables
  have deliveries := enterFault_deliveriesKept s a c
  have axes (b : Axis) : (s.axis b).SameMotion ((enterFault s a c).axis b) ∨ (((enterFault s a c).axis b).AtRest ∧
      (((enterFault s a c).axis b).demand = (s.axis b).demand ∨ ((enterFault s a c).axis b).demand = some 0)) := by
    by_cases same : b = a
    · subst same
      by_cases fault : (s.axis b).state = .fault
      · rw [entered.already fault]
        exact .inl ⟨rfl, rfl, rfl⟩
      · rw [entered.entered fault]
        exact .inr ⟨⟨.inr rfl, rfl⟩, .inl rfl⟩
    · exact .inl (.of_eq (others b same))
  by_cases auto : (s.axis a).state = .auto ∧ s.sequencer ≠ .idle
  · refine .of_axes frame.governor bar deliveries axes (.inr ⟨(entered.aborted auto.1 auto.2).1, fun only b => ?_⟩)
    by_cases same : b = a
    · rw [same, state]; decide
    · rw [others b same]
      have rotary : a = .rotary := by
        cases a
        · rfl
        · exact absurd auto.1 only.crowd
        · exact absurd auto.1 only.hoist
      subst rotary
      cases b
      · exact absurd rfl same
      · exact only.crowd
      · exact only.hoist
  · by_cases wasAuto : (s.axis a).state = .auto
    · have idle : s.sequencer = .idle := not_not.mp fun running => auto ⟨wasAuto, running⟩
      refine .of_axes frame.governor bar deliveries axes (.inr ⟨(entered.kept (.inr idle)).1.trans idle, fun only b => ?_⟩)
      cases a
      · exact absurd idle (only.rotary.mp wasAuto)
      · exact absurd wasAuto only.crowd
      · exact absurd wasAuto only.hoist
    · refine .of_axes frame.governor bar deliveries axes (.inl ⟨(entered.kept (.inl wasAuto)).1, fun b => ?_⟩)
      by_cases same : b = a
      · rw [same, state]
        exact iff_of_false (by decide) wasAuto
      · rw [others b same]

/-! ## The hand-back of ROTARY (R129) -/

/-- A sequence that ran has ended, and ROTARY is out of service at 0, or ACTIVE within its demand. -/
theorem DriveSafe.of_handedBack {P : Prop} {s t : State} (running : s.sequencer ≠ .idle) (governor : t.governor = s.governor)
    (sound : (∀ a, (s.delivery a).Sound) → ∀ a, (t.delivery a).Sound) (idle : t.sequencer = .idle)
    (others : ∀ b, b ≠ .rotary → t.axis b = s.axis b) {d : Int} (demand : (t.axis .rotary).demand = some d)
    (range : -1000 ≤ d ∧ d ≤ 1000)
    (rotary : (t.axis .rotary).AtRest ∨ ((t.axis .rotary).state = .active ∧ (P → WithinDemand (t.axis .rotary).governed d))) :
    DriveSafe P s t where
  neutral := fun ⟨governed, _, stopped, _⟩ => by
    have govern : t.governor = .govern := governor.trans (not_not.mp fun off => running (stopped off))
    refine ⟨fun a out => ?_, fun off => absurd govern off, fun off => absurd govern off, fun off => absurd govern off⟩
    by_cases same : a = .rotary
    · subst same
      rcases rotary with rest | ⟨active, -⟩
      · exact rest.zero
      · exact absurd (.inl active) out.not_moving
    · rw [others a same] at out ⊢
      exact governed a out
  auto := fun only => by
    have notAuto : (t.axis .rotary).state ≠ .auto := by
      rcases rotary with rest | ⟨active, -⟩
      · exact rest.out.not_auto
      · rw [active]; decide
    refine ⟨⟨fun h => absurd h notAuto, fun h => absurd idle h⟩, ?_, ?_⟩
    · rw [show t.axes.crowd = s.axes.crowd from others .crowd (by decide)]
      exact only.crowd
    · rw [show t.axes.hoist = s.axes.hoist from others .hoist (by decide)]
      exact only.hoist
  demands := fun ranges a e stored => by
    by_cases same : a = .rotary
    · subst same
      rw [← Option.some.inj (demand.symm.trans stored)]
      exact range
    · exact ranges a e (by rw [← others a same]; exact stored)
  sound := sound
  operator := fun p _ within a moving => by
    by_cases same : a = .rotary
    · subst same
      rcases rotary with rest | ⟨-, bound⟩
      · exact absurd moving rest.out.not_moving
      · exact ⟨d, demand, bound p⟩
    · rw [others a same] at moving ⊢
      exact within a moving
  sequence := fun _ _ _ _ => ⟨fun h => absurd idle h, fun h => absurd (idle.symm.trans h) (by decide),
    fun h => absurd (idle.symm.trans h) (by decide)⟩

theorem handBackState_deliveriesKept (s : State) (d : Int) : DeliveriesKept s (handBackState s d) := by
  unfold handBackState
  dsimp only
  split
  · exact changeAxis_deliveriesKept s _ _
  · exact .of_same rfl

theorem handBack_deliveriesKept (s : State) (d : Int) : DeliveriesKept s (handBack s d) := by
  unfold handBack
  dsimp only
  split
  · exact (handBackState_deliveriesKept s d).trans (evaluate_deliveriesKept _ .rotary false) (handBackState_frame s d).governor
  · exact handBackState_deliveriesKept s d

/-- A hand-back at the end of a sequence, on a demand in range that is 0 or governed within the strokes. -/
theorem handBack_drive {P : Prop} {s u : State} {d : Int} (running : s.sequencer ≠ .idle) (frame : SameTracking s u)
    (idle : u.sequencer = .idle) (axes : ∀ a, a ≠ .rotary → u.axis a = s.axis a) (deliveries : DeliveriesKept s u)
    (range : -1000 ≤ d ∧ d ≤ 1000)
    (bound : P → WithinDemand (governedValue u .rotary d).1 d) : DriveSafe P s (handBack u d) := by
  have turn := handBack_frame u d
  have kept := deliveries.trans (handBack_deliveriesKept u d) frame.governor
  have others (b : Axis) (other : b ≠ .rotary) : (handBack u d).axis b = s.axis b :=
    (handBack_same_at u d other).axis.trans (axes b other)
  have build (demand : ((handBack u d).axis .rotary).demand = some d) := DriveSafe.of_handedBack (P := P) running
    (turn.governor.trans frame.governor) (fun sound a => kept.sound a (sound a)) (turn.sequencer.trans idle) others demand range
  rcases fresh : u.axes.rotary.freshness with _ | left
  · obtain ⟨record, -⟩ := handBack_stale_spec d fresh
    have record' : (handBack u d).axis .rotary = _ := record
    refine build (by rw [record']) (.inl ?_)
    rw [record']
    exact ⟨.inl rfl, rfl⟩
  · obtain ⟨record, -⟩ := handBack_fresh_spec d (s := u) (by rw [fresh]; rfl)
    have record' : (handBack u d).axis .rotary = _ := record
    refine build (by rw [record']) (.inr ⟨by rw [record'], fun p => ?_⟩)
    rw [record']
    exact bound p

theorem handBack_zero_drive {P : Prop} {s u : State} (running : s.sequencer ≠ .idle) (frame : SameTracking s u)
    (idle : u.sequencer = .idle) (axes : ∀ a, u.axis a = s.axis a) (deliveries : DeliveriesKept s u) :
    DriveSafe P s (handBack u 0) :=
  handBack_drive running frame idle (fun a _ => axes a) deliveries (by decide) fun _ => by rw [governedValue_zero]; exact .zero 0

theorem abortAndHandBack_drive (P : Prop) (s : State) (c : AbortCause) : DriveSafe P s (abortAndHandBack s c) := by
  unfold abortAndHandBack
  split
  · rfl
  · next running =>
    exact handBack_zero_drive running (abortSequence_frame s c) (abortSequence_of_running s c running).1
      (fun a => (abortSequence_at s c a).axis) (abortSequence_deliveriesKept s c)

theorem completeSequence_drive (P : Prop) {s : State} (n : Nat) (running : s.sequencer ≠ .idle) :
    DriveSafe P s (completeSequence s n) := by
  have ended : SameTracking s (endSequence s) := sameTracking_mk s _ _ _
  exact handBack_zero_drive (u := report (endSequence s) .autoDone (sequenceSubject s) n) running
    (ended.trans (report_frame _ _ _ _).toSameTracking) rfl (fun _ => rfl) (.of_same rfl)

theorem sequencerLockEvent_drive (P : Prop) (s : State) (n : Nat) : DriveSafe P s (sequencerLockEvent s n) := by
  unfold sequencerLockEvent
  split
  · next locking => exact completeSequence_drive P n (by rw [locking]; decide)
  · rfl

theorem sequencerReleaseEvent_drive (P : Prop) (s : State) (n : Nat) : DriveSafe P s (sequencerReleaseEvent s n) := by
  unfold sequencerReleaseEvent
  split
  · next releasing => exact completeSequence_drive P n (by rw [releasing]; decide)
  · rfl

end Sys2Proof.Machine
end

section
/-! Operator commands, axis timers, deliveries and Governor Control keep the drives safe (R24 to R29, R122 to R132, R142 to R150). -/

namespace Sys2Proof.Machine

open Sys2Proof

/-! ## Accepted commands (R122 to R127) -/

/-- A command has been stored and acted upon: its axis as it was or in ACTIVE, with the demand stored and G still held. -/
structure Acted (s u : State) (a : Axis) (d : Int) : Prop where
  frame    : SameSequence s u
  others   : ∀ b, b ≠ a → u.axis b = s.axis b
  delivery : u.deliveries = s.deliveries
  demand   : (u.axis a).demand = some d
  governed : (u.axis a).governed = (s.axis a).governed
  state    : (u.axis a).state = (s.axis a).state ∨ ((u.axis a).state = .active ∧
    ((s.axis a).state = .rampdown ∨ ((s.axis a).state = .neutral ∧ s.governor = .govern)))
  notRamp  : (u.axis a).state ≠ .rampdown

theorem recordCommand_acted (s : State) (a : Axis) (pl : List Byte) :
    Acted s (commandAction (recordCommand s a pl) a (demandAfterDeadband s pl)) a (demandAfterDeadband s pl) := by
  let d := demandAfterDeadband s pl
  let w := recordCommand s a pl
  have record : w.axis a = (s.axis a).accepting (commandAlive pl) d (freshnessReload s a) := State.axis_setAxis_same _ a _
  have others (b : Axis) (other : b ≠ a) : w.axis b = s.axis b := State.axis_setAxis_other _ a b _ other
  have frame := (recordCommand_frame s a pl).trans (commandAction_frame w a d)
  have state : (w.axis a).state = (s.axis a).state := by rw [record]; rfl
  by_cases entered : entersActive w a d
  · have eq := commandAction_of_entered entered
    have active : (commandAction w a d).axis a = { w.axis a with
        state := .active, ramp := if (w.axis a).state = .rampdown then none else (w.axis a).ramp } := by
      rw [eq]
      exact State.axis_setAxis_same _ a _
    refine ⟨frame, fun b other => ?_, by rw [eq]; rfl, by rw [active, record]; rfl, by rw [active, record]; rfl,
      .inr ⟨by rw [active], ?_⟩, by rw [active]; exact AxisState.noConfusion⟩
    · rw [eq]
      exact (State.axis_setAxis_other _ a b _ other).trans (others b other)
    · rw [← state]
      exact entered.imp id fun ⟨neutral, _, govern, _⟩ => ⟨neutral, govern⟩
  · have eq := commandAction_of_kept entered
    refine ⟨frame, fun b other => ?_, by rw [eq]; rfl, by rw [eq, record]; rfl, by rw [eq, record]; rfl, .inl ?_, ?_⟩
    · rw [eq]
      exact others b other
    · rw [eq, state]
    · rw [eq]
      exact fun ramping => entered (.inl ramping)

theorem demandAfterDeadband_range (s : State) (pl : List Byte) :
    -1000 ≤ demandAfterDeadband s pl ∧ demandAfterDeadband s pl ≤ 1000 := by
  have bounds := clamp_bounds (show (-1000 : Int) ≤ 1000 by decide) (commandDemand pl)
  unfold demandAfterDeadband
  dsimp only
  split
  · exact ⟨by decide, by decide⟩
  · exact bounds

/-- A command stored and acted upon, and evaluated where its axis is in service. -/
theorem DriveSafe.of_acted {P : Prop} {s u t : State} {a : Axis} {d : Int} (acted : Acted s u a d) (range : -1000 ≤ d ∧ d ≤ 1000)
    (governor : t.governor = s.governor) (bar : t.tables.bar = s.tables.bar) (deliveries : DeliveriesKept s t)
    (sequencer : t.sequencer = s.sequencer) (others : ∀ b, b ≠ a → t.axis b = u.axis b)
    (state : (t.axis a).state = (u.axis a).state) (demand : (t.axis a).demand = (u.axis a).demand)
    (rest : (u.axis a).state.outOfService → (t.axis a).governed = (u.axis a).governed)
    (active : P → (u.axis a).state = .active → WithinDemand (t.axis a).governed d)
    (still : P → s.sequencer ≠ .idle → a ≠ .rotary → (s.axis a).governed = 0 → (t.axis a).governed = 0)
    (auto : P → (u.axis a).state = .auto → WithinDemand (t.axis a).governed (creepDemand s)) : DriveSafe P s t := by
  have apart (b : Axis) (other : b ≠ a) : t.axis b = s.axis b := (others b other).trans (acted.others b other)
  have autos (b : Axis) : (t.axis b).state = .auto ↔ (s.axis b).state = .auto := by
    by_cases same : b = a
    · subst same
      rw [state]
      rcases acted.state with kept | ⟨entered, ramping | ⟨neutral, -⟩⟩
      · rw [kept]
      · rw [entered, ramping]; decide
      · rw [entered, neutral]; decide
    · rw [apart b same]
  refine ⟨fun ⟨governed, out, idle, resting⟩ => ?_, fun ⟨rotary, crowd, hoist⟩ => ?_, fun ranges b e stored => ?_,
    fun sound b => deliveries.sound b (sound b), fun p _ within b moving => ?_, fun p _ only ⟨both, locking, releasing⟩ => ?_⟩
  · refine ⟨fun b away => ?_, fun off b => ?_, fun off => sequencer.trans (idle (governor ▸ off)),
      fun off b => deliveries.resting (governor ▸ off) b (resting (governor ▸ off) b)⟩
    · by_cases same : b = a
      · subst same
        rw [state] at away
        rw [rest away, acted.governed]
        rcases acted.state with kept | ⟨entered, -⟩
        · exact governed b (kept ▸ away)
        · exact absurd (.inl entered) away.not_moving
      · rw [apart b same] at away ⊢
        exact governed b away
    · rw [governor] at off
      by_cases same : b = a
      · subst same
        rw [state]
        rcases acted.state with kept | ⟨-, ramping | ⟨-, govern⟩⟩
        · rw [kept]; exact out off b
        · exact absurd (.inr ramping) (out off b).not_moving
        · exact absurd govern off
      · rw [apart b same]
        exact out off b
  · refine ⟨?_, fun h => crowd ((autos .crowd).mp h), fun h => hoist ((autos .hoist).mp h)⟩
    rw [sequencer]
    exact (autos .rotary).trans rotary
  · by_cases same : b = a
    · subst same
      rw [← Option.some.inj ((demand.trans acted.demand).symm.trans stored)]
      exact range
    · rw [apart b same] at stored
      exact ranges b e stored
  · by_cases same : b = a
    · subst same
      refine ⟨d, demand.trans acted.demand, active p ?_⟩
      rw [state] at moving
      exact moving.resolve_right acted.notRamp
    · rw [apart b same] at moving ⊢
      exact within b moving
  · have zero (b : Axis) (other : b ≠ .rotary) (running : s.sequencer ≠ .idle) (held : (s.axis b).governed = 0) :
        (t.axis b).governed = 0 := by
      by_cases same : b = a
      · subst same
        exact still p running other held
      · rw [apart b same]
        exact held
    have creeps (running : s.sequencer ≠ .idle) :
        WithinDemand (t.axis .rotary).governed (creepDemand s) ∨ (t.axis .rotary).governed = (s.axis .rotary).governed := by
      by_cases same : .rotary = a
      · subst same
        refine .inl (auto p ?_)
        rw [← state]
        exact (autos .rotary).mpr (only.rotary.mpr running)
      · exact .inr (by rw [apart .rotary same])
    obtain ⟨lock, -⟩ := creep_nonneg s.tables.bar
    refine ⟨fun h => ?_, fun h => ?_, fun h => ?_⟩ <;> rw [sequencer] at h
    · exact ⟨zero .crowd (by decide) h (both h).1, zero .hoist (by decide) h (both h).2⟩
    · rw [bar]
      rcases creeps (by rw [h]; decide) with creep | held
      · rw [creepDemand, h] at creep
        exact creep.between_nonneg lock
      · rw [show t.axes.rotary.governed = _ from held]
        exact locking h
    · rw [bar]
      rcases creeps (by rw [h]; decide) with creep | held
      · rw [creepDemand, h] at creep
        exact creep.between_nonpos (Int.natCast_nonneg _)
      · rw [show t.axes.rotary.governed = _ from held]
        exact releasing h

/-- A stored command evaluated last, where the sequencer is not told or told nothing but of a refusal. -/
theorem acted_evaluated_drive {s u w : State} {a : Axis} {d : Int} (acted : Acted s u a d) (range : -1000 ≤ d ∧ d ≤ 1000)
    (same : SameSequence u w) (axes : ∀ b, w.axis b = u.axis b) (deliveries : w.deliveries = s.deliveries) :
    DriveSafe (JointsWithinStroke s) s (evaluateInService w a) := by
  have frame := acted.frame.trans same
  have last := evaluateInService_frame w a
  have bar : (evaluateInService w a).tables.bar = s.tables.bar := congrArg Tables.bar (frame.trans last).tables
  have strokes (p : JointsWithinStroke s) : JointsWithinStroke w := p.of_same frame.tables frame.joints frame.extension
  have creep : creepDemand w = creepDemand s := by rw [creepDemand, creepDemand, frame.sequencer, frame.tables]
  by_cases out : (w.axis a).state.outOfService
  · rw [evaluateInService_of_outOfService out]
    have outU : (u.axis a).state.outOfService := axes a ▸ out
    refine .of_acted acted range frame.governor (congrArg Tables.bar frame.tables) (.of_same deliveries) frame.sequencer
      (fun b _ => axes b) (by rw [axes]) (by rw [axes]) (fun _ => by rw [axes]) (fun _ active => ?_) (fun _ _ _ held => ?_)
      (fun _ auto => ?_)
    · exact absurd (.inl active) outU.not_moving
    · rw [axes, acted.governed]; exact held
    · exact absurd auto outU.not_auto
  · have service : (w.axis a).state.inService := by
      cases state : (w.axis a).state with
      | neutral => exact absurd (.inl state) out
      | fault => exact absurd (.inr state) out
      | active => exact .inl rfl
      | rampdown => exact .inr (.inl rfl)
      | auto => exact .inr (.inr rfl)
    rw [evaluateInService_of_inService service] at bar ⊢
    have turn := evaluateNow_frame w a
    have record := evaluate_axis_same w a false
    have value : ((evaluateNow w a).axis a).governed = (evaluated w a).1 := by rw [evaluateNow, record]; rfl
    refine .of_acted acted range (turn.governor.trans frame.governor) bar
      ((DeliveriesKept.of_same deliveries).trans (evaluate_deliveriesKept w a false) frame.governor)
      (turn.sequencer.trans frame.sequencer) (fun b other => (evaluate_axis_other w a b false other).trans (axes b))
      (by rw [evaluateNow, record, ← axes]; rfl) (by rw [evaluateNow, record, ← axes]; rfl) (fun outU => ?_) (fun p active => ?_)
      (fun p running other _ => ?_) (fun p auto => ?_)
    · exact absurd (axes a ▸ outU) out
    · rw [value]
      have activeW : (w.axis a).state = .active := by rw [axes, active]
      have demandW : (w.axis a).demand = some d := by rw [axes, acted.demand]
      simp only [evaluated, activeW, demandW, Option.getD_some]
      exact governedValue_within (strokes p) a d
    · rw [value]
      exact evaluated_of_sequence (strokes p) (frame.sequencer ▸ running) other
    · rw [value, ← creep]
      exact (evaluated_sound (strokes p) a).auto (by rw [axes, auto])

end Sys2Proof.Machine
end

section
/-! Commands that start or end a sequence, the timers of an axis, echoes, and Governor Control, as the drives see them. -/

namespace Sys2Proof.Machine

open Sys2Proof

/-! ## A start (R156) -/

/-- A sequence starts in GOVERN: ROTARY in AUTO within the creep demand, CROWD and HOIST held at 0. -/
theorem DriveSafe.of_started {P : Prop} {s t : State} (govern : t.governor = .govern) (deliveries : DeliveriesKept s t)
    (running : t.sequencer ≠ .idle) (auto : (t.axis .rotary).state = .auto)
    (demand : ∀ d, (t.axis .rotary).demand = some d → -1000 ≤ d ∧ d ≤ 1000)
    (creep : P → WithinDemand (t.axis .rotary).governed (creepDemand t))
    (others : ∀ b, b ≠ .rotary → (t.axis b).state = (s.axis b).state ∧ (t.axis b).demand = (s.axis b).demand ∧
      ((s.axis b).state.outOfService → (t.axis b).governed = 0) ∧ (P → (t.axis b).governed = 0)) : DriveSafe P s t where
  neutral := fun _ => by
    refine ⟨fun a out => ?_, fun off => absurd govern off, fun off => absurd govern off, fun off => absurd govern off⟩
    by_cases same : a = .rotary
    · subst same
      exact absurd auto out.not_auto
    · obtain ⟨state, -, rest, -⟩ := others a same
      exact rest (state ▸ out)
  auto := fun only => by
    refine ⟨iff_of_true auto running, ?_, ?_⟩
    · rw [show t.axes.crowd.state = _ from (others .crowd (by decide)).1]
      exact only.crowd
    · rw [show t.axes.hoist.state = _ from (others .hoist (by decide)).1]
      exact only.hoist
  demands := fun ranges a d stored => by
    by_cases same : a = .rotary
    · subst same
      exact demand d stored
    · exact ranges a d ((others a same).2.1.symm.trans stored)
  sound := fun sound a => deliveries.sound a (sound a)
  operator := fun p _ within a moving => by
    by_cases same : a = .rotary
    · subst same
      rcases moving with h | h <;> exact absurd (auto.symm.trans h) (by decide)
    · obtain ⟨state, kept, -, zero⟩ := others a same
      obtain ⟨d, stored, -⟩ := within a (state ▸ moving)
      exact ⟨d, kept.trans stored, by rw [zero p]; exact WithinDemand.zero d⟩
  sequence := fun p _ _ _ => by
    obtain ⟨lock, -⟩ := creep_nonneg t.tables.bar
    refine ⟨fun _ => ⟨(others .crowd (by decide)).2.2.2 p, (others .hoist (by decide)).2.2.2 p⟩, fun h => ?_, fun h => ?_⟩
    · have bound := creep p
      rw [creepDemand, h] at bound
      exact bound.between_nonneg lock
    · have bound := creep p
      rw [creepDemand, h] at bound
      exact bound.between_nonpos (Int.natCast_nonneg _)

theorem requestRefusal_none_govern {s : State} {lock release : Bool} {d : Int} (taken : requestRefusal s lock release d = none) :
    s.governor = .govern := by
  by_contra off
  have closed : (s.governor == .govern) = false := by simpa using off
  unfold requestRefusal at taken
  split at taken
  · cases taken
  · rw [closed] at taken
    simp at taken

theorem evaluateAxes_deliveriesKept (s : State) (l : List Axis) : DeliveriesKept s (evaluateAxes s l) := by
  induction l generalizing s with
  | nil => rfl
  | cons a l ih => exact (evaluate_deliveriesKept s a false).trans (ih _) (evaluateNow_frame s a).governor

theorem started_evaluated_drive {s u : State} {d : Int} (acted : Acted s u .rotary d) (range : -1000 ≤ d ∧ d ≤ 1000)
    (govern : u.governor = .govern) (lock : Bool) :
    DriveSafe (JointsWithinStroke s) s (evaluateInService (startSequence u lock) .rotary) := by
  let w := started u lock
  let x := evaluateAxes w [.crowd, .hoist]
  have atRotary : SameAt .rotary w x := evaluateAxes_same_at (by decide) w
  have record : x.axis .rotary = { u.axis .rotary with state := .auto } := atRotary.axis.trans (State.axis_setAxis_same _ .rotary _)
  have auto : (x.axis .rotary).state = .auto := by rw [record]
  have eq : evaluateInService (startSequence u lock) .rotary = evaluateNow x .rotary := by
    rw [startSequence_eq]
    exact evaluateInService_of_inService (.inr (.inr auto))
  rw [eq]
  have before : SameTracking s x := acted.frame.toSameTracking.trans
    ((started_frame u lock).trans (evaluateAxes_frame w _).toSameTracking)
  have turns := (evaluateAxes_frame w [.crowd, .hoist]).trans (evaluateNow_frame x .rotary)
  have last := evaluate_axis_same x .rotary false
  have strokes (p : JointsWithinStroke s) : JointsWithinStroke w := p.of_same
    ((started_frame u lock).tables.trans acted.frame.tables) ((started_frame u lock).joints.trans acted.frame.joints)
    ((started_frame u lock).extension.trans acted.frame.extension)
  have deliveries : DeliveriesKept s (evaluateNow x .rotary) :=
    (((DeliveriesKept.of_same (s := s) (t := w) acted.delivery).trans (evaluateAxes_deliveriesKept w [.crowd, .hoist])
      ((started_frame u lock).governor.trans acted.frame.governor)).trans (evaluate_deliveriesKept x .rotary false) before.governor)
  refine .of_started ?_ deliveries ?_ ?_ (fun e stored => ?_) (fun p => ?_) (fun b other => ?_)
  · exact turns.governor.trans ((started_frame u lock).governor.trans govern)
  · rw [turns.sequencer]
    exact started_running u lock
  · rw [evaluateNow, last]
    exact auto
  · have demand : ((evaluateNow x .rotary).axis .rotary).demand = some d := by
      rw [evaluateNow, last, record]
      exact acted.demand
    rw [← Option.some.inj (demand.symm.trans stored)]
    exact range
  · have creep : creepDemand (evaluateNow x .rotary) = creepDemand x :=
      creepDemand_congr (evaluateNow_frame x .rotary).sequencer (evaluateNow_frame x .rotary).tables
    rw [creep, show ((evaluateNow x .rotary).axis .rotary).governed = (evaluated x .rotary).1 by rw [evaluateNow, last]; rfl]
    exact (evaluated_sound (p.of_same before.tables before.joints before.extension) .rotary).auto auto
  · have member : b ∈ [Axis.crowd, .hoist] := by cases b <;> simp at other ⊢
    obtain ⟨turned, -⟩ := (evaluateAxes_evaluatedIn (by decide) member w).then_same (evaluateNow_same_at x other)
    have found : w.axis b = s.axis b := (started_same_at u lock other).axis.trans (acted.others b other)
    rw [turned]
    refine ⟨show (w.axis b).state = _ by rw [found], show (w.axis b).demand = _ by rw [found], fun out => evaluated_out (found ▸ out), fun p => ?_⟩
    exact evaluated_of_sequence (strokes p) (started_running u lock) other

/-! ## Every command (R122 to R125, R158) -/

/-- A command that ends the sequence hands ROTARY back with a demand. -/
theorem acted_aborted_drive {s u : State} {d e : Int} (acted : Acted s u .rotary d) (running : s.sequencer ≠ .idle)
    (range : -1000 ≤ e ∧ e ≤ 1000) (c : AbortCause) :
    DriveSafe (JointsWithinStroke s) s (evaluateInService (handBackState (abortSequence u c) e) .rotary) := by
  rw [evaluateInService_handBackState]
  have runs : u.sequencer ≠ .idle := by rw [acted.frame.sequencer]; exact running
  have frame := acted.frame.toSameTracking.trans (abortSequence_frame u c)
  refine handBack_drive running frame (abortSequence_of_running u c runs).1
    (fun b other => (abortSequence_at u c b).axis.trans (acted.others b other))
    ((DeliveriesKept.of_same acted.delivery).trans (abortSequence_deliveriesKept u c) acted.frame.governor) range fun p => ?_
  exact governedValue_within (p.of_same frame.tables frame.joints frame.extension) .rotary e

theorem acceptCommand_drive (s : State) (a : Axis) (pl : List Byte) :
    DriveSafe (JointsWithinStroke s) s (acceptCommand s a pl) := by
  have acted := recordCommand_acted s a pl
  have range := demandAfterDeadband_range s pl
  have plain := acted_evaluated_drive acted range (SameSequence.refl _) (fun _ => rfl) acted.delivery
  unfold acceptCommand commandEvaluation commandHandOff
  dsimp only
  generalize commandAction (recordCommand s a pl) a (demandAfterDeadband s pl) = u at acted plain ⊢
  generalize demandAfterDeadband s pl = d at acted range ⊢
  split
  · next told =>
    obtain ⟨rfl, -⟩ := told
    have zero : (-1000 : Int) ≤ 0 ∧ (0 : Int) ≤ 1000 := by decide
    have sequencer : u.sequencer = s.sequencer := acted.frame.sequencer
    unfold sequencerCommand
    split
    · split
      · split
        · exact acted_evaluated_drive acted range (report_frame u _ _ _) (fun _ => rfl) acted.delivery
        · next taken => exact started_evaluated_drive acted range (requestRefusal_none_govern taken) _
      · exact plain
    · next locking =>
      have running : s.sequencer ≠ .idle := by rw [← sequencer, locking]; decide
      split
      · exact acted_aborted_drive acted running range _
      split
      · exact acted_aborted_drive acted running zero _
      · exact plain
    · next releasing =>
      have running : s.sequencer ≠ .idle := by rw [← sequencer, releasing]; decide
      split
      · exact acted_aborted_drive acted running range _
      split
      · exact acted_aborted_drive acted running zero _
      · exact plain
  · exact plain

theorem countAxis_drive (P : Prop) (s : State) (a : Axis) (f : AxisCounters → AxisCounters) : DriveSafe P s (s.countAxis a f) :=
  .of_drive (State.countAxis_frame s a f).toKept ⟨rfl, rfl, rfl, rfl, rfl⟩

theorem takeCommand_drive (s : State) (a : Axis) (pl : List Byte) : DriveSafe (JointsWithinStroke s) s (takeCommand s a pl) := by
  unfold takeCommand
  split
  · exact countAxis_drive _ s a _
  split
  · exact countAxis_drive _ s a _
  · exact acceptCommand_drive s a pl

/-! ## The timers of an axis (R128) -/

/-- A change of one axis record that leaves state, G and demand. -/
theorem setAxis_drive {P : Prop} {s : State} {a : Axis} {r : AxisRecord} (same : (s.axis a).SameMotion r) :
    DriveSafe P s (s.setAxis a r) := by
  refine .of_same rfl rfl (.of_same rfl) (fun b => ?_) rfl
  by_cases eq : b = a
  · rw [eq, State.axis_setAxis_same]
    exact same
  · rw [State.axis_setAxis_other s a b r eq]
    exact .of_eq rfl

theorem operatorExpiry_drive (P : Prop) (s : State) (a : Axis) : DriveSafe P s (operatorExpiry s a) := by
  unfold operatorExpiry
  dsimp only
  split
  · next active =>
    have notAuto : (s.axis a).state ≠ .auto := by rw [active]; decide
    split
    · exact changeAxis_rest_drive ⟨.inl rfl, rfl⟩ (.inl rfl) notAuto
    · let r : AxisRecord := { s.axis a with freshness := none, state := .rampdown, ramp := some (Rig.rampPeriod s.tables.rig) }
      have record : (s.setAxis a r).axis a = r := State.axis_setAxis_same s a r
      have ramps : DriveSafe P s (s.setAxis a r) := by
        have others (b : Axis) (other : b ≠ a) := State.axis_setAxis_other s a b r other
        refine ⟨fun ⟨governed, out, idle, resting⟩ => ⟨fun b away => ?_, fun off b => ?_, idle, resting⟩,
          fun ⟨rotary, crowd, hoist⟩ => ?_, fun ranges b d stored => ?_, id, fun _ _ within b moving => ?_,
          fun _ _ only within => ?_⟩
        · by_cases same : b = a
          · rw [same, record] at away
            exact absurd (.inr rfl) away.not_moving
          · rw [others b same] at away ⊢
            exact governed b away
        · exact absurd (.inl active) (out off a).not_moving
        · cases a
          · refine ⟨iff_of_false AxisState.noConfusion ?_, crowd, hoist⟩
            exact fun running => notAuto (rotary.mpr running)
          · exact ⟨rotary, AxisState.noConfusion, hoist⟩
          · exact ⟨rotary, crowd, AxisState.noConfusion⟩
        · by_cases same : b = a
          · subst same
            rw [record] at stored
            exact ranges b d stored
          · rw [others b same] at stored
            exact ranges b d stored
        · by_cases same : b = a
          · subst same
            rw [record]
            exact within b (.inl active)
          · rw [others b same] at moving ⊢
            exact within b moving
        · have values (b : Axis) : ((s.setAxis a r).axis b).governed = (s.axis b).governed := by
            by_cases same : b = a
            · rw [same, record]
            · rw [others b same]
          obtain ⟨others, locking, releasing⟩ := within
          have rotary : (s.setAxis a r).axes.rotary.governed = s.axes.rotary.governed := values .rotary
          have crowd : (s.setAxis a r).axes.crowd.governed = s.axes.crowd.governed := values .crowd
          have hoist : (s.setAxis a r).axes.hoist.governed = s.axes.hoist.governed := values .hoist
          exact ⟨by rw [crowd, hoist]; exact others, by rw [rotary]; exact locking, by rw [rotary]; exact releasing⟩
      exact ramps.trans (report_drive True _ _ _ _) fun _ => trivial
  · exact setAxis_drive ⟨rfl, rfl, rfl⟩

end Sys2Proof.Machine
end

section
/-! Ramp steps, echoes and refreshes, entries into HOLD, STOPPED and BUS_OFF, and resets, as the drives see them. -/

namespace Sys2Proof.Machine

open Sys2Proof

/-! ## Ramp steps (R128) -/

theorem rampStepped_nearer {g step : Int} (nonneg : 0 ≤ step) : |rampStepped g step| ≤ |g| ∧ 0 ≤ rampStepped g step * g := by
  unfold rampStepped
  split
  · exact ⟨by rw [abs_zero]; exact abs_nonneg g, by rw [zero_mul]⟩
  · next above =>
    split
    · next below =>
      rw [abs_of_neg below] at above ⊢
      have low : g + step < 0 := by omega
      rw [abs_of_neg low]
      exact ⟨by omega, (mul_pos_of_neg_of_neg low below).le⟩
    · next notBelow =>
      rw [abs_of_nonneg (not_lt.mp notBelow)] at above ⊢
      have high : 0 < g - step := by omega
      rw [abs_of_pos high]
      exact ⟨by omega, mul_nonneg high.le (not_lt.mp notBelow)⟩

/-- A ramp step of an axis in RAMPDOWN is a sound move. -/
theorem rampStepped_sound {s : State} {a : Axis} (ramping : (s.axis a).state = .rampdown) {step : Int} (nonneg : 0 ≤ step) :
    MoveSound s a (rampStepped (s.axis a).governed step) := by
  obtain ⟨nearer, sign⟩ := rampStepped_nearer (g := (s.axis a).governed) nonneg
  refine ⟨fun out => absurd (.inr ramping) out.not_moving, fun _ d _ bound => bound.nearer nearer sign,
    fun _ _ still => ?_, fun auto => absurd (ramping.symm.trans auto) (by decide)⟩
  rw [still, rampStepped, if_pos (by rw [abs_zero]; exact nonneg)]

theorem rampExpiry_drive (P : Prop) (s : State) (a : Axis) : DriveSafe P s (rampExpiry s a) := by
  unfold rampExpiry
  dsimp only
  split
  · next ramping =>
    let r := (s.axis a).rampStep s.tables.rig
    let t := handOver (s.setAxis a r) a false
    have record (b : Axis) : t.axis b = (s.setAxis a r).axis b := handOver_same (s.setAxis a r) a b false
    have here : t.axis a = r := (record a).trans (State.axis_setAxis_same s a r)
    have frame := (s.setAxis_frame a r).trans (handOver_frame (s.setAxis a r) a false)
    have nonneg : 0 ≤ Rig.rampStep s.tables.rig := Int.natCast_nonneg _
    have stepped : DriveSafe P s t := .of_move frame.governor (congrArg Tables.bar frame.tables)
      ((DeliveriesKept.of_same (s := s) (t := s.setAxis a r) rfl).trans (handOver_deliveriesKept _ a false) rfl) frame.sequencer
      (fun b other => (record b).trans (State.axis_setAxis_other s a b r other)) (by rw [here]; rfl) (by rw [here]; rfl)
      (fun out => absurd (.inr ramping) out.not_moving) fun _ => by rw [here]; exact rampStepped_sound ramping nonneg
    have notAuto : (t.axis a).state ≠ .auto := by
      rw [here, show r.state = (s.axis a).state from rfl, ramping]
      decide
    split
    · exact stepped.trans (changeAxis_rest_drive (P := P) (s := t) (r := r.toNeutralFor .stale) ⟨.inl rfl, rfl⟩
        (.inl (by rw [here]; rfl)) notAuto) id
    · exact stepped
  · exact setAxis_drive ⟨rfl, rfl, rfl⟩

/-! ## Deliveries, echoes and refreshes (R142 to R148) -/

/-- A change of one delivery record that leaves it sound and at rest. -/
theorem setDelivery_drive {P : Prop} {s : State} {a : Axis} {d : DeliveryRecord} (sound : (s.delivery a).Sound → d.Sound)
    (resting : (s.delivery a).Resting → d.Resting) : DriveSafe P s (s.setDelivery a d) :=
  .of_same rfl rfl (.setDelivery s a sound fun _ => resting) (fun _ => ⟨rfl, rfl, rfl⟩) rfl

theorem transmitCompleteGoverned_drive (P : Prop) (s : State) (a : Axis) (n : Nat) :
    DriveSafe P s (transmitCompleteGoverned s a n) := by
  refine setDelivery_drive (fun sound => ?_) (fun rests => ?_) <;> unfold DeliveryRecord.sent <;> split
  · exact ⟨sound.sequence, sound.missStreak⟩
  · exact ⟨sound.sequence, sound.missStreak⟩
  · next latest => exact fun _ => rests (by rw [latest.1]; decide)
  · exact rests

theorem countDelivery_drive (P : Prop) (s : State) (a : Axis) (f : DeliveryCounters → DeliveryCounters) :
    DriveSafe P s (s.countDelivery a f) :=
  .of_drive (State.countDelivery_frame s a f).toKept ⟨rfl, rfl, rfl, rfl, rfl⟩

theorem capture_drive (P : Prop) (s : State) (k : FaultKind) (n : Nat) : DriveSafe P s (capture s k n) := by
  refine .of_drive (capture_frame s k n) ?_
  unfold capture
  split <;> exact ⟨rfl, rfl, rfl, rfl, rfl⟩

theorem driverFaulted_drive (P : Prop) (s : State) (a : Axis) (k : FaultKind) (c : ExitCause) :
    DriveSafe P s (driverFaulted s a k c) := (capture_drive P s k a.code).trans (enterFault_drive (P := P) _ a c) id

theorem matchEcho_drive (P : Prop) (s : State) (a : Axis) (pl : List Byte) : DriveSafe P s (matchEcho s a pl) := by
  have answered : DriveSafe P s (s.setDelivery a ((s.delivery a).answered pl)) :=
    setDelivery_drive (fun sound => ⟨sound.sequence, Nat.zero_le _⟩) fun _ idle => absurd rfl idle
  let u := if echoDriver pl = .neutral ∧ (s.delivery a).value ≠ 0 then
      (s.setDelivery a ((s.delivery a).answered pl)).countDelivery a (fun c => { c with driverNeutral := bump c.driverNeutral })
    else s.setDelivery a ((s.delivery a).answered pl)
  have counted : DriveSafe P s u := by
    show DriveSafe P s (ite _ _ _)
    split
    · exact answered.trans (countDelivery_drive P _ a _) id
    · exact answered
  show DriveSafe P s (if echoDriver pl = .fault then driverFaulted u a .driverFault .driverFault else u)
  split
  · exact counted.trans (driverFaulted_drive P _ a _ _) id
  · exact counted

theorem takeEcho_drive (P : Prop) (s : State) (a : Axis) (pl : List Byte) : DriveSafe P s (takeEcho s a pl) := by
  unfold takeEcho
  split
  · exact countDelivery_drive P s a _
  split
  · exact matchEcho_drive P s a pl
  · exact countDelivery_drive P s a _

theorem giveUp_drive (P : Prop) (s : State) (a : Axis) : DriveSafe P s (giveUp s a) := by
  have given : DriveSafe P s (s.setDelivery a (s.delivery a).givenUp) := by
    refine setDelivery_drive (fun sound => ⟨sound.sequence, ?_⟩) fun _ idle => absurd rfl idle
    show (if (s.delivery a).missStreak < 255 then (s.delivery a).missStreak + 1 else 255) ≤ 255
    split <;> omega
  have counted := given.trans (countDelivery_drive P _ a (fun c => { c with misses := bump c.misses })) id
  unfold giveUp
  dsimp only
  split
  · exact counted.trans (driverFaulted_drive P _ a _ _) id
  · exact counted

theorem echoExpiry_drive (P : Prop) (s : State) (a : Axis) : DriveSafe P s (echoExpiry s a) := by
  unfold echoExpiry
  dsimp only
  split
  · next awaits =>
    split
    · have retried : DriveSafe P s (s.setDelivery a (s.delivery a).retried) :=
        setDelivery_drive (fun sound => ⟨sound.sequence, sound.missStreak⟩) fun rests _ => rests (by rw [awaits]; decide)
      exact retried.trans (countDelivery_drive P _ a _) id
    · exact giveUp_drive P s a
  · exact setDelivery_drive (fun sound => ⟨sound.sequence, sound.missStreak⟩) fun rests => rests

theorem refreshExpiry_drive (s : State) (a : Axis) : DriveSafe (JointsWithinStroke s) s (refreshExpiry s a) := by
  have idle : DriveSafe (JointsWithinStroke s) s (s.setDelivery a { s.delivery a with refresh := none }) :=
    setDelivery_drive (fun sound => ⟨sound.sequence, sound.missStreak⟩) fun rests => rests
  exact idle.trans (evaluate_drive _ a true) fun within => within.of_same rfl rfl rfl

theorem loadRefresh_drive (P : Prop) (s : State) : DriveSafe P s (loadRefresh s) := by
  refine .of_same rfl rfl ⟨fun a sound => ?_, fun _ a rests => ?_⟩ (fun _ => ⟨rfl, rfl, rfl⟩) rfl
  · cases a <;> exact ⟨sound.sequence, sound.missStreak⟩
  · cases a <;> exact rests

theorem handOver_drive (P : Prop) (s : State) (a : Axis) (r : Bool) : DriveSafe P s (handOver s a r) := produce_drive P s a _ _ r

theorem deliveriesRecovered_drive (P : Prop) (s : State) : DriveSafe P s (deliveriesRecovered s) := by
  cases valid : s.tables.rig.valid
  · rw [deliveriesRecovered_of_invalid s valid]
  · rw [deliveriesRecovered_of_valid s valid]
    have two : DriveSafe P s (handOver (handOver s .rotary true) .crowd true) :=
      (handOver_drive P s .rotary true).trans (handOver_drive P (handOver s .rotary true) .crowd true) id
    exact two.trans (handOver_drive P (handOver (handOver s .rotary true) .crowd true) .hoist true) id

/-! ## Entries into HOLD, STOPPED and BUS_OFF (R25, R26, R131, R150) -/

theorem AxisState.service_cases (x : AxisState) : x.inService ∨ x.outOfService := by
  cases x
  · exact .inr (.inl rfl)
  · exact .inl (.inl rfl)
  · exact .inl (.inr (.inl rfl))
  · exact .inl (.inr (.inr rfl))
  · exact .inr (.inr rfl)

theorem neutralise_deliveriesKept (c : ExitCause) (s : State) (a : Axis) : DeliveriesKept s (neutralise c s a) := by
  rcases AxisState.service_cases (s.axis a).state with service | out
  · rw [neutralise_of_inService c s a service]
    exact changeAxis_deliveriesKept s a _
  · rw [neutralise_of_outOfService c s a out]

theorem neutraliseAll_deliveriesKept (s : State) (c : ExitCause) : DeliveriesKept s (neutraliseAll s c) :=
  ((neutralise_deliveriesKept c s .rotary).trans (neutralise_deliveriesKept c _ .crowd) (neutralise_frame c s .rotary).governor).trans
    (neutralise_deliveriesKept c _ .hoist)
    ((neutralise_frame c _ .crowd).governor.trans (neutralise_frame c s .rotary).governor)

theorem deliveriesBusOff_deliveriesKept (s : State) : DeliveriesKept s (deliveriesBusOff s) := by
  refine ⟨fun a sound => ?_, fun _ a _ => ?_⟩
  · cases a <;> exact ⟨sound.sequence, sound.missStreak⟩
  · cases a <;> exact fun idle => absurd rfl idle

/-- Machine port bus-off takes every axis to NEUTRAL and ends the sequence (R131, R160). -/
theorem machineBusOff_drive (P : Prop) (s : State) : DriveSafe P s (machineBusOff s) := by
  have governor : (machineBusOff s).governor = s.governor := (machineBusOff_frame s).governor
  have kept : DeliveriesKept s (machineBusOff s) :=
    ((deliveriesBusOff_deliveriesKept s).trans (neutraliseAll_deliveriesKept _ .busOff) rfl).trans
      (abortSequence_deliveriesKept _ .busOff) (neutraliseAll_frame (deliveriesBusOff s) .busOff).governor
  have axis (a : Axis) : (machineBusOff s).axis a = (s.axis a).toNeutralFor .busOff ∨
      ((s.axis a).state.outOfService ∧ (machineBusOff s).axis a = s.axis a) := by
    rcases AxisState.service_cases (s.axis a).state with service | out
    · exact .inl (machineBusOff_axis_of_inService s a service)
    · exact .inr ⟨out, machineBusOff_axis_of_outOfService s a out⟩
  refine .of_left (fun a => ?_) (fun n a => ?_) (machineBusOff_sequencer s).1 (fun ranges a d stored => ?_)
    (fun sound a => kept.sound a (sound a)) (fun n off a => kept.resting (governor ▸ off) a (n.deliveries (governor ▸ off) a))
  · rcases axis a with left | ⟨out, same⟩
    · rw [left]; exact .inl rfl
    · rw [same]; exact out
  · rcases axis a with left | ⟨out, same⟩
    · rw [left]; rfl
    · rw [same]; exact n.governed a out
  · rcases axis a with left | ⟨-, same⟩
    · rw [left] at stored; exact ranges a d stored
    · rw [same] at stored; exact ranges a d stored

/-- An entry into HOLD or STOPPED takes every axis, sequence and delivery out of service (R25, R26). -/
theorem LeftService.drive {P : Prop} {s u t : State} {exit : ExitCause} {abort : AbortCause} (left : LeftService u t exit abort)
    (axes : u.axes = s.axes) (deliveries : u.deliveries = s.deliveries) : DriveSafe P s t := by
  have axisU (a : Axis) : u.axis a = s.axis a := congrArg (fun x => x.get a) axes
  have deliveryU (a : Axis) : u.delivery a = s.delivery a := congrArg (fun x => x.get a) deliveries
  have delivery (a : Axis) : t.delivery a = (u.delivery a).renewed 0 .neutral ∨
      (t.delivery a = u.delivery a ∧ (u.delivery a).Resting) := by
    by_cases content : (u.delivery a).value = 0 ∧ (u.delivery a).mode = .neutral
    · exact .inr ⟨left.keptNeutral a content.1 content.2, fun _ => content⟩
    · have differs : (u.delivery a).value ≠ 0 ∨ (u.delivery a).mode ≠ .neutral := not_and_or.mp content
      by_cases pending : (u.delivery a).state ≠ .idle ∨ ((u.axis a).state.inService ∧ isBusOff u .machine = false)
      · exact .inl (left.neutralFrame a differs pending)
      · obtain ⟨idle, away⟩ := not_or.mp pending
        have still := not_not.mp idle
        refine .inr ⟨left.keptIdle a still ?_, fun h => absurd still h⟩
        rcases AxisState.service_cases (u.axis a).state with service | out
        · exact .inr (by simpa [service] using away)
        · exact .inl out
  refine .of_left (fun a => ?_) (fun n a => ?_) left.idle (fun ranges a d stored => ?_) (fun sound a => ?_) (fun _ _ a => ?_)
  · rcases AxisState.service_cases (u.axis a).state with service | out
    · rw [left.inService a service]; exact .inl rfl
    · rw [left.outOfService a out]; exact out
  · rcases AxisState.service_cases (u.axis a).state with service | out
    · rw [left.inService a service]
    · rw [left.outOfService a out, axisU]
      exact n.governed a (axisU a ▸ out)
  · rcases AxisState.service_cases (u.axis a).state with service | out
    · rw [left.inService a service] at stored
      exact ranges a d (axisU a ▸ stored)
    · rw [left.outOfService a out] at stored
      exact ranges a d (axisU a ▸ stored)
  · rcases delivery a with renewed | ⟨same, -⟩
    · rw [renewed]
      exact ⟨Nat.le_of_lt_succ (Nat.mod_lt _ (by decide)), by rw [deliveryU]; exact (sound a).missStreak⟩
    · rw [same, deliveryU]
      exact sound a
  · rcases delivery a with renewed | ⟨same, rests⟩
    · rw [renewed]
      exact fun _ => ⟨rfl, rfl⟩
    · rw [same]
      exact rests

theorem governorStop_drive (P : Prop) (s : State) (p : Port) (n : Nat) : DriveSafe P s (governorStop s p n) := by
  unfold governorStop
  split
  · exact .of_same rfl rfl (.of_same rfl) (fun _ => ⟨rfl, rfl, rfl⟩) rfl
  · exact (leaveService_rewrite_leftService _ .stop .stop).drive rfl rfl

theorem enterHold_drive (P : Prop) (s : State) : DriveSafe P s (enterHold s) :=
  (leaveService_rewrite_leftService _ .hold .hold).drive rfl rfl

/-- A change of governor state that enters GOVERN, or leaves STOPPED for HOLD (R23, R29). -/
theorem changeGovernor_drive {P : Prop} {s : State} {g : GovernorState} (c : GovernorDetail)
    (enters : g ≠ .govern → s.governor ≠ .govern) : DriveSafe P s (changeGovernor s g c) :=
  ⟨fun n => ⟨n.governed, fun off => n.axes (enters off), fun off => n.sequencer (enters off), fun off => n.deliveries (enters off)⟩,
    fun only => ⟨only.rotary, only.crowd, only.hoist⟩, id, id, fun _ _ => id,
    fun _ _ _ within => ⟨within.others, within.locking, within.releasing⟩⟩

theorem clearAxisFault_drive (P : Prop) (s : State) (a : Axis) : DriveSafe P s (clearAxisFault s a) := by
  unfold clearAxisFault
  split
  · next fault => exact changeAxis_rest_drive ⟨.inl rfl, rfl⟩ (.inl rfl) (by rw [fault]; decide)
  all_goals rfl

theorem emptyFaults_drive (P : Prop) (s : State) : DriveSafe P s (emptyFaults s) := by
  refine .of_same rfl rfl ⟨fun a sound => ?_, fun _ a rests => ?_⟩ (fun a => ?_) rfl
  · cases a <;> exact ⟨sound.sequence, Nat.zero_le _⟩
  · cases a <;> exact rests
  · cases a <;> exact ⟨rfl, rfl, rfl⟩

/-! ## Resets (R1, R19) -/

/-- After a reset every axis is in NEUTRAL at 0 and every delivery idle. -/
theorem reset_drive (P : Prop) (s : State) {t : State} (axes : t.axes = State.reset.axes)
    (deliveries : ∀ a, (t.delivery a).state = .idle ∧ (t.delivery a).Sound) (sequencer : t.sequencer = .idle) :
    DriveSafe P s t := by
  have axis (a : Axis) : t.axis a = State.reset.axis a := congrArg (fun x => x.get a) axes
  refine .of_left (fun a => ?_) (fun _ a => ?_) sequencer (fun _ a d stored => ?_) (fun _ a => (deliveries a).2)
    (fun _ _ a pending => absurd (deliveries a).1 pending)
  · rw [axis]; cases a <;> exact .inl rfl
  · rw [axis]; cases a <;> rfl
  · rw [axis] at stored
    cases a <;> cases stored

end Sys2Proof.Machine
end

section
/-! Joints within their strokes under allocations, divisions, lock and release events, and resets (R51, R65, R69, R71, R72, R78). -/

namespace Sys2Proof.Machine

open Sys2Proof

/-! ## A consistent bar before the division -/

/-- A joint record holds its locked row, if any, and no other joint has one (R72, R78). -/
structure LockOk (ts : Tables) (j : Nat) (r : Joint) : Prop where
  locked : r.lock = .locked → ∃ k, r.lockedRow = some k ∧ k < Bar.rows ts.bar j ∧ r.offset = rowPosition ts j k
  noRow  : r.lock ≠ .locked → r.lockedRow = none

/-- The tables in force and the number and locks of the joints are consistent; offsets and nearest rows are not yet settled. -/
structure BarConsistent (s : State) : Prop where
  count   : s.joints.length = if s.tables.bar.valid then (Bar.joints s.tables.bar).length else 0
  locks   : ∀ i r, s.joints[i]? = some r → LockOk s.tables (i + 1) r
  windows : s.tables.bar.valid = true → ∀ j ∈ Bar.joints s.tables.bar, rowsInStroke s.tables j = true
  present : s.tables.bar.valid = true → ∀ j ∈ Bar.joints s.tables.bar, s.tables.bar.present j = true
  rows    : ∀ j, 1 ≤ j → s.tables.bar.present j = true → 1 ≤ Bar.rows s.tables.bar j

theorem JointsWithinStroke.consistent {s : State} (within : JointsWithinStroke s) : BarConsistent s :=
  ⟨within.count, fun _ _ found => ⟨(within.joint found).locked, (within.joint found).noRow⟩, within.windows, within.present,
    within.rows⟩

theorem BarConsistent.used {s : State} (bar : BarConsistent s) {i : Nat} (inside : i < s.joints.length) :
    s.tables.bar.valid = true ∧ i + 1 ∈ Bar.joints s.tables.bar := by
  rw [bar.count] at inside
  split at inside
  · next valid =>
    refine ⟨valid, (mem_joints _ _).mpr ?_⟩
    simp only [Bar.joints, List.length_map, List.length_range] at inside
    omega
  · exact absurd inside (Nat.not_lt_zero i)

theorem BarConsistent.rowsOf {s : State} (bar : BarConsistent s) {i : Nat} (inside : i < s.joints.length) :
    1 ≤ Bar.rows s.tables.bar (i + 1) ∧ ∀ k < Bar.rows s.tables.bar (i + 1),
      0 ≤ rowPosition s.tables (i + 1) k ∧ rowPosition s.tables (i + 1) k ≤ Bar.stroke s.tables.bar (i + 1) := by
  obtain ⟨valid, used⟩ := bar.used inside
  refine ⟨bar.rows (i + 1) (by omega) (bar.present valid _ used), fun k under => ?_⟩
  have window := bar.windows valid _ used
  simp only [rowsInStroke, List.all_eq_true, List.mem_range, Bool.and_eq_true, decide_eq_true_eq] at window
  exact window k under

/-- Joints realigned on a consistent bar lie within their strokes, where their offsets do, and sum to the extension. -/
theorem BarConsistent.within {s t : State} (bar : BarConsistent s) (tables : t.tables = s.tables)
    (length : t.joints.length = s.joints.length)
    (sum : s.tables.bar.valid = true → t.extension = (t.joints.map Joint.offset).sum)
    (each : ∀ i r, t.joints[i]? = some r → (0 ≤ r.offset ∧ r.offset ≤ Bar.stroke s.tables.bar (i + 1)) ∧
      r.nearest = nearestRow s.tables (i + 1) r.offset ∧ LockOk s.tables (i + 1) r) : JointsWithinStroke t := by
  have ok (p : Nat × Joint) (member : p ∈ numbered t.joints) : JointOk s.tables p.1 p.2 := by
    obtain ⟨i, found, number⟩ := (mem_numbered _ _).mp member
    obtain ⟨offset, nearest, locks⟩ := each i p.2 found
    have inside : i < s.joints.length := length ▸ (List.getElem?_eq_some_iff.mp found).1
    rw [number]
    exact ⟨offset, by rw [nearest]; exact nearestRow_lt (bar.rowsOf inside).1 _, locks.locked, locks.noRow⟩
  exact {
    count := by rw [tables]; exact length.trans bar.count
    sum := by rw [tables]; exact sum
    offset := by rw [tables]; exact fun p member => (ok p member).offset
    nearest := by rw [tables]; exact fun p member => (ok p member).nearest
    locked := by rw [tables]; exact fun p member => (ok p member).locked
    noRow := fun p member => (ok p member).noRow
    windows := by rw [tables]; exact bar.windows
    present := by rw [tables]; exact bar.present
    rows := by rw [tables]; exact bar.rows }

/-- A LOCKED joint of a consistent bar stands within its stroke. -/
theorem BarConsistent.lockedOffset {s : State} (bar : BarConsistent s) {i : Nat} {r : Joint} (inside : i < s.joints.length)
    (ok : LockOk s.tables (i + 1) r) (locked : r.lock = .locked) : 0 ≤ r.offset ∧ r.offset ≤ Bar.stroke s.tables.bar (i + 1) := by
  obtain ⟨k, -, under, stands⟩ := ok.locked locked
  rw [stands]
  exact (bar.rowsOf inside).2 k under

/-- A joint given its part of the free extension stands within its stroke, its lock as it was. -/
theorem BarConsistent.given {s : State} (bar : BarConsistent s) {i : Nat} {r : Joint} (inside : i < s.joints.length)
    (ok : LockOk s.tables (i + 1) r) (left : Int) :
    let g := Joint.given s.tables.bar left (i + 1, r)
    (0 ≤ g.offset ∧ g.offset ≤ Bar.stroke s.tables.bar (i + 1)) ∧ LockOk s.tables (i + 1) g := by
  intro g
  unfold g Joint.given
  dsimp only
  split
  · next locked => exact ⟨bar.lockedOffset inside ok locked, ok⟩
  · next apart => exact ⟨clamp_bounds (stroke_nonneg _ _) left, fun locked => absurd locked apart, fun _ => ok.noRow apart⟩

/-! ## Allocations and divisions -/

theorem jointsAtSlip_locks {s : State} (bar : BarConsistent s) {i : Nat} {r : Joint} (found : (jointsAtSlip s)[i]? = some r) :
    i < s.joints.length ∧ LockOk s.tables (i + 1) r := by
  have inside : i < s.joints.length := jointsAtSlip_length s ▸ (List.getElem?_eq_some_iff.mp found).1
  refine ⟨inside, ?_⟩
  unfold jointsAtSlip at found
  split at found
  · rw [List.getElem?_map, Option.map_eq_some_iff] at found
    obtain ⟨old, before, rfl⟩ := found
    have ok := bar.locks i old before
    unfold Joint.slipped
    split
    · exact ⟨fun locked => LockState.noConfusion locked, fun _ => rfl⟩
    · exact ok
  · exact bar.locks i r found

theorem settledJoint_ok {s : State} (bar : BarConsistent s) {i : Nat} {r : Joint} (found : (jointsAtSlip s)[i]? = some r) :
    (0 ≤ (settledJoint s i r).offset ∧ (settledJoint s i r).offset ≤ Bar.stroke s.tables.bar (i + 1)) ∧
      LockOk s.tables (i + 1) (settledJoint s i r) := by
  obtain ⟨inside, ok⟩ := jointsAtSlip_locks bar found
  have given := bar.given inside ok (givenAtSlip s - beyondStroke s.tables.bar (jointsAtSlip s) i)
  unfold settledJoint
  dsimp only
  split
  · exact ⟨⟨le_rfl, stroke_nonneg _ _⟩, fun locked => LockState.noConfusion locked, fun _ => rfl⟩
  · exact given

/-- Nearest row and flag recomputed follow the offset and leave the lock. -/
theorem realigned_ok {ts : Tables} {j : Nat} {r : Joint}
    (ok : (0 ≤ r.offset ∧ r.offset ≤ Bar.stroke ts.bar j) ∧ LockOk ts j r) :
    (0 ≤ (r.realigned ts j).offset ∧ (r.realigned ts j).offset ≤ Bar.stroke ts.bar j) ∧
    (r.realigned ts j).nearest = nearestRow ts j (r.realigned ts j).offset ∧ LockOk ts j (r.realigned ts j) :=
  ⟨ok.1, rfl, ok.2.locked, ok.2.noRow⟩

/-- An allocation leaves the joints of a consistent bar within their strokes (R64, R65, R67). -/
theorem allocate_within {s : State} (bar : BarConsistent s) : JointsWithinStroke (allocate s) := by
  refine bar.within (allocate_kelly s).tables (allocate_length s) (fun _ => (allocate_sum s).symm) (fun i t found => ?_)
  rw [allocate_joint, Option.map_eq_some_iff] at found
  obtain ⟨r, before, rfl⟩ := found
  exact realigned_ok (settledJoint_ok bar before)

theorem freeStroke_of_open {s : State} (bar : BarConsistent s) (valid : s.tables.bar.valid = true)
    (apart : ∀ r ∈ s.joints, r.lock ≠ .locked) :
    freeStroke s.tables.bar s.joints = totalStroke s.tables.bar ∧ lockedSum s.joints = 0 := by
  have length : s.joints.length = min (Bar.sections s.tables.bar - 1) 4 := by
    rw [bar.count, if_pos valid, Bar.joints, List.length_map, List.length_range]
  constructor
  · rw [freeStroke_eq, roomAt_eq, totalStroke, Bar.joints, List.map_map, length]
    refine congrArg List.sum (List.map_congr_left fun i member => ?_)
    have inside : i < s.joints.length := length ▸ List.mem_range.mp member
    exact roomAt_of_open (List.getElem?_eq_getElem inside) (apart _ (List.getElem_mem inside))
  · rw [lockedSum_eq]
    exact List.sum_eq_zero fun _ member => by
      obtain ⟨r, inside, rfl⟩ := List.mem_map.mp member
      exact if_neg (apart r inside)

/-- The division of R69 in HELD leaves the joints within their strokes. -/
theorem divideHeld_within {s : State} (bar : BarConsistent s) (apart : ∀ r ∈ s.joints, r.lock ≠ .locked) :
    JointsWithinStroke (divideHeld s) := by
  let e := clamp 0 (totalStroke s.tables.bar) s.extension
  let u : State := { s with extension := e, joints := divideExtension s.tables.bar e s.joints }
  have total : 0 ≤ totalStroke s.tables.bar := List.sum_nonneg fun _ member => by
    obtain ⟨j, -, rfl⟩ := List.mem_map.mp member
    exact stroke_nonneg _ j
  obtain ⟨low, high⟩ := clamp_bounds total s.extension
  refine bar.within (t := realign u) rfl ?_ (fun valid => ?_) (fun i t found => ?_)
  · rw [realign_length]
    exact divideExtension_length _ low _
  · obtain ⟨free, held⟩ := freeStroke_of_open bar valid apart
    rw [realign_offsets]
    show e = ((divideExtension s.tables.bar e s.joints).map Joint.offset).sum
    rw [divideExtension_sum _ low _ (by rw [free]; exact high), held, zero_add]
  · rw [realign_joint, Option.map_eq_some_iff] at found
    obtain ⟨r, moved, rfl⟩ := found
    rw [show u.joints = divideExtension s.tables.bar e s.joints from rfl, divideExtension_getElem? _ low,
      Option.map_eq_some_iff] at moved
    obtain ⟨old, before, rfl⟩ := moved
    have inside : i < s.joints.length := (List.getElem?_eq_some_iff.mp before).1
    obtain ⟨offset, locks⟩ := bar.given inside (bar.locks i old before) (e - beyondStroke s.tables.bar s.joints i)
    exact ⟨offset, rfl, locks.locked, locks.noRow⟩

/-! ## Lock and release events -/

/-- A lock event sets joints at rows of theirs (R78). -/
theorem jointsLocked_within {s : State} (within : JointsWithinStroke s) : JointsWithinStroke (jointsLocked s) := by
  refine within.consistent.within (jointsLocked_frame s).tables (jointsLocked_length s) (fun _ => jointsLocked_sum s)
    (fun i t found => ?_)
  rw [jointsLocked_joint, Option.map_eq_some_iff] at found
  obtain ⟨r, before, rfl⟩ := found
  obtain ⟨offset, nearest, locked, noRow⟩ := within.joint before
  have rows := (within.rowsOf before).2
  unfold Joint.snapped
  split
  · exact ⟨rows _ nearest, rfl, fun _ => ⟨_, rfl, nearest, rfl⟩, fun apart => absurd rfl apart⟩
  · exact ⟨offset, rfl, locked, noRow⟩

theorem jointsFreed_within {s : State} (within : JointsWithinStroke s) : JointsWithinStroke (jointsFreed s) := by
  refine within.consistent.within (jointsFreed_frame s).tables (jointsFreed_length s) (fun valid => ?_) (fun i t found => ?_)
  · have offsets : (jointsFreed s).joints.map Joint.offset = s.joints.map Joint.offset := by
      refine List.ext_getElem? fun i => ?_
      rw [List.getElem?_map, List.getElem?_map, jointsFreed_joint, Option.map_map]
      rfl
    rw [(jointsFreed_frame s).extension, offsets]
    exact within.sum valid
  · rw [jointsFreed_joint, Option.map_eq_some_iff] at found
    obtain ⟨r, before, rfl⟩ := found
    exact ⟨(within.joint before).offset, rfl, fun locked => LockState.noConfusion locked, fun _ => rfl⟩

/-- After a warm reset every joint is UNKNOWN at its offset (R71). -/
theorem warmReset_within {s t : State} (within : JointsWithinStroke s) (tables : t.tables = s.tables)
    (joints : t.joints = jointsAfterWarmReset s.tables s.joints) (extension : t.extension = s.extension) :
    JointsWithinStroke t := by
  have joint (i : Nat) : t.joints[i]? = s.joints[i]?.map (fun r => (r.withLock .unknown).realigned s.tables (i + 1)) := by
    rw [joints]
    exact getElem?_map_numbered s.joints _ i
  refine within.consistent.within tables ?_ (fun valid => ?_) (fun i r found => ?_)
  · rw [joints, jointsAfterWarmReset, List.length_map, length_numbered]
  · have offsets : t.joints.map Joint.offset = s.joints.map Joint.offset := by
      refine List.ext_getElem? fun i => ?_
      rw [List.getElem?_map, List.getElem?_map, joint, Option.map_map]
      rfl
    rw [extension, offsets]
    exact within.sum valid
  · rw [joint, Option.map_eq_some_iff] at found
    obtain ⟨old, before, rfl⟩ := found
    exact ⟨(within.joint before).offset, rfl, fun locked => LockState.noConfusion locked, fun _ => rfl⟩

end Sys2Proof.Machine
end

section
/-! The tracking blocks keep the registers in range, the backoff at its floor, the joints within their strokes, and the drives
safe. -/

namespace Sys2Proof.Machine

open Sys2Proof

/-! ## Registers -/

/-- The registers in range, apart from demands and deliveries and from the floor in force (R14, R73, R100, R114, R168, R177). -/
structure PlainRanges (s : State) : Prop where
  keyTravel  : -3600 ≤ s.keyTravel ∧ s.keyTravel ≤ 3600
  rxErrors   : ∀ p, (s.port p).rxErrors ≤ 255
  machine    : ∀ r, s.machineFault = some r → r.lost ≤ 255
  bar        : ∀ r, s.barFault = some r → r.lost ≤ 255
  backoff    : 0 ≤ s.backoff ∧ s.backoff ≤ 1000
  backoffRow : s.tables.rig.present 6 = true → 100 ≤ Rig.backoffFloor s.tables.rig ∧
    Rig.backoffFloor s.tables.rig ≤ Rig.backoffLevel s.tables.rig ∧ Rig.backoffLevel s.tables.rig ≤ 900

/-- A valid rig profile has row 6, and the backoff factor is at its floor or above (R114, R116). -/
def FloorHolds (s : State) : Prop :=
  s.tables.rig.valid = true → s.tables.rig.present 6 = true ∧ Rig.backoffFloor s.tables.rig ≤ s.backoff

theorem registersInRange_iff (s : State) : RegistersInRange s ↔
    PlainRanges s ∧ FloorHolds s ∧ DemandsInRange s ∧ ∀ a, (s.delivery a).Sound :=
  ⟨fun r => ⟨⟨r.keyTravel, r.rxErrors, r.machine, r.bar, r.backoff, r.backoffRow⟩, r.inForce, r.demand,
    fun a => ⟨r.sequence a, r.missStreak a⟩⟩,
   fun ⟨p, f, d, k⟩ => ⟨p.keyTravel, d, fun a => (k a).sequence, fun a => (k a).missStreak, p.rxErrors, p.machine, p.bar, p.backoff,
    p.backoffRow, f⟩⟩

/-- What a change keeps of registers and joints. -/
structure TrackSafe (s t : State) : Prop where
  plain  : PlainRanges s → PlainRanges t
  floor  : PlainRanges s → FloorHolds s → FloorHolds t
  joints : JointsWithinStroke s → JointsWithinStroke t

@[refl] theorem TrackSafe.refl (s : State) : TrackSafe s s := ⟨id, fun _ => id, id⟩

theorem TrackSafe.trans {s t u : State} (h : TrackSafe s t) (k : TrackSafe t u) : TrackSafe s u :=
  ⟨fun p => k.plain (h.plain p), fun p f => k.floor (h.plain p) (h.floor p f), fun w => k.joints (h.joints w)⟩

/-- A change keeps the part safe: the drives, where the joints lie within their strokes, and the registers and joints. -/
structure Safe (s t : State) : Prop where
  drive : DriveSafe (JointsWithinStroke s) s t
  track : TrackSafe s t

@[refl] theorem Safe.refl (s : State) : Safe s s := ⟨.refl s, .refl s⟩

theorem Safe.trans {s t u : State} (h : Safe s t) (k : Safe t u) : Safe s u :=
  ⟨h.drive.trans k.drive h.track.joints, h.track.trans k.track⟩

/-- The counts of a record offered a fault stop at 255 (R177). -/
def LostInRange (r : Option FaultRecord) : Prop := ∀ f, r = some f → f.lost ≤ 255

theorem LostInRange.offer {r : Option FaultRecord} (h : LostInRange r) {fresh : FaultRecord} (none : fresh.lost = 0) :
    LostInRange (FaultRecord.offer r fresh) := by
  intro f filled
  cases r with
  | none =>
    rw [← Option.some.inj filled, none]
    exact Nat.zero_le _
  | some old =>
    rw [← Option.some.inj filled]
    show (if old.lost < 255 then old.lost + 1 else 255) ≤ 255
    split <;> omega

/-- Tables and bar stay; key travel, counts, fault records and backoff stay in range, and the backoff at its floor. -/
theorem TrackSafe.of_parts {s t : State} (tables : t.tables = s.tables) (joints : JointsWithinStroke s → JointsWithinStroke t)
    (keyTravel : -3600 ≤ s.keyTravel ∧ s.keyTravel ≤ 3600 → -3600 ≤ t.keyTravel ∧ t.keyTravel ≤ 3600)
    (rxErrors : ∀ p, (s.port p).rxErrors ≤ 255 → (t.port p).rxErrors ≤ 255)
    (machine : LostInRange s.machineFault → LostInRange t.machineFault) (bar : LostInRange s.barFault → LostInRange t.barFault)
    (backoff : PlainRanges s → (0 ≤ t.backoff ∧ t.backoff ≤ 1000) ∧
      (FloorHolds s → s.tables.rig.valid = true → Rig.backoffFloor s.tables.rig ≤ t.backoff)) : TrackSafe s t where
  plain := fun r => ⟨keyTravel r.keyTravel, fun p => rxErrors p (r.rxErrors p), machine r.machine, bar r.bar, (backoff r).1,
    by rw [tables]; exact r.backoffRow⟩
  floor := fun r f => by
    unfold FloorHolds
    rw [tables]
    exact fun valid => ⟨(f valid).1, (backoff r).2 f valid⟩
  joints := joints

/-- The parts of the tracking blocks stay but for key travel, the joints and the fault records. -/
theorem TrackSafe.of_kept {s t : State} (frame : Kept s t) (joints : JointsWithinStroke s → JointsWithinStroke t)
    (keyTravel : -3600 ≤ s.keyTravel ∧ s.keyTravel ≤ 3600 → -3600 ≤ t.keyTravel ∧ t.keyTravel ≤ 3600)
    (machine : LostInRange s.machineFault → LostInRange t.machineFault) (bar : LostInRange s.barFault → LostInRange t.barFault)
    (backoff : t.backoff = s.backoff) : TrackSafe s t :=
  .of_parts frame.tables joints keyTravel (fun p => by simp only [State.port, frame.ports]; exact id) machine bar
    fun r => by rw [backoff]; exact ⟨r.backoff, fun f valid => (f valid).2⟩

theorem TrackSafe.of_tracking {s t : State} (frame : SameTracking s t) : TrackSafe s t :=
  .of_kept frame.toKept (fun w => w.of_same frame.tables frame.joints frame.extension) (by rw [frame.keyTravel]; exact id)
    (by rw [frame.machineFault]; exact id) (by rw [frame.barFault]; exact id) frame.backoff

/-- Nothing of registers, bar and tables changes. -/
theorem TrackSafe.of_same {s t : State} (tables : t.tables = s.tables) (joints : t.joints = s.joints)
    (extension : t.extension = s.extension) (keyTravel : t.keyTravel = s.keyTravel)
    (rxErrors : ∀ p, (s.port p).rxErrors ≤ 255 → (t.port p).rxErrors ≤ 255) (machine : t.machineFault = s.machineFault)
    (bar : t.barFault = s.barFault) (backoff : t.backoff = s.backoff) : TrackSafe s t :=
  .of_parts tables (fun w => w.of_same tables joints extension) (by rw [keyTravel]; exact id) rxErrors (by rw [machine]; exact id)
    (by rw [bar]; exact id) fun r => by rw [backoff]; exact ⟨r.backoff, fun f valid => (f valid).2⟩

/-- An operation of the drives alone. -/
theorem Safe.of_tracking {s t : State} (drive : DriveSafe (JointsWithinStroke s) s t) (frame : SameTracking s t) : Safe s t :=
  ⟨drive, .of_tracking frame⟩

/-- An operation that leaves the drives alone. -/
theorem Safe.of_drive {s t : State} (frame : Kept s t) (drive : SameDrive s t) (track : TrackSafe s t) : Safe s t :=
  ⟨.of_drive frame drive, track⟩

theorem report_safe (s : State) (k : EventKind) (i : Nat) (d : Int) : Safe s (report s k i d) :=
  .of_tracking (report_drive _ s k i d) (report_frame s k i d).toSameTracking

theorem capture_lost (s : State) (k : FaultKind) (n : Nat) : (LostInRange s.machineFault → LostInRange (capture s k n).machineFault) ∧
    (LostInRange s.barFault → LostInRange (capture s k n).barFault) := by
  unfold capture
  dsimp only
  split
  · exact ⟨fun h => h.offer rfl, id⟩
  · exact ⟨id, fun h => h.offer rfl⟩

theorem capture_safe (s : State) (k : FaultKind) (n : Nat) : Safe s (capture s k n) := by
  obtain ⟨machine, bar⟩ := capture_lost s k n
  exact ⟨capture_drive _ s k n, .of_kept (capture_frame s k n) (fun w => w.of_same rfl rfl rfl) id machine bar rfl⟩

/-! ## Allocations (R61 to R68) -/

theorem slipRecorded_drives (P : Prop) (s : State) (deficit : Int) : DriveSafe P s (slipRecorded s deficit) :=
  .of_drive (slipRecorded_frame s deficit).toKept (slipRecorded_drive s deficit)

theorem slipStep_drives (P : Prop) (s : State) : DriveSafe P s (slipStep s) := by
  by_cases slips : Slips s
  · rw [slipStep_of_slips slips, lockSlip_eq]
    have entered := enterFault_enteredFault (slipRecorded s (- freeExtension s)) .crowd .lockSlip
    have fault : ((enterFault (slipRecorded s (- freeExtension s)) .crowd .lockSlip).axis .crowd).state = .fault := by
      by_cases already : ((slipRecorded s (- freeExtension s)).axis .crowd).state = .fault
      · rw [entered.already already]; exact already
      · rw [entered.entered already]
    exact ((slipRecorded_drives P s _).trans (enterFault_drive (P := P) _ .crowd .lockSlip) id).trans
      (evaluateNow_drive_of_zero (P := P) (evaluated_out (.inr fault))) id
  · rw [slipStep_of_held slips]

theorem alignmentStep_drives (P : Prop) (before : List Bool) (s : State) : DriveSafe P s (alignmentStep before s) := by
  have aligned : DriveSafe P s (alignedState before s) := .of_drive (alignedState_kelly before s).toKept (alignedState_drive before s)
  by_cases lost : LosesSet before s
  · rw [alignmentStep_of_lost lost]
    exact aligned.trans (abortAndHandBack_drive P _ _) id
  · rw [alignmentStep_of_kept lost]
    exact aligned

theorem retractionStep_drives (P : Prop) (s : State) : DriveSafe P s (retractionStep s) := by
  by_cases closes : Closes s
  · rw [retractionStep_of_closes closes]
    exact (DriveSafe.of_drive (P := P) (retractedState_kelly s).toKept (retractedState_drive s)).trans
      (sequencerReleaseEvent_drive P _ _) id
  · rw [retractionStep_of_open closes]

/-- An allocation keeps the drives safe whatever the bar is: what it evaluates is at 0. -/
theorem allocate_drives (P : Prop) (s : State) : DriveSafe P s (allocate s) := by
  have decided : DriveSafe P s (decideMismatch (slipStep s)) := (slipStep_drives P s).trans
    (DriveSafe.of_drive (P := P) (decideMismatch_kelly _).toKept (decideMismatch_drive _)) id
  have divided : DriveSafe P s (dividedState s) := decided.trans
    (DriveSafe.of_drive (P := P) (divideStep_kelly _).toKept (divideStep_drive _)) id
  rw [allocate_eq]
  exact (divided.trans (retractionStep_drives P _) id).trans (alignmentStep_drives P _ _) id

theorem slipStep_barFault_lost {s : State} (h : LostInRange s.barFault) : LostInRange (slipStep s).barFault := by
  rw [(slipStep_fields s).2.2.2.2]
  split
  · exact h.offer rfl
  · exact h

theorem decideMismatch_lost {s : State} (h : LostInRange s.barFault) : LostInRange (decideMismatch s).barFault := by
  cases now : (rangeFails s || overExtended s) <;> cases before : s.mismatch
  · rw [(decideMismatch_kept (now.trans before.symm)).2]; exact h
  · rw [(decideMismatch_left now before).2]; exact h
  · rw [(decideMismatch_entered now before).2]; exact h.offer rfl
  · rw [(decideMismatch_kept (now.trans before.symm)).2]; exact h

/-- The registers under an allocation, the joints settled from a consistent bar. -/
theorem allocate_track {s : State} (joints : JointsWithinStroke s → JointsWithinStroke (allocate s)) : TrackSafe s (allocate s) := by
  have frame := allocate_kelly s
  refine .of_kept frame.toKept joints (fun range => ?_) (by rw [frame.machineFault]; exact id) (fun lost => ?_) frame.backoff
  · rw [allocate_keyTravel]
    split
    · exact ⟨by decide, by decide⟩
    · exact range
  · rw [allocate_barFault]
    exact decideMismatch_lost (slipStep_barFault_lost lost)

theorem allocate_safe (s : State) : Safe s (allocate s) :=
  ⟨allocate_drives _ s, allocate_track fun within => allocate_within within.consistent⟩

theorem allocateIfTracking_safe (s : State) : Safe s (allocateIfTracking s) := by
  unfold allocateIfTracking
  split
  · exact allocate_safe s
  · rfl

/-- One assignment to the tool depth, the angle reference, the band, the stall timer, or the sample records. -/
theorem tracking_safe {s t : State} (frame : Kept s t) (drive : SameDrive s t) (joints : t.joints = s.joints)
    (extension : t.extension = s.extension) (keyTravel : t.keyTravel = s.keyTravel) (machine : t.machineFault = s.machineFault)
    (bar : t.barFault = s.barFault) (backoff : t.backoff = s.backoff) : Safe s t :=
  .of_drive frame drive (.of_same frame.tables joints extension keyTravel
    (fun p => by simp only [State.port, frame.ports]; exact id) machine bar backoff)

theorem kellyPayout_safe (s : State) : Safe s (kellyPayout s) := by
  unfold kellyPayout
  split
  · have held : Safe s { s with depthHeld := some (toolDepth s) } :=
      tracking_safe (kept_mk s s.joints s.extension s.mismatch _ s.keyTravel s.angleRef s.band s.backoff s.stallTimer s.recoveryTimer)
        ⟨rfl, rfl, rfl, rfl, rfl⟩ rfl rfl rfl rfl rfl rfl
    exact held.trans (allocateIfTracking_safe _)
  · exact allocateIfTracking_safe s

/-! ## Lock and release events (R78 to R81) -/

theorem jointsLocked_safe (s : State) : Safe s (jointsLocked s) := by
  have frame := jointsLocked_frame s
  obtain ⟨axes, deliveries⟩ := reportLocked_axes s (numbered s.joints)
  have kept : Kept s (jointsLocked s) := { frame.toKept with pending := frame.pending }
  have turned : (jointsLocked s).keyTravel = 0 := frame.keyTravel
  refine .of_drive kept ⟨axes, deliveries, frame.sequencer, frame.sequenceTimer, frame.aborts⟩
    (.of_kept kept jointsLocked_within (fun _ => ?_) (by rw [frame.machineFault]; exact id) (by rw [frame.barFault]; exact id)
      frame.backoff)
  rw [turned]
  exact ⟨by decide, by decide⟩

theorem lockEvent_safe (s : State) : Safe s (lockEvent s) := by
  rw [lockEvent_eq]
  exact (jointsLocked_safe s).trans
    (.of_tracking (sequencerLockEvent_drive _ _ _) (sequencerLockEvent_frame _ _))

theorem jointsFreed_safe (s : State) : Safe s (jointsFreed s) := by
  have frame := jointsFreed_frame s
  have kept : Kept s (jointsFreed s) := { frame.toKept with pending := frame.pending }
  have turned : (jointsFreed s).keyTravel = 0 := frame.keyTravel
  refine .of_drive kept ⟨rfl, rfl, frame.sequencer, frame.sequenceTimer, frame.aborts⟩
    (.of_kept kept jointsFreed_within (fun _ => ?_) (by rw [frame.machineFault]; exact id) (by rw [frame.barFault]; exact id)
      frame.backoff)
  rw [turned]
  exact ⟨by decide, by decide⟩

theorem evaluateNow_safe (s : State) (a : Axis) : Safe s (evaluateNow s a) :=
  .of_tracking (evaluateNow_drive s a) (evaluateNow_frame s a).toSameTracking

theorem sequencerReleaseEvent_safe (s : State) (n : Nat) : Safe s (sequencerReleaseEvent s n) :=
  .of_tracking (sequencerReleaseEvent_drive _ s n) (sequencerReleaseEvent_frame s n)

theorem madeChoices_safe (s : State) (n : Nat) : Safe s (madeChoices s n) :=
  tracking_safe (madeChoices_frame s n) ⟨rfl, rfl, rfl, rfl, rfl⟩ rfl rfl rfl rfl rfl rfl

theorem handOffRelease_safe (s : State) (n : Nat) : Safe s (handOffRelease s n) := by
  unfold handOffRelease
  split
  · split
    · exact ((madeChoices_safe s 1).trans (sequencerReleaseEvent_safe _ n)).trans (evaluateNow_safe _ .crowd)
    · exact ((madeChoices_safe s 1).trans (evaluateNow_safe _ .crowd)).trans (sequencerReleaseEvent_safe _ n)
  · exact evaluateNow_safe s .crowd

theorem releaseEvent_safe (s : State) : Safe s (releaseEvent s) := by
  rw [releaseEvent_eq]
  exact (jointsFreed_safe s).trans (handOffRelease_safe _ _)

theorem keyTests_safe (s : State) : Safe s (keyTests s) := by
  unfold keyTests
  split
  · exact lockEvent_safe s
  split
  · exact releaseEvent_safe s
  · rfl

theorem kellyAngle_safe (s : State) : Safe s (kellyAngle s) := by
  have moved (e : Int) (range : -3600 ≤ s.keyTravel ∧ s.keyTravel ≤ 3600 → -3600 ≤ e ∧ e ≤ 3600) (r : Option Int) :
      Safe s { s with keyTravel := e, angleRef := r } := by
    have kept : Kept s { s with keyTravel := e, angleRef := r } :=
      kept_mk s s.joints s.extension s.mismatch s.depthHeld e r s.band s.backoff s.stallTimer s.recoveryTimer
    exact .of_drive kept ⟨rfl, rfl, rfl, rfl, rfl⟩ (.of_kept kept (fun w => w.of_same rfl rfl rfl) range id id rfl)
  unfold kellyAngle
  dsimp only
  split
  · exact (moved _ (fun _ => clamp_bounds (by decide) _) _).trans (keyTests_safe _)
  · exact moved s.keyTravel id _

/-! ## Bands, stalls and samples -/

theorem evaluateAll_safe (s : State) : Safe s (evaluateAll s) :=
  .of_tracking (evaluateAll_drive s) (evaluateAxes_frame s _).toSameTracking

theorem evaluateAxes_safe (s : State) (l : List Axis) : Safe s (evaluateAxes s l) :=
  .of_tracking (evaluateAxes_drive s l) (evaluateAxes_frame s _).toSameTracking

theorem changeBand_safe (s : State) (band : Option Nat) : Safe s (changeBand s band) := by
  have moved : Safe s { s with band := band } :=
    tracking_safe (kept_mk s s.joints s.extension s.mismatch s.depthHeld s.keyTravel s.angleRef band s.backoff s.stallTimer
      s.recoveryTimer) ⟨rfl, rfl, rfl, rfl, rfl⟩ rfl rfl rfl rfl rfl rfl
  exact (moved.trans (report_safe _ _ _ _)).trans (evaluateAll_safe _)

theorem bandPayout_safe (s : State) : Safe s (bandPayout s) := by
  unfold bandPayout
  split
  · exact changeBand_safe s _
  · rfl

theorem bandCommit_safe (s : State) (es : List BufferEntry) : Safe s (bandCommit s es) := by
  unfold bandCommit
  split
  · exact changeBand_safe s _
  · rfl

theorem stallTest_safe (s : State) : Safe s (stallTest s) :=
  tracking_safe (stallTest_frame s) ⟨rfl, rfl, rfl, rfl, rfl⟩ rfl rfl rfl rfl rfl rfl

theorem setSensor_safe (s : State) (q : Quantity) (r : SensorRecord) : Safe s (s.setSensor q r) :=
  tracking_safe (State.setSensor_frame s q r) ⟨rfl, rfl, rfl, rfl, rfl⟩ rfl rfl rfl rfl rfl rfl

theorem abortAndHandBack_safe (s : State) (c : AbortCause) : Safe s (abortAndHandBack s c) :=
  .of_tracking (abortAndHandBack_drive _ s c) (abortAndHandBack_frame s c)

theorem freshnessToAxes_safe (s : State) (q : Quantity) (old : RecordState) : Safe s (freshnessToAxes s q old) := by
  unfold freshnessToAxes
  dsimp only
  split
  · exact (((madeChoices_safe s 3).trans (evaluateAxes_safe _ _)).trans (abortAndHandBack_safe _ _)).trans (evaluateAxes_safe _ _)
  · exact evaluateAll_safe s

theorem freshnessToKelly_safe (s : State) (q : Quantity) (old : RecordState) : Safe s (freshnessToKelly s q old) := by
  unfold freshnessToKelly
  split
  · exact tracking_safe (kept_mk s s.joints s.extension s.mismatch s.depthHeld s.keyTravel none s.band s.backoff s.stallTimer
      s.recoveryTimer) ⟨rfl, rfl, rfl, rfl, rfl⟩ rfl rfl rfl rfl rfl rfl
  · rfl

theorem freshnessToStall_safe (s : State) (q : Quantity) : Safe s (freshnessToStall s q) := by
  unfold freshnessToStall
  split
  · exact stallTest_safe s
  · exact stallTest_safe s
  all_goals rfl

theorem handOnFreshness_safe (s : State) (q : Quantity) (old : RecordState) : Safe s (handOnFreshness s q old) :=
  ((freshnessToKelly_safe s q old).trans (freshnessToAxes_safe _ q old)).trans (freshnessToStall_safe _ q)

theorem becomeStale_safe (s : State) (q : Quantity) (c : StaleCause) : Safe s (becomeStale s q c) :=
  ((setSensor_safe s q _).trans (report_safe _ _ _ _)).trans (handOnFreshness_safe _ q _)

theorem evaluateInService_safe (s : State) (a : Axis) : Safe s (evaluateInService s a) :=
  .of_tracking (evaluateInService_drive s a) (evaluateInService_frame s a).toSameTracking

theorem handOnPayout_safe (s : State) : Safe s (handOnPayout s) := by
  unfold handOnPayout
  split
  · split
    · exact ((madeChoices_safe s 1).trans (kellyPayout_safe _)).trans (bandPayout_safe _)
    · exact ((madeChoices_safe s 1).trans (bandPayout_safe _)).trans (kellyPayout_safe _)
  · exact kellyPayout_safe s

theorem handOnSample_safe (s : State) (q : Quantity) : Safe s (handOnSample s q) := by
  cases q with
  | payout => exact handOnPayout_safe s
  | head => exact allocateIfTracking_safe s
  | angle => exact (kellyAngle_safe s).trans (stallTest_safe _)
  | torque => exact (evaluateInService_safe s .rotary).trans (stallTest_safe _)
  | force => exact evaluateInService_safe s .crowd
  | rope => exact evaluateInService_safe s .hoist

theorem countQuantity_safe (s : State) (q : Quantity) (f : QuantityCounters → QuantityCounters) : Safe s (s.countQuantity q f) :=
  tracking_safe (State.countQuantity_frame s q f).toKept ⟨rfl, rfl, rfl, rfl, rfl⟩ rfl rfl rfl rfl rfl rfl

theorem recordSample_safe (s : State) (q : Quantity) (pl : List Byte) : Safe s (recordSample s q pl) :=
  (countQuantity_safe s q _).trans (setSensor_safe _ q _)

theorem acceptSample_safe (s : State) (q : Quantity) (pl : List Byte) : Safe s (acceptSample s q pl) := by
  unfold acceptSample
  dsimp only
  refine (recordSample_safe s q pl).trans (Safe.trans ?_ (handOnSample_safe _ q))
  split
  · rfl
  · exact (report_safe _ _ _ _).trans (handOnFreshness_safe _ q _)

theorem takeSample_safe (s : State) (q : Quantity) (pl : List Byte) : Safe s (takeSample s q pl) := by
  unfold takeSample
  split
  · exact countQuantity_safe s q _
  split
  · exact countQuantity_safe s q _
  split
  · unfold sensorFault
    split
    · rfl
    · exact becomeStale_safe s q _
  split
  · exact countQuantity_safe s q _
  · exact acceptSample_safe s q pl

theorem remapQuantity_safe (s : State) (q : Quantity) : Safe s (remapQuantity s q) := by
  have emptied := setSensor_safe s q SensorRecord.initial
  unfold remapQuantity
  dsimp only
  split
  · exact emptied
  · exact emptied.trans (handOnFreshness_safe _ q _)
  · exact (emptied.trans (report_safe _ _ _ _)).trans (handOnFreshness_safe _ q _)

theorem remapSensors_safe (s : State) (old : Option (List Nat)) : Safe s (remapSensors s old) := by
  have each (l : List Quantity) (u : State) : Safe u (l.foldl remapQuantity u) := by
    induction l generalizing u with
    | nil => rfl
    | cons q l ih => exact (remapQuantity_safe u q).trans (ih _)
  unfold remapSensors
  split
  · rfl
  · exact each _ s

/-! ## The backoff (R116, R117, R119) -/

/-- A new backoff factor in range and at the floor in force. -/
theorem backoff_safe {s : State} {b : Int} (st rt : Timer)
    (range : PlainRanges s → (0 ≤ b ∧ b ≤ 1000) ∧ (FloorHolds s → s.tables.rig.valid = true → Rig.backoffFloor s.tables.rig ≤ b)) :
    Safe s { s with backoff := b, stallTimer := st, recoveryTimer := rt } :=
  .of_drive (kept_mk s s.joints s.extension s.mismatch s.depthHeld s.keyTravel s.angleRef s.band b st rt) ⟨rfl, rfl, rfl, rfl, rfl⟩
    (.of_parts rfl (fun w => w.of_same rfl rfl rfl) id (fun _ => id) id id range)

theorem backoffTerms_absent {rig : Table} (absent : rig.present 6 = false) : Rig.backoffFloor rig = 0 ∧ Rig.backoffLevel rig = 0 := by
  have gone : rig.rows.getD 6 none = none := by simpa [Table.present] using absent
  have row : rig.row 6 = [] := by rw [Table.row, gone, Option.getD_none]
  constructor
  · rw [Rig.backoffFloor, row]; rfl
  · rw [Rig.backoffLevel, row]; rfl

theorem backoffTerms_bounds {s : State} (r : PlainRanges s) : 0 ≤ Rig.backoffFloor s.tables.rig ∧
    Rig.backoffFloor s.tables.rig ≤ 900 ∧ 0 ≤ Rig.backoffLevel s.tables.rig ∧ Rig.backoffLevel s.tables.rig ≤ 900 := by
  cases present : s.tables.rig.present 6 with
  | false =>
    obtain ⟨floor, level⟩ := backoffTerms_absent present
    rw [floor, level]
    decide
  | true =>
    obtain ⟨low, mid, high⟩ := r.backoffRow present
    omega

theorem backedOff_range {s : State} (r : PlainRanges s) : (0 ≤ backedOff s ∧ backedOff s ≤ 1000) ∧
    Rig.backoffFloor s.tables.rig ≤ backedOff s := by
  obtain ⟨floor0, floor, level0, level⟩ := backoffTerms_bounds r
  obtain ⟨low, high⟩ := r.backoff
  have bound : (s.backoff * Rig.backoffLevel s.tables.rig).tdiv 1000 ≤ 900 := by
    rw [Int.tdiv_eq_ediv_of_nonneg (mul_nonneg low level0)]
    have product : s.backoff * Rig.backoffLevel s.tables.rig ≤ 1000 * 900 := mul_le_mul high level level0 (by decide)
    omega
  unfold backedOff
  omega

theorem stallExpiry_safe (s : State) : Safe s (stallExpiry s) := by
  let b := backedOff s
  have moved : Safe s { s with
      backoff := b, stallTimer := some (Rig.stallTime s.tables.rig), recoveryTimer := some (Rig.recoveryPeriod s.tables.rig) } :=
    backoff_safe _ _ fun r => ⟨(backedOff_range r).1, fun _ _ => (backedOff_range r).2⟩
  have told : Safe s (report (({ s with backoff := b } : State).countPart (fun c => { c with stalls := bump c.stalls })) .stall
      (bandIndex s) b) := by
    have backed : Safe s { s with backoff := b } := backoff_safe s.stallTimer s.recoveryTimer fun r =>
      ⟨(backedOff_range r).1, fun _ _ => (backedOff_range r).2⟩
    have counted : Safe { s with backoff := b } (({ s with backoff := b } : State).countPart (fun c => { c with stalls := bump c.stalls })) :=
      tracking_safe (State.countPart_frame _ _).toKept ⟨rfl, rfl, rfl, rfl, rfl⟩ rfl rfl rfl rfl rfl rfl
    exact (backed.trans counted).trans (report_safe _ _ _ _)
  refine Safe.trans (told.trans ?_) (evaluateNow_safe _ .crowd)
  exact backoff_safe _ _ fun r => ⟨r.backoff, fun f valid => (f valid).2⟩

theorem recoveryExpiry_safe (s : State) : Safe s (recoveryExpiry s) := by
  have step : 0 ≤ Rig.recoveryStep s.tables.rig := Int.natCast_nonneg _
  have range (r : PlainRanges s) : (0 ≤ min 1000 (s.backoff + Rig.recoveryStep s.tables.rig) ∧
      min 1000 (s.backoff + Rig.recoveryStep s.tables.rig) ≤ 1000) ∧ (FloorHolds s → s.tables.rig.valid = true →
      Rig.backoffFloor s.tables.rig ≤ min 1000 (s.backoff + Rig.recoveryStep s.tables.rig)) := by
    have low := r.backoff.1
    have floor := (backoffTerms_bounds r).2.1
    exact ⟨by omega, fun f valid => by have := (f valid).2; omega⟩
  unfold recoveryExpiry
  dsimp only
  split
  · exact backoff_safe _ _ range
  · exact (backoff_safe s.stallTimer none range).trans (report_safe _ _ _ _)

theorem backoffReset_safe (s : State) : Safe s (backoffReset s) := by
  have reset : Safe s { s with backoff := 1000, stallTimer := none, recoveryTimer := none } :=
    backoff_safe none none fun r => ⟨by decide, fun _ _ => by have := (backoffTerms_bounds r).2.1; omega⟩
  unfold backoffReset
  dsimp only
  split
  · exact reset.trans (report_safe _ _ _ _)
  · exact reset

end Sys2Proof.Machine
end

section
/-! Every command but the completion of a commit keeps the part safe. -/

namespace Sys2Proof.Machine

open Sys2Proof

/-! ## Ports, counters and lists -/

/-- A change of ports, lists, governor timer and counters alone. -/
theorem outside_safe {s t : State} (governor : t.governor = s.governor) (tables : t.tables = s.tables) (axes : t.axes = s.axes)
    (deliveries : t.deliveries = s.deliveries) (sequencer : t.sequencer = s.sequencer) (joints : t.joints = s.joints)
    (extension : t.extension = s.extension) (keyTravel : t.keyTravel = s.keyTravel) (machine : t.machineFault = s.machineFault)
    (bar : t.barFault = s.barFault) (backoff : t.backoff = s.backoff)
    (rxErrors : ∀ p, (s.port p).rxErrors ≤ 255 → (t.port p).rxErrors ≤ 255) : Safe s t :=
  ⟨.of_same governor (congrArg Tables.bar tables) (.of_same deliveries) (fun a => .of_eq (congrArg (fun x => x.get a) axes)) sequencer,
    .of_same tables joints extension keyTravel rxErrors machine bar backoff⟩

theorem setPort_safe (s : State) (p : Port) (r : PortRecord) (rxErrors : (s.port p).rxErrors ≤ 255 → r.rxErrors ≤ 255) :
    Safe s (s.setPort p r) := by
  refine outside_safe rfl rfl rfl rfl rfl rfl rfl rfl rfl rfl rfl fun q => ?_
  by_cases same : q = p
  · subst same
    rw [State.port_setPort_same]
    exact rxErrors
  · rw [State.port_setPort_other s p q r same]
    exact id

theorem countPort_safe (s : State) (p : Port) (f : PortCounters → PortCounters) : Safe s (s.countPort p f) :=
  outside_safe rfl rfl rfl rfl rfl rfl rfl rfl rfl rfl rfl fun _ => id

theorem countAxis_safe (s : State) (a : Axis) (f : AxisCounters → AxisCounters) : Safe s (s.countAxis a f) :=
  outside_safe rfl rfl rfl rfl rfl rfl rfl rfl rfl rfl rfl fun _ => id

theorem countPart_safe (s : State) (f : PartCounters → PartCounters) : Safe s (s.countPart f) :=
  outside_safe rfl rfl rfl rfl rfl rfl rfl rfl rfl rfl rfl fun _ => id

theorem reply_safe (s : State) (k : Nat) (c : StatusCode) (w : ReplyCause) (t r d : Nat) : Safe s (reply s k c w t r d) :=
  outside_safe rfl rfl rfl rfl rfl rfl rfl rfl rfl rfl rfl fun _ => id

/-! ## Governor Control (R22 to R29) -/

theorem Safe.of_governor {s u t : State} (frame : SameTracking u t) (before : TrackSafe s u)
    (drive : DriveSafe (JointsWithinStroke s) s t) : Safe s t := ⟨drive, before.trans (.of_tracking frame)⟩

theorem governorStop_safe (s : State) (p : Port) (n : Nat) : Safe s (governorStop s p n) := by
  by_cases stopped : s.governor = .stopped
  · rw [governorStop, if_pos stopped]
    exact outside_safe rfl rfl rfl rfl rfl rfl rfl rfl rfl rfl rfl fun _ => id
  · exact .of_governor (governorStop_entry p n stopped).1 (.of_same rfl rfl rfl rfl (fun _ => id) rfl rfl rfl)
      (governorStop_drive _ s p n)

theorem enterHold_safe (s : State) : Safe s (enterHold s) :=
  .of_governor (enterHold_frame s) (.of_same rfl rfl rfl rfl (fun _ => id) rfl rfl rfl) (enterHold_drive _ s)

theorem changeGovernor_safe {s : State} {g : GovernorState} (c : GovernorDetail) (enters : g ≠ .govern → s.governor ≠ .govern) :
    Safe s (changeGovernor s g c) := ⟨changeGovernor_drive c enters, .of_same rfl rfl rfl rfl (fun _ => id) rfl rfl rfl⟩

/-! ## Receptions -/

theorem forwardFrame_safe (s : State) (p : Port) (f : Frame) : Safe s (forwardFrame s p f) := by
  have counted := countPort_safe s p (fun c => { c with drops := bump c.drops })
  unfold forwardFrame appendFrame dropFrame
  dsimp only
  split
  · split
    · exact counted
    · exact (counted.trans (setPort_safe _ p.other { s.port p.other with dropMark := true } id)).trans (report_safe _ _ _ _)
  · exact (setPort_safe s p.other { s.port p.other with queue := (s.port p.other).queue ++ [f] } id).trans
      (countPort_safe _ p (fun c => { c with forwarded := bump c.forwarded }))

theorem takeEcho_track (s : State) (a : Axis) (pl : List Byte) : TrackSafe s (takeEcho s a pl) := by
  have counted (u : State) (f : DeliveryCounters → DeliveryCounters) : TrackSafe u (u.countDelivery a f) :=
    .of_tracking (State.countDelivery_frame u a f).toSameTracking
  have answered : TrackSafe s (s.setDelivery a ((s.delivery a).answered pl)) :=
    .of_tracking (State.setDelivery_frame s a _).toSameTracking
  have faulted (u : State) : TrackSafe u (driverFaulted u a .driverFault .driverFault) :=
    (capture_safe u .driverFault a.code).track.trans (.of_tracking (enterFault_frame _ a _))
  unfold takeEcho matchEcho
  dsimp only
  split
  · exact counted s _
  split
  · split
    · split
      · exact (answered.trans (counted _ _)).trans (faulted _)
      · exact answered.trans (faulted _)
    · split
      · exact answered.trans (counted _ _)
      · exact answered
  · exact counted s _

theorem takeEcho_safe (s : State) (a : Axis) (pl : List Byte) : Safe s (takeEcho s a pl) :=
  ⟨takeEcho_drive _ s a pl, takeEcho_track s a pl⟩

theorem echoExpiry_track (s : State) (a : Axis) : TrackSafe s (echoExpiry s a) := by
  have counted (u : State) (f : DeliveryCounters → DeliveryCounters) : TrackSafe u (u.countDelivery a f) :=
    .of_tracking (State.countDelivery_frame u a f).toSameTracking
  have moved (d : DeliveryRecord) : TrackSafe s (s.setDelivery a d) := .of_tracking (State.setDelivery_frame s a d).toSameTracking
  have faulted (u : State) : TrackSafe u (driverFaulted u a .driverLost .driverLost) :=
    (capture_safe u .driverLost a.code).track.trans (.of_tracking (enterFault_frame _ a _))
  unfold echoExpiry giveUp
  dsimp only
  split
  · split
    · exact (moved _).trans (counted _ _)
    split
    · exact ((moved _).trans (counted _ _)).trans (faulted _)
    · exact (moved _).trans (counted _ _)
  · exact moved _

theorem countFormat_safe (s : State) (p : Port) : Safe s (countFormat s p) := countPort_safe s p _

theorem receiveCommand_safe (s : State) (p : Port) (a : Axis) (f : Frame) : Safe s (receiveCommand s p a f) := by
  unfold receiveCommand
  split
  · exact .of_tracking (takeCommand_drive s a _) (takeCommand_frame s a _)
  · exact (countFormat_safe s p).trans (countAxis_safe _ a _)

theorem receiveEcho_safe (s : State) (p : Port) (a : Axis) (f : Frame) : Safe s (receiveEcho s p a f) := by
  unfold receiveEcho
  split
  · exact takeEcho_safe s a _
  · exact countFormat_safe s p

theorem receiveSample_safe (s : State) (p : Port) (q : Quantity) (f : Frame) : Safe s (receiveSample s p q f) := by
  unfold receiveSample
  split
  · exact takeSample_safe s q _
  · exact (countFormat_safe s p).trans (countQuantity_safe _ q _)

theorem snoop_safe (s : State) (p : Port) (q : Quantity) (f : Frame) : Safe s (snoop s p q f) := by
  unfold snoop
  split
  · split
    · exact ((madeChoices_safe s 1).trans (receiveSample_safe _ p q f)).trans (forwardFrame_safe _ p f)
    · exact ((madeChoices_safe s 1).trans (forwardFrame_safe _ p f)).trans (receiveSample_safe _ p q f)
  · exact (forwardFrame_safe s p f).trans (receiveSample_safe _ p q f)

/-! ## The Load Unit -/

theorem loadSelect_safe (s : State) (table row : Nat) (check : Byte) : Safe s (loadSelect s table row check) := by
  have outside {t : State} (lists : t = { s with selection := t.selection, loadFlags := t.loadFlags, replies := t.replies }) :
      Safe s t := by
    rw [lists]
    exact outside_safe rfl rfl rfl rfl rfl rfl rfl rfl rfl rfl rfl fun _ => id
  unfold loadSelect
  split
  · exact outside rfl
  split
  · exact outside rfl
  split <;> exact outside rfl

theorem loadSegment_safe (s : State) (body : List Byte) : Safe s (loadSegment s body) := by
  have outside {t : State} (lists : t =
      { s with selection := t.selection, loadFlags := t.loadFlags, replies := t.replies, buffer := t.buffer }) : Safe s t := by
    rw [lists]
    exact outside_safe rfl rfl rfl rfl rfl rfl rfl rfl rfl rfl rfl fun _ => id
  unfold loadSegment completeRow
  split
  · exact countPart_safe s _
  split
  · exact outside rfl
  split
  · split
    · exact outside rfl
    split <;> exact outside rfl
  · exact outside rfl

theorem loadCommit_safe (s : State) : Safe s (loadCommit s) := by
  unfold loadCommit
  split
  · exact reply_safe s _ _ _ _ _ _
  split
  · exact reply_safe s _ _ _ _ _ _
  split
  · exact reply_safe s _ _ _ _ _ _
  · exact outside_safe rfl rfl rfl rfl rfl rfl rfl rfl rfl rfl rfl fun _ => id

theorem replyRow_safe (s : State) (table row : Nat) (bytes : Row) (detail : Nat) : Safe s (replyRow s table row bytes detail) :=
  outside_safe rfl rfl rfl rfl rfl rfl rfl rfl rfl rfl rfl fun _ => id

theorem loadRead_safe (s : State) (table row view : Nat) : Safe s (loadRead s table row view) := by
  unfold loadRead readTable readState
  split
  · split
    · exact replyRow_safe s _ _ _ _
    split
    · split <;> exact replyRow_safe s _ _ _ _
    · exact reply_safe s _ _ _ _ _ _
  split
  · split
    · exact replyRow_safe s _ _ _ _
    split <;> exact reply_safe s _ _ _ _ _ _
  · exact reply_safe s _ _ _ _ _ _

theorem clearAxisFault_safe (s : State) (a : Axis) : Safe s (clearAxisFault s a) :=
  .of_tracking (clearAxisFault_drive _ s a) (clearAxisFault_frame s a).toSameTracking

theorem clearFaults_safe (s : State) : Safe s (emptyFaults (allAxes.foldl clearAxisFault s)) := by
  have cleared : Safe s (allAxes.foldl clearAxisFault s) :=
    ((clearAxisFault_safe s .rotary).trans (clearAxisFault_safe _ .crowd)).trans (clearAxisFault_safe _ .hoist)
  exact cleared.trans ⟨emptyFaults_drive _ _, .of_parts rfl (fun w => w.of_same rfl rfl rfl) id (fun _ => id)
    (fun _ _ none => nomatch none) (fun _ _ none => nomatch none) fun r => ⟨r.backoff, fun f valid => (f valid).2⟩⟩

theorem loadControl_safe (s : State) (c : Control) : Safe s (loadControl s c) := by
  have replied {u : State} (h : Safe s u) (status : StatusCode) (cause : ReplyCause) : Safe s (replyControl u status cause) :=
    h.trans (reply_safe u _ _ _ _ _ _)
  have plain := replied (.refl s)
  have outside {t : State} (lists : t =
      { s with loadFlags := t.loadFlags, buffer := t.buffer, counters := t.counters, flight := t.flight,
               restarting := t.restarting }) : Safe s t := by
    rw [lists]
    exact outside_safe rfl rfl rfl rfl rfl rfl rfl rfl rfl rfl rfl fun _ => id
  cases c with
  | release =>
    show Safe s (controlRelease s)
    unfold controlRelease
    split
    · exact plain _ _
    · exact replied (changeGovernor_safe _ fun off => absurd rfl off) _ _
  | hold =>
    show Safe s (controlHold s)
    unfold controlHold
    split
    · exact replied (enterHold_safe s) _ _
    · exact plain _ _
    · exact plain _ _
  | stopClear =>
    show Safe s (controlStopClear s)
    unfold controlStopClear
    split
    · next stopped =>
      split
      · exact plain _ _
      · exact replied (changeGovernor_safe _ fun _ => by rw [stopped]; decide) _ _
    · exact plain _ _
    · exact plain _ _
  | clearFaults => exact replied (clearFaults_safe s) .ok .none
  | clearLoadErrors => exact replied (outside (t := { s with loadFlags := 0 }) rfl) .ok .none
  | discardPending =>
    show Safe s (controlDiscardPending s)
    unfold controlDiscardPending
    split
    · exact plain _ _
    · exact replied (outside (t := { s with buffer := [] }) rfl) .ok .none
  | clearCounters => exact replied (outside (t := { s with counters := Counters.zero }) rfl) .ok .none
  | restart => exact replied (outside (t := { s with flight := none, restarting := true }) rfl) .ok .none

theorem takeManagement_safe (s : State) (pl : List Byte) : Safe s (takeManagement s pl) := by
  unfold takeManagement
  split
  · exact countPart_safe s _
  · unfold serve
    split
    · exact loadSelect_safe s _ _ _
    · exact loadSegment_safe s _
    · exact loadCommit_safe s
    · exact loadRead_safe s _ _ _
    · exact loadControl_safe s _
    · exact reply_safe s _ _ _ _ _ _

theorem treat_safe (s : State) (p : Port) (t : Treatment) (f : Frame) : Safe s (treat s p t f) := by
  cases t with
  | stop =>
    have relayed : Safe s (relayStop s p f) :=
      setPort_safe s p.other { s.port p.other with stopSlot := (s.port p.other).stopSlot.or (some f) } id
    exact relayed.trans (governorStop_safe (relayStop s p f) p f.id)
  | command a => exact receiveCommand_safe s p a f
  | management =>
    show Safe s (receiveManagement s p f)
    unfold receiveManagement
    split
    · exact countFormat_safe s p
    · exact takeManagement_safe s _
  | echo a => exact receiveEcho_safe s p a f
  | snoop q => exact snoop_safe s p q f
  | forward => exact forwardFrame_safe s p f
  | foreign => exact (countPort_safe s p _).trans (report_safe _ _ _ _)

theorem received_rxErrors (r : PortRecord) (range : r.rxErrors ≤ 255) : r.received.rxErrors ≤ 255 := by
  show (if 127 < r.rxErrors then 120 else r.rxErrors - 1) ≤ 255
  split <;> omega

theorem receiveUnder_safe (s : State) (p : Port) (map : Option (List Nat)) (f : Frame) : Safe s (receiveUnder s p map f) := by
  unfold receiveUnder
  split
  · have heardIt : Safe s (s.setPort p (s.port p).received) := setPort_safe s p _ (received_rxErrors (s.port p))
    exact heardIt.trans (treat_safe (s.setPort p (s.port p).received) p (classify s p map f) f)
  · rfl

/-! ## Resets (R1, R19, R20) -/

theorem reset_delivery_resting (a : Axis) : (State.reset.delivery a).state = .idle ∧ (State.reset.delivery a).Sound := by
  cases a <;> exact ⟨rfl, by decide, by decide⟩

theorem reset_rxErrors (p : Port) : (State.reset.port p).rxErrors ≤ 255 := by cases p <;> decide

theorem warmValues_safe (s : State) : Safe s (warmValues s) := by
  have drive : DriveSafe (JointsWithinStroke s) s (warmValues s) :=
    reset_drive _ s rfl reset_delivery_resting rfl
  have ranges : PlainRanges s → PlainRanges (warmValues s) := fun r =>
    ⟨⟨by show (-3600 : Int) ≤ 0; decide, by show (0 : Int) ≤ 3600; decide⟩, reset_rxErrors, r.machine, r.bar,
      ⟨by show (0 : Int) ≤ 1000; decide, by show (1000 : Int) ≤ 1000; decide⟩, r.backoffRow⟩
  refine ⟨drive, ranges, fun r f valid => ⟨(f valid).1, ?_⟩, fun w => warmReset_within w rfl rfl rfl⟩
  have floor := (backoffTerms_bounds r).2.1
  show Rig.backoffFloor s.tables.rig ≤ 1000
  omega

theorem powerOn_safe (s : State) (rateHigh : Bool) : Safe s (powerOn s rateHigh) := by
  obtain ⟨-, -, -, registers, joints, -, -⟩ := invariantsHoldAfterReset
  obtain ⟨plain, floor, -⟩ := (registersInRange_iff _).mp registers
  refine ⟨reset_drive _ s rfl reset_delivery_resting rfl, fun _ => ?_, fun _ _ => floor, fun _ =>
    joints.of_same rfl rfl rfl⟩
  exact ⟨plain.keyTravel, plain.rxErrors, plain.machine, plain.bar, plain.backoff, plain.backoffRow⟩

theorem endReset_safe (s : State) (rateHigh : Bool) : Safe s (endReset s rateHigh) := by
  have rated : Safe s { s with bitRate := rateOf rateHigh } :=
    outside_safe rfl rfl rfl rfl rfl rfl rfl rfl rfl rfl rfl fun _ => id
  unfold endReset
  dsimp only
  refine Safe.trans ?_ (report_safe _ _ _ _)
  split
  · refine rated.trans (Safe.trans (t := loadRefresh { s with bitRate := rateOf rateHigh }) ?_ ?_)
    · exact ⟨loadRefresh_drive _ _, .of_same rfl rfl rfl rfl (fun _ => id) rfl rfl rfl⟩
    · exact outside_safe rfl rfl rfl rfl rfl rfl rfl rfl rfl rfl rfl fun _ => id
  · exact rated

/-! ## Transmissions and errors -/

theorem signalOwner_safe (s : State) (p : Port) (x : TxSource) (rateHigh : Bool) : Safe s (signalOwner s p x rateHigh) := by
  cases x with
  | stop => exact setPort_safe s p _ id
  | governed a n => exact .of_tracking (transmitCompleteGoverned_drive _ s a n) (transmitCompleteGoverned_frame s a n).toSameTracking
  | forwarded => exact setPort_safe s p _ id
  | report => exact outside_safe rfl rfl rfl rfl rfl rfl rfl rfl rfl rfl rfl fun _ => id
  | reply =>
    have sent : Safe s { s with replies := s.replies.tail } :=
      outside_safe rfl rfl rfl rfl rfl rfl rfl rfl rfl rfl rfl fun _ => id
    unfold signalOwner replySent
    dsimp only
    split
    · exact (sent.trans (warmValues_safe _)).trans (endReset_safe _ rateHigh)
    · exact sent
  | status => exact outside_safe rfl rfl rfl rfl rfl rfl rfl rfl rfl rfl rfl fun _ => id
  | replaced => rfl

theorem transmitComplete_safe (s : State) (p : Port) (rateHigh : Bool) : Safe s (transmitComplete s p rateHigh) := by
  unfold transmitComplete
  split
  · rfl
  · exact (setPort_safe s p (s.port p).transmitted id).trans (signalOwner_safe _ p _ rateHigh)

theorem lostArbitration_safe (s : State) (p : Port) (winner : Option Frame) : Safe s (lostArbitration s p winner) := by
  have stopped : Safe s (stopSending s p) := setPort_safe s p _ id
  unfold lostArbitration
  split
  · rfl
  split
  · exact stopped
  · exact stopped.trans (receiveUnder_safe _ p _ _)

theorem enterBusOff_safe (s : State) (p : Port) : Safe s (enterBusOff s p) := by
  have entered := (((setPort_safe s p { s.port p with recovery := 0 } id).trans
    (countPort_safe _ p (fun c => { c with busOff := bump c.busOff }))).trans
    (report_safe _ .busState p.code 1)).trans (capture_safe _ .busOff p.code)
  cases p
  · exact entered
  · exact entered.trans (.of_tracking (machineBusOff_drive _ _) (machineBusOff_frame _))

theorem transmissionError_safe (s : State) (p : Port) (unseen : Bool) : Safe s (transmissionError s p unseen) := by
  unfold transmissionError
  split
  · rfl
  split
  · exact setPort_safe s p _ id
  · dsimp only
    have counted := setPort_safe s p { s.port p with txErrors := (s.port p).txErrors + 8, sending := none } id
    split
    · exact counted.trans (enterBusOff_safe _ p)
    · exact counted

theorem countRecovery_safe (s : State) (p : Port) (runs : Nat) : Safe s (countRecovery s p runs) := by
  have left := (setPort_safe s p { s.port p with txErrors := 0, rxErrors := 0, recovery := 0 } fun _ => Nat.zero_le _).trans
    (report_safe _ .busState p.code 0)
  unfold countRecovery
  split
  · split
    · cases p
      · exact left
      · exact left.trans (.of_tracking (deliveriesRecovered_drive _ _) (deliveriesRecovered_frame _).toSameTracking)
    · exact setPort_safe s p _ id
  · rfl

/-! ## Every command but a commit's completion -/

theorem onExpiry_safe (s : State) (t : Timer) {effect : State} (h : Safe s effect) : Safe s (onExpiry s t effect) := by
  unfold onExpiry
  split
  · exact h
  · rfl

theorem sequenceExpiry_safe (s : State) : Safe s (sequenceExpiry s) := by
  unfold sequenceExpiry
  split
  · exact outside_safe rfl rfl rfl rfl rfl rfl rfl rfl rfl rfl rfl fun _ => id
  · exact abortAndHandBack_safe s _

theorem statusExpiry_safe (s : State) : Safe s (statusExpiry s) :=
  outside_safe rfl rfl rfl rfl rfl rfl rfl rfl rfl rfl rfl fun p => by cases p <;> exact id

theorem effect_safe_of_not_commit (c : Instr) (s : State) (commit : Safe s (commitCompletion s)) : Safe s (effect c s) := by
  cases c with
  | powerOnReset rateHigh => exact powerOn_safe s rateHigh
  | resetLow => exact (warmValues_safe s).trans (outside_safe rfl rfl rfl rfl rfl rfl rfl rfl rfl rfl rfl fun _ => id)
  | resetHigh rateHigh =>
    unfold effect exec execResetHigh
    dsimp only
    split
    · exact (outside_safe rfl rfl rfl rfl rfl rfl rfl rfl rfl rfl rfl fun _ => id : Safe s { s with resetLow := false }).trans
        (endReset_safe _ rateHigh)
    · rfl
  | transmitStart p =>
    unfold effect exec execTransmitStart transmitStart
    dsimp only
    split
    · exact setPort_safe s p _ id
    · rfl
  | transmitComplete p rateHigh => exact transmitComplete_safe s p rateHigh
  | lostArbitration p winner => exact lostArbitration_safe s p winner
  | transmissionError p unseen => exact transmissionError_safe s p unseen
  | receiveError p =>
    unfold effect exec execReceiveError receiveError
    dsimp only
    split
    · exact setPort_safe s p _ fun _ => Nat.min_le_left _ _
    · rfl
  | busOffRecovery p runs => exact countRecovery_safe s p runs
  | commitCompletion => exact commit
  | stopQuietTimerExpiry =>
    exact onExpiry_safe s _ (outside_safe rfl rfl rfl rfl rfl rfl rfl rfl rfl rfl rfl fun _ => id)
  | sensorFreshnessExpiry q => exact onExpiry_safe s _ (becomeStale_safe s q .expiry)
  | operatorFreshnessExpiry a =>
    exact onExpiry_safe s _ (.of_tracking (operatorExpiry_drive _ s a) (operatorExpiry_frame s a).toSameTracking)
  | rampTimerExpiry a => exact onExpiry_safe s _ (.of_tracking (rampExpiry_drive _ s a) (rampExpiry_frame s a).toSameTracking)
  | echoTimerExpiry a => exact onExpiry_safe s _ ⟨echoExpiry_drive _ s a, echoExpiry_track s a⟩
  | refreshTimerExpiry a => exact onExpiry_safe s _ (.of_tracking (refreshExpiry_drive s a) (refreshExpiry_frame s a).toSameTracking)
  | stallTimerExpiry => exact onExpiry_safe s _ (stallExpiry_safe s)
  | recoveryTimerExpiry => exact onExpiry_safe s _ (recoveryExpiry_safe s)
  | sequenceTimerExpiry => exact onExpiry_safe s _ (sequenceExpiry_safe s)
  | statusTimerExpiry => exact onExpiry_safe s _ (statusExpiry_safe s)
  | _ => exact receiveUnder_safe s _ _ _

end Sys2Proof.Machine
end

section
/-! Numeric fields of rows and their clamping (R168, R173), and rows laid over the tables (R168 step 2, R169). -/

namespace Sys2Proof.Machine

open Sys2Proof

/-! ## Bytes and numbers -/

/-- The number in `w` bytes from byte `o`, low byte first. -/
def numberAt (r : List Byte) (o : Nat) : Nat → Nat
  | 0 => 0
  | w + 1 => u8At r o + 256 * numberAt r (o + 1) w

theorem numberAt_two (r : List Byte) (o : Nat) : numberAt r o 2 = u16At r o := rfl

theorem numberAt_three (r : List Byte) (o : Nat) : numberAt r o 3 = u24At r o := by
  simp only [numberAt, u24At, u16At, Nat.add_assoc, Nat.reduceAdd]
  omega

theorem numberAt_four (r : List Byte) (o : Nat) : numberAt r o 4 = u32At r o := by
  simp only [numberAt, u32At, u16At, Nat.add_assoc, Nat.reduceAdd]
  omega

/-- A number depends on its own bytes alone. -/
theorem numberAt_congr {r r' : List Byte} {w : Nat} : ∀ {o o' : Nat},
    (∀ i < w, u8At r (o + i) = u8At r' (o' + i)) → numberAt r o w = numberAt r' o' w := by
  induction w with
  | zero => exact fun _ => rfl
  | succ w ih =>
    intro o o' same
    have rest : numberAt r (o + 1) w = numberAt r' (o' + 1) w := ih fun i under => by
      have next := same (i + 1) (by omega)
      rwa [show o + (i + 1) = o + 1 + i by omega, show o' + (i + 1) = o' + 1 + i by omega] at next
    simp only [numberAt, rest]
    have first := same 0 (by omega)
    rw [Nat.add_zero, Nat.add_zero] at first
    rw [first]

/-- The bytes of an integer read back as the integer modulo their range. -/
theorem numberAt_leBytes (w : Nat) : ∀ v : Int, (numberAt (leBytes w v) 0 w : Int) = v % 256 ^ w := by
  induction w with
  | zero => intro v; simp [numberAt]
  | succ w ih =>
    intro v
    have rest : numberAt (leBytes (w + 1) v) 1 w = numberAt (leBytes w (v / 256)) 0 w :=
      numberAt_congr fun i _ => by rw [Nat.zero_add, Nat.add_comm 1 i]; rfl
    have low : (u8At (leBytes (w + 1) v) 0 : Int) = v % 256 := by
      show ((BitVec.ofInt 8 v).toNat : Int) = v % 256
      rw [BitVec.toNat_ofInt]
      have positive := Int.emod_nonneg v (b := 256) (by decide)
      omega
    have split : v % 256 ^ (w + 1) = v % 256 + 256 * (v / 256 % 256 ^ w) := by
      rw [pow_succ', Int.emod_def, Int.emod_def, Int.emod_def (v / 256), Int.ediv_ediv_of_nonneg (by decide)]
      ring
    rw [numberAt, Nat.cast_add, low, Nat.cast_mul, Nat.zero_add, rest, ih, split]
    rfl

/-! ## Fields -/

/-- A field lies in a row of 16 bytes and its range in the numbers that its bytes carry. -/
def Field.fits (f : Field) : Bool := decide (f.at_ + f.width ≤ 16 ∧ 1 ≤ f.width ∧ f.width ≤ 4 ∧ f.lo ≤ f.hi ∧
  (f.signed = true → -(2 ^ (8 * f.width - 1)) ≤ f.lo ∧ f.hi < 2 ^ (8 * f.width - 1)) ∧
  (f.signed = false → 0 ≤ f.lo ∧ f.hi < 2 ^ (8 * f.width)))

/-- Two fields share no byte. -/
def Field.apart (f g : Field) : Bool := decide (f.at_ + f.width ≤ g.at_ ∨ g.at_ + g.width ≤ f.at_)

/-- Byte `i` is in no field of a list. -/
def outsideFields (l : List Field) (i : Nat) : Prop := ∀ f ∈ l, i < f.at_ ∨ f.at_ + f.width ≤ i

theorem Field.read_eq (f : Field) (fits : f.fits = true) (r : Row) : f.read r =
    if f.signed then signExtend (8 * f.width) (numberAt r f.at_ f.width) else numberAt r f.at_ f.width := by
  obtain ⟨at_, width, signed, lo, hi⟩ := f
  obtain ⟨-, low, high, -, -⟩ := of_decide_eq_true fits
  have cases : width = 1 ∨ width = 2 ∨ width = 3 ∨ width = 4 := by dsimp only at low high; omega
  rcases cases with rfl | rfl | rfl | rfl
  · rfl
  · rfl
  · rw [numberAt_three]; rfl
  · rw [numberAt_four]; rfl

theorem Field.read_congr {f : Field} (fits : f.fits = true) {r r' : Row}
    (same : ∀ i, f.at_ ≤ i → i < f.at_ + f.width → u8At r' i = u8At r i) : f.read r' = f.read r := by
  rw [Field.read_eq f fits, Field.read_eq f fits,
    numberAt_congr (r := r') (r' := r) fun i under => same (f.at_ + i) (Nat.le_add_right _ _) (by omega)]

theorem Field.write_length {f : Field} (fits : f.fits = true) {r : Row} (length : r.length = 16) (v : Int) :
    (f.write r v).length = 16 := by
  obtain ⟨inside, -⟩ := of_decide_eq_true fits
  simp only [Field.write, List.length_append, List.length_take, List.length_drop, leBytes_length, length]
  omega

theorem Field.write_byte {f : Field} (fits : f.fits = true) {r : Row} (length : r.length = 16) (v : Int) (i : Nat) :
    u8At (f.write r v) i = if f.at_ ≤ i ∧ i < f.at_ + f.width then u8At (leBytes f.width v) (i - f.at_) else u8At r i := by
  obtain ⟨inside, -⟩ := of_decide_eq_true fits
  have before : (r.take f.at_).length = f.at_ := by rw [List.length_take, length]; omega
  have upTo : (r.take f.at_ ++ leBytes f.width v).length = f.at_ + f.width := by
    rw [List.length_append, before, leBytes_length]
  unfold u8At Field.write
  simp only [List.getD_eq_getElem?_getD]
  rcases Nat.lt_or_ge i f.at_ with below | above
  · rw [if_neg (by omega), List.getElem?_append_left (by omega), List.getElem?_append_left (by omega),
      List.getElem?_take_of_lt below]
  rcases Nat.lt_or_ge i (f.at_ + f.width) with within | beyond
  · rw [if_pos ⟨above, within⟩, List.getElem?_append_left (by omega), List.getElem?_append_right (by omega), before]
  · rw [if_neg (by omega), List.getElem?_append_right (by omega), upTo, List.getElem?_drop,
      Nat.add_sub_cancel' beyond]

/-- A field set to a value of its range reads as that value. -/
theorem Field.read_write {f : Field} (fits : f.fits = true) {r : Row} (length : r.length = 16) {v : Int} (low : f.lo ≤ v)
    (high : v ≤ f.hi) : f.read (f.write r v) = v := by
  have number : (numberAt (f.write r v) f.at_ f.width : Int) = v % 256 ^ f.width := by
    rw [← numberAt_leBytes, numberAt_congr (r' := leBytes f.width v) (o' := 0) fun i under => ?_]
    rw [Field.write_byte fits length, if_pos ⟨by omega, by omega⟩, Nat.add_sub_cancel_left, Nat.zero_add]
  rw [Field.read_eq f fits]
  obtain ⟨at_, width, signed, lo, hi⟩ := f
  obtain ⟨-, thin, wide, -, two, plain⟩ := of_decide_eq_true fits
  have cases : width = 1 ∨ width = 2 ∨ width = 3 ∨ width = 4 := by dsimp only at thin wide; omega
  dsimp only at low high number two plain ⊢
  cases signed
  · obtain ⟨nonneg, top⟩ := plain rfl
    rw [if_neg (by decide), number]
    rcases cases with rfl | rfl | rfl | rfl <;> norm_num at * <;> omega
  · obtain ⟨bottom, top⟩ := two rfl
    rw [if_pos rfl]
    unfold signExtend
    rcases cases with rfl | rfl | rfl | rfl <;> norm_num at * <;> split <;> omega

/-! ## Clamping a list of fields -/

theorem clampField_length {f : Field} (fits : f.fits = true) {r : Row} (length : r.length = 16) :
    (clampField r f).length = 16 := by
  unfold clampField
  dsimp only
  split
  · exact length
  · exact Field.write_length fits length _

theorem clampField_read {f : Field} (fits : f.fits = true) {r : Row} (length : r.length = 16) :
    f.read (clampField r f) = clamp f.lo f.hi (f.read r) := by
  obtain ⟨-, -, -, ordered, -⟩ := of_decide_eq_true fits
  obtain ⟨low, high⟩ := clamp_bounds ordered (f.read r)
  unfold clampField
  dsimp only
  split
  · next same => exact same.symm
  · exact Field.read_write fits length low high

theorem clampField_byte {f : Field} (fits : f.fits = true) {r : Row} (length : r.length = 16) {i : Nat}
    (outside : i < f.at_ ∨ f.at_ + f.width ≤ i) : u8At (clampField r f) i = u8At r i := by
  unfold clampField
  dsimp only
  split
  · rfl
  · rw [Field.write_byte fits length, if_neg (by omega)]

theorem clampField_read_apart {f g : Field} (fits : f.fits = true) (other : g.fits = true) (apart : f.apart g = true) {r : Row}
    (length : r.length = 16) : g.read (clampField r f) = g.read r := by
  have away := of_decide_eq_true apart
  exact Field.read_congr other fun i low high => clampField_byte fits length (by omega)

/-- Fields without a common byte, clamped one after the other: each is clamped, and no other byte changes. -/
theorem clampFields_spec : ∀ (l : List Field), l.all Field.fits = true → l.Pairwise (fun f g => f.apart g = true) → ∀ {r : Row},
    r.length = 16 → (l.foldl clampField r).length = 16 ∧
    (∀ f ∈ l, f.read (l.foldl clampField r) = clamp f.lo f.hi (f.read r)) ∧
    (∀ i, outsideFields l i → u8At (l.foldl clampField r) i = u8At r i) := by
  intro l
  induction l with
  | nil => exact fun _ _ r length => ⟨length, fun f none => absurd none List.not_mem_nil, fun _ _ => rfl⟩
  | cons f l ih =>
    intro fits apart r length
    obtain ⟨first, rest⟩ := (Bool.and_eq_true _ _).mp (List.all_cons ▸ fits)
    obtain ⟨away, others⟩ := List.pairwise_cons.mp apart
    obtain ⟨size, reads, bytes⟩ := ih rest others (clampField_length first length)
    have fitting (g : Field) (member : g ∈ l) : g.fits = true := List.all_eq_true.mp rest g member
    rw [List.foldl_cons]
    refine ⟨size, fun g member => ?_, fun i outside => ?_⟩
    · rcases List.mem_cons.mp member with rfl | later
      · rw [← clampField_read first length]
        refine Field.read_congr first fun i low high => bytes i fun g later => ?_
        have off := of_decide_eq_true (away g later)
        omega
      · rw [reads g later, clampField_read_apart first (fitting g later) (away g later) length]
    · rw [bytes i fun g later => outside g (List.mem_cons_of_mem _ later)]
      exact clampField_byte first length (outside f List.mem_cons_self)

/-! ## The rows of a commit (R168 step 1) -/

/-- The numeric fields of a row with the ranges that a commit clamps them into: the status period of row 0 of the rig profile
stays 0 or is at least 20, and the backoff floor of row 6 ends at the level of its row. -/
def rangedFields (table row : Nat) (r : Row) : List Field :=
  if table = 1 ∧ row = 0 then
    [field1 0 1 126, field2 1 (if u16At r 1 = 0 then 0 else 20) 1000, field2 3 100 2000, field2 5 0 500, ⟨7, 4, false, 0, 150000⟩]
  else if table = 1 ∧ row = 6 then clampedFields 1 6 r ++ [field2 7 100 (clamp 100 900 (u16At r 5))]
  else clampedFields table row r

/-- Fields that lie in a row with their ranges and share no byte. -/
def Rangeable (l : List Field) : Prop := l.all Field.fits = true ∧ l.Pairwise (fun f g => f.apart g = true)

theorem clampedFields_rangeable (table row : Nat) (r : Row) : Rangeable (clampedFields table row r) := by
  unfold Rangeable clampedFields
  split
  · split <;> exact ⟨by decide, by decide⟩
  split
  · split
    · exact ⟨by decide, by decide⟩
    · split <;> exact ⟨by decide, by decide⟩
  split
  · exact ⟨by decide, by decide⟩
  · split <;> exact ⟨by decide, by decide⟩

theorem listedBytes_le (table row : Nat) (r : Row) : listedBytes table row r ≤ 16 := by
  unfold listedBytes
  split
  · split <;> decide
  split
  · split
    · decide
    · split <;> decide
  · split <;> decide

theorem padTo_length (bs : List Byte) (n : Nat) : (padTo n bs).length = n := by
  simp only [padTo, List.length_append, List.length_take, List.length_replicate]
  omega

theorem u8At_padTo (bs : List Byte) {n : Nat} (short : bs.length ≤ n) (i : Nat) : u8At (padTo n bs) i = u8At bs i := by
  unfold u8At padTo
  rw [List.take_of_length_le short, List.getD_eq_getElem?_getD, List.getD_eq_getElem?_getD]
  rcases Nat.lt_or_ge i bs.length with inside | beyond
  · rw [List.getElem?_append_left inside]
  · rw [List.getElem?_append_right beyond, List.getElem?_eq_none beyond, List.getElem?_replicate]
    split <;> rfl

theorem u8At_take (bs : List Byte) (n i : Nat) : u8At (bs.take n) i = if i < n then u8At bs i else 0 := by
  unfold u8At
  rw [List.getD_eq_getElem?_getD, List.getElem?_take]
  split <;> rfl

theorem listedRow_length (table row : Nat) (r : Row) : (listedRow table row r).length = 16 := padTo_length _ _

theorem u8At_listedRow (table row : Nat) (r : Row) (i : Nat) :
    u8At (listedRow table row r) i = if i < listedBytes table row r then u8At r i else 0 := by
  have short := listedBytes_le table row r
  rw [listedRow, u8At_padTo _ (by rw [List.length_take]; omega), u8At_take]

theorem clamp_clamp_of_pos {v : Int} (positive : 0 < v) : clamp 20 1000 (clamp 0 1000 v) = clamp 20 1000 v := by
  unfold clamp
  split <;> split <;> omega

theorem field1_read (o : Nat) (lo hi : Int) (r : Row) : (field1 o lo hi).read r = u8At r o := rfl

theorem field2_read (o : Nat) (lo hi : Int) (r : Row) : (field2 o lo hi).read r = u16At r o := rfl

theorem clampedFields_rigHeader (r : Row) : clampedFields 1 0 r =
    [field1 0 1 126, field2 1 0 1000, field2 3 100 2000, field2 5 0 500, ⟨7, 4, false, 0, 150000⟩] := rfl

theorem clampedFields_backoff (r : Row) : clampedFields 1 6 r =
    [field1 0 1 50, field2 1 500 1000, field2 3 50 2000, field2 5 100 900, field2 9 10 500, field2 11 100 5000,
      field1 13 10 200] := rfl

/-- Row 0 of the rig profile: the period of 1 to 19 is raised to 20, 0 stays (R168). -/
theorem clampRow_rigHeader {r : Row} (length : r.length = 16) : (clampRow 1 0 r).length = 16 ∧
    (∀ f ∈ rangedFields 1 0 r, f.read (clampRow 1 0 r) = clamp f.lo f.hi (f.read r)) ∧
    (∀ i, outsideFields (rangedFields 1 0 r) i → u8At (clampRow 1 0 r) i = u8At r i) := by
  obtain ⟨fits, apart⟩ := clampedFields_rangeable 1 0 r
  obtain ⟨size, reads, bytes⟩ := clampFields_spec _ fits apart length
  have fields : rangedFields 1 0 r = [field1 0 1 126, field2 1 (if u16At r 1 = 0 then 0 else 20) 1000, field2 3 100 2000,
    field2 5 0 500, ⟨7, 4, false, 0, 150000⟩] := rfl
  have row : clampRow 1 0 r = let c := (clampedFields 1 0 r).foldl clampField r
      if u16At c 1 = 0 then c else clampField c (field2 1 20 1000) := by
    unfold clampRow
    dsimp only
    rw [if_neg (fun six => absurd six.2 (by decide)), if_pos ⟨rfl, rfl⟩]
  rw [row, fields]
  generalize (clampedFields 1 0 r).foldl clampField r = c at size reads bytes ⊢
  dsimp only
  have period : (u16At c 1 : Int) = clamp 0 1000 (u16At r 1) := by
    rw [← field2_read 1 0 1000 r, ← field2_read 1 0 1000 c]
    exact reads (field2 1 0 1000) (by rw [clampedFields_rigHeader]; decide)
  have places (i : Nat) (outside : outsideFields [field1 0 1 126, field2 1 (if u16At r 1 = 0 then 0 else 20) 1000,
      field2 3 100 2000, field2 5 0 500, ⟨7, 4, false, 0, 150000⟩] i) : outsideFields (clampedFields 1 0 r) i := by
    rw [clampedFields_rigHeader]
    simpa [outsideFields, field1, field2] using outside
  have zero : u16At c 1 = 0 ↔ u16At r 1 = 0 := by
    unfold clamp at period
    split at period <;> [skip; split at period] <;> omega
  by_cases still : u16At r 1 = 0
  · rw [if_pos (zero.mpr still), if_pos still]
    exact ⟨size, reads, fun i outside => bytes i (by rw [if_pos still] at places; exact places i outside)⟩
  · rw [if_neg (zero.not.mpr still), if_neg still]
    have fits : (field2 1 20 1000).fits = true := by decide
    refine ⟨clampField_length fits size, fun f member => ?_, fun i outside => ?_⟩
    · have other (g : Field) (ok : g.fits = true) (apart : (field2 1 20 1000).apart g = true)
          (listed : g ∈ clampedFields 1 0 r) : g.read (clampField c (field2 1 20 1000)) = clamp g.lo g.hi (g.read r) := by
        rw [clampField_read_apart fits ok apart size, reads g listed]
      simp only [List.mem_cons, List.not_mem_nil, or_false] at member
      rcases member with rfl | rfl | rfl | rfl | rfl
      · exact other _ (by decide) (by decide) (by rw [clampedFields_rigHeader]; decide)
      · rw [clampField_read fits size]
        rw [field2_read, field2_read, period]
        show clamp 20 1000 (clamp 0 1000 (u16At r 1 : Int)) = clamp 20 1000 (u16At r 1)
        rw [clamp_clamp_of_pos (by omega)]
      · exact other _ (by decide) (by decide) (by rw [clampedFields_rigHeader]; decide)
      · exact other _ (by decide) (by decide) (by rw [clampedFields_rigHeader]; decide)
      · exact other _ (by decide) (by decide) (by rw [clampedFields_rigHeader]; decide)
    · rw [clampField_byte fits size (outside (field2 1 20 1000) (by simp)), bytes i (by rw [if_neg still] at places; exact places i outside)]

theorem floorField_fits (v : Int) : (field2 7 100 (clamp 100 900 v)).fits = true := by
  obtain ⟨low, high⟩ := clamp_bounds (lo := 100) (hi := 900) (by decide) v
  simp only [Field.fits, field2]
  norm_num
  omega

/-- Row 6 of the rig profile: the backoff floor ends at the level of the row as clamped (R100, R168). -/
theorem clampRow_backoff {r : Row} (length : r.length = 16) : Rangeable (rangedFields 1 6 r) ∧
    clampRow 1 6 r = (rangedFields 1 6 r).foldl clampField r := by
  obtain ⟨fits, apart⟩ := clampedFields_rangeable 1 6 r
  obtain ⟨-, reads, -⟩ := clampFields_spec _ fits apart length
  have fields : rangedFields 1 6 r = clampedFields 1 6 r ++ [field2 7 100 (clamp 100 900 (u16At r 5))] := rfl
  have level : (u16At ((clampedFields 1 6 r).foldl clampField r) 5 : Int) = clamp 100 900 (u16At r 5) := by
    rw [← field2_read 5 100 900 r, ← field2_read 5 100 900]
    exact reads (field2 5 100 900) (by rw [clampedFields_backoff]; decide)
  refine ⟨⟨?_, ?_⟩, ?_⟩
  · rw [fields, List.all_append, fits]
    simp [floorField_fits]
  · rw [fields, List.pairwise_append]
    refine ⟨apart, List.pairwise_singleton _ _, fun f member g floor => ?_⟩
    rw [List.mem_singleton.mp floor]
    show decide (f.at_ + f.width ≤ 7 ∨ 9 ≤ f.at_) = true
    rw [clampedFields_backoff] at member
    revert f
    decide
  · have row : clampRow 1 6 r = let c := (clampedFields 1 6 r).foldl clampField r
        clampField c (field2 7 100 (u16At c 5)) := by
      unfold clampRow
      dsimp only
      rw [if_pos ⟨rfl, rfl⟩]
    rw [row, fields, List.foldl_append, List.foldl_cons, List.foldl_nil, ← level]

theorem clampRow_spec (table row : Nat) {r : Row} (length : r.length = 16) : (clampRow table row r).length = 16 ∧
    (∀ f ∈ rangedFields table row r, f.read (clampRow table row r) = clamp f.lo f.hi (f.read r)) ∧
    (∀ i, outsideFields (rangedFields table row r) i → u8At (clampRow table row r) i = u8At r i) := by
  by_cases header : table = 1 ∧ row = 0
  · obtain ⟨rfl, rfl⟩ := header
    exact clampRow_rigHeader length
  by_cases backoff : table = 1 ∧ row = 6
  · obtain ⟨rfl, rfl⟩ := backoff
    obtain ⟨⟨fits, apart⟩, row⟩ := clampRow_backoff length
    rw [row]
    exact clampFields_spec _ fits apart length
  · have fields : rangedFields table row r = clampedFields table row r := by rw [rangedFields, if_neg header, if_neg backoff]
    have plain : clampRow table row r = (clampedFields table row r).foldl clampField r := by
      unfold clampRow
      dsimp only
      rw [if_neg backoff, if_neg header]
    rw [fields, plain]
    exact clampFields_spec _ (clampedFields_rangeable table row r).1 (clampedFields_rangeable table row r).2 length

theorem rangedFields_ordered (table row : Nat) (r : Row) : ∀ f ∈ rangedFields table row r, f.lo ≤ f.hi := by
  have ordered (l : List Field) (fits : l.all Field.fits = true) (f : Field) (member : f ∈ l) : f.lo ≤ f.hi := by
    obtain ⟨-, -, -, le, -⟩ := of_decide_eq_true (List.all_eq_true.mp fits f member)
    exact le
  by_cases header : table = 1 ∧ row = 0
  · intro f member
    rw [rangedFields, if_pos header] at member
    split at member <;> exact ordered _ (by decide) f member
  by_cases backoff : table = 1 ∧ row = 6
  · obtain ⟨rfl, rfl⟩ := backoff
    refine ordered _ ?_
    rw [rangedFields, if_neg header, if_pos ⟨rfl, rfl⟩, List.all_append, (clampedFields_rangeable 1 6 r).1]
    simp [floorField_fits]
  · rw [rangedFields, if_neg header, if_neg backoff]
    exact ordered _ (clampedFields_rangeable table row r).1

/-! ## Rows laid over the tables (R168 step 2, R169) -/

/-- A table with a row laid over it: the row present where the table has it, the table valid. -/
def Table.laid (t : Table) (row : Nat) (bytes : Row) : Table := { valid := true, rows := t.rows.set row (some bytes) }

theorem Tables.lay_get (ts : Tables) (e : BufferEntry) (inside : 1 ≤ e.table ∧ e.table ≤ 4) {t : Nat} (low : 1 ≤ t) (high : t ≤ 4) :
    (ts.lay e).get t = if e.table = t then (ts.get t).laid e.row e.bytes else ts.get t := by
  obtain ⟨first, last⟩ := inside
  obtain ⟨table, row, bytes⟩ := e
  dsimp only at first last ⊢
  interval_cases table <;> interval_cases t <;> rfl

theorem Tables.lay_rig (ts : Tables) (e : BufferEntry) :
    (ts.lay e).rig = if e.table = 1 then ts.rig.laid e.row e.bytes else ts.rig := by
  unfold Tables.lay Tables.set
  split
  · next one => rw [one]; rfl
  split
  · rfl
  split <;> rfl

theorem Tables.lay_bar (ts : Tables) (e : BufferEntry) :
    (ts.lay e).bar = if e.table = 2 then ts.bar.laid e.row e.bytes else ts.bar := by
  unfold Tables.lay Tables.set
  split
  · next one => rw [one]; rfl
  split
  · next two => rw [two]; rfl
  split <;> rfl

theorem Tables.lay_pocket (ts : Tables) (e : BufferEntry) :
    (ts.lay e).pocket = if e.table = 3 then ts.pocket.laid e.row e.bytes else ts.pocket := by
  unfold Tables.lay Tables.set
  split
  · next one => rw [one]; rfl
  split
  · next two => rw [two]; rfl
  split
  · next three => rw [three]; rfl
  · rfl

theorem Table.laid_row (t : Table) (row : Nat) (bytes : Row) (r : Nat) :
    (t.laid row bytes).row r = if row = r ∧ r < t.rows.length then bytes else t.row r := by
  unfold Table.row Table.laid
  simp only [List.getD_eq_getElem?_getD, List.getElem?_set]
  by_cases same : row = r <;> by_cases inside : row < t.rows.length <;> simp [same] <;> grind

theorem Table.laid_present (t : Table) (row : Nat) (bytes : Row) (r : Nat) :
    (t.laid row bytes).present r = (decide (row = r ∧ r < t.rows.length) || t.present r) := by
  unfold Table.present Table.laid
  simp only [List.getD_eq_getElem?_getD, List.getElem?_set]
  by_cases same : row = r <;> by_cases inside : row < t.rows.length <;> simp [same] <;> grind

theorem Tables.layAll_append (ts : Tables) (l r : List BufferEntry) : ts.layAll (l ++ r) = (ts.layAll l).layAll r :=
  List.foldl_append

/-- Every row names one of the four tables. -/
def NamesTables (es : List BufferEntry) : Prop := ∀ e ∈ es, 1 ≤ e.table ∧ e.table ≤ 4

/-- A table under rows none of which is for a given place: the place stays, the number of rows too. -/
theorem Tables.layAll_other {t : Nat} (low : 1 ≤ t) (high : t ≤ 4) (r : Nat) : ∀ {es : List BufferEntry} (ts : Tables),
    NamesTables es → (((ts.layAll es).get t).rows.length = (ts.get t).rows.length) ∧
    ((∀ e ∈ es, ¬(e.table = t ∧ e.row = r)) → ((ts.layAll es).get t).row r = (ts.get t).row r ∧
      ((ts.layAll es).get t).present r = (ts.get t).present r) := by
  intro es
  induction es with
  | nil => exact fun ts _ => ⟨rfl, fun _ => ⟨rfl, rfl⟩⟩
  | cons e es ih =>
    intro ts named
    obtain ⟨length, kept⟩ := ih (ts.lay e) fun x later => named x (List.mem_cons_of_mem _ later)
    have laid := ts.lay_get e (named e List.mem_cons_self) low high
    have all : ts.layAll (e :: es) = (ts.lay e).layAll es := rfl
    rw [all, length, laid]
    constructor
    · split
      · exact List.length_set ..
      · rfl
    · intro others
      obtain ⟨rows, present⟩ := kept fun x later => others x (List.mem_cons_of_mem _ later)
      rw [rows, present, laid]
      split
      · next same =>
        have away : ¬(e.row = r ∧ r < (ts.get t).rows.length) := fun here =>
          others e List.mem_cons_self ⟨same, here.1⟩
        rw [Table.laid_row, Table.laid_present, if_neg away, decide_eq_false away, Bool.false_or]
        exact ⟨rfl, rfl⟩
      · exact ⟨rfl, rfl⟩

/-- The last row for a place is the one found there (R168 step 2). -/
theorem Tables.layAll_newest {t r : Nat} (low : 1 ≤ t) (high : t ≤ 4) {before after : List BufferEntry} {e : BufferEntry}
    (ts : Tables) (named : NamesTables (before ++ e :: after)) (inside : r < (ts.get t).rows.length) (here : e.table = t ∧ e.row = r)
    (last : ∀ x ∈ after, ¬(x.table = t ∧ x.row = r)) :
    ((ts.layAll (before ++ e :: after)).get t).row r = e.bytes ∧ ((ts.layAll (before ++ e :: after)).get t).present r = true := by
  have namedBefore : NamesTables before := fun x early => named x (List.mem_append_left _ early)
  have namedAfter : NamesTables after := fun x late => named x (List.mem_append_right _ (List.mem_cons_of_mem _ late))
  obtain ⟨-, kept⟩ := Tables.layAll_other low high r ((ts.layAll before).lay e) namedAfter
  obtain ⟨rows, present⟩ := kept last
  obtain ⟨length, -⟩ := Tables.layAll_other low high r ts namedBefore
  have here' : e.row = r ∧ r < ((ts.layAll before).get t).rows.length := ⟨here.2, length ▸ inside⟩
  have all : ts.layAll (before ++ e :: after) = ((ts.layAll before).lay e).layAll after := Tables.layAll_append ts _ _
  rw [all, rows, present, Tables.lay_get _ e (named e (List.mem_append_right _ List.mem_cons_self)) low high, if_pos here.1,
    Table.laid_row, Table.laid_present, if_pos here', decide_eq_true here']
  exact ⟨rfl, rfl⟩

theorem Tables.layAll_valid {t : Nat} (low : 1 ≤ t) (high : t ≤ 4) : ∀ {es : List BufferEntry} (ts : Tables), NamesTables es →
    (((ts.layAll es).get t).valid = true ↔ (ts.get t).valid = true ∨ ∃ e ∈ es, e.table = t) := by
  intro es
  induction es with
  | nil => intro ts _; simp [Tables.layAll]
  | cons e es ih =>
    intro ts named
    have all : ts.layAll (e :: es) = (ts.lay e).layAll es := rfl
    rw [all, ih (ts.lay e) fun x later => named x (List.mem_cons_of_mem _ later),
      ts.lay_get e (named e List.mem_cons_self) low high]
    by_cases same : e.table = t
    · rw [if_pos same]
      exact ⟨fun _ => .inr ⟨e, List.mem_cons_self, same⟩, fun _ => .inl rfl⟩
    · rw [if_neg same]
      simp [same]

/-! ## A row as a commit applies it -/

/-- A field as the statements write it: first byte, width, and range. -/
def Field.tuple (f : Field) : Nat × Nat × Int × Int := (f.at_, f.width, f.lo, f.hi)

/-- The value of a field given by its first byte and width; a field of three bytes is signed. -/
def readAs (r : Row) (w o : Nat) : Int := if w = 1 then u8At r o else if w = 2 then u16At r o else if w = 3 then s24At r o
  else u32At r o

/-- The fields of three bytes, and no others, are signed. -/
def Field.conventional (f : Field) : Bool := f.signed == (f.width == 3)

theorem Field.read_eq_readAs {f : Field} (usual : f.conventional = true) (r : Row) : f.read r = readAs r f.width f.at_ := by
  have signed : f.signed = (f.width == 3) := eq_of_beq usual
  unfold Field.read readAs
  rw [signed]
  by_cases one : f.width = 1
  · simp [one]
  by_cases two : f.width = 2
  · simp [two]
  by_cases three : f.width = 3
  · simp [three, s24At]
  · simp [one, two, three]

theorem rangedFields_conventional (table row : Nat) (r : Row) : (rangedFields table row r).all Field.conventional = true := by
  have clamped : (clampedFields table row r).all Field.conventional = true := by
    unfold clampedFields
    split
    · split <;> decide
    split
    · split
      · decide
      · split <;> decide
    split
    · decide
    · split <;> decide
  unfold rangedFields
  split
  · split <;> decide
  split
  · next six =>
    obtain ⟨rfl, rfl⟩ := six
    rw [List.all_append, clamped]
    rfl
  · exact clamped

theorem listedBytes_eq {e : BufferEntry} (inside : e.row < rowCount e.table) : listedBytes e.table e.row e.bytes =
    if e.table = 1 then [11, 9, 16, 16, 16, 12, 14, 11, 5, 1].getD e.row 0
    else if e.table = 2 then (if e.row = 0 then 15 else if u8At e.bytes 8 = 1 then 11 else 16)
    else if e.table = 4 ∧ e.row = 0 then 1 else 16 := by
  obtain ⟨table, row, bytes⟩ := e
  unfold listedBytes
  by_cases one : table = 1
  · subst one
    have under : row < 10 := inside
    interval_cases row <;> rfl
  · rw [if_neg one, if_neg one]

theorem BufferEntry.clamped_spec (e : BufferEntry) :
    let r := listedRow e.table e.row e.bytes
    e.clamped.bytes.length = 16 ∧
    (∀ f ∈ (rangedFields e.table e.row r).map Field.tuple,
      readAs e.clamped.bytes f.2.1 f.1 = clamp f.2.2.1 f.2.2.2 (readAs r f.2.1 f.1) ∧ f.2.2.1 ≤ f.2.2.2) ∧
    (∀ i, (∀ f ∈ (rangedFields e.table e.row r).map Field.tuple, i < f.1 ∨ f.1 + f.2.1 ≤ i) →
      u8At e.clamped.bytes i = u8At r i) := by
  intro r
  obtain ⟨length, reads, bytes⟩ := clampRow_spec e.table e.row (listedRow_length e.table e.row e.bytes)
  refine ⟨length, fun t member => ?_, fun i outside => bytes i fun f member => outside f.tuple (List.mem_map_of_mem member)⟩
  obtain ⟨f, listed, rfl⟩ := List.mem_map.mp member
  have usual := List.all_eq_true.mp (rangedFields_conventional _ _ r) f listed
  refine ⟨?_, rangedFields_ordered _ _ _ f listed⟩
  have clampedRead := reads f listed
  rw [Field.read_eq_readAs usual, Field.read_eq_readAs usual] at clampedRead
  exact clampedRead

theorem rigFields_tuples {row : Nat} (inside : row < 10) (taken : Row) {low : Int}
    (lowIs : low = if u16At taken 1 = 0 then 0 else 20) (f : Nat × Nat × Int × Int) : f ∈
    [[(0, 1, 1, 126), (1, 2, low, 1000), (3, 2, 100, 2000), (5, 2, 0, 500), (7, 4, 0, 150000)],
    [(0, 1, 0, 127), (1, 1, 0, 127), (2, 1, 0, 127), (3, 1, 0, 127), (4, 1, 0, 127), (5, 1, 0, 127), (6, 1, 0, 50), (7, 2, 10, 200)],
    [(0, 2, 10, 1000), (2, 2, 10, 1000), (4, 2, 10, 1000), (6, 2, 10, 1000), (8, 2, 10, 1000), (10, 2, 10, 1000), (12, 2, 20, 500),
      (14, 2, 20, 500)],
    [(0, 2, 1, 8000), (2, 2, 1, 1000), (4, 2, 1, 1000), (6, 2, 1, 1500), (8, 2, 300, 1000), (10, 2, 0, 1500), (12, 2, 100, 3000),
      (14, 2, 0, 1000)],
    [(0, 2, 500, 950), (2, 2, 500, 950), (4, 2, 500, 950), (6, 2, 1, 1000), (8, 2, 1, 1000), (10, 2, 1, 1000), (12, 2, 0, 1000),
      (14, 2, 0, 1000)],
    [(0, 2, 20, 500), (2, 2, 20, 500), (4, 2, 20, 500), (6, 1, 10, 100), (7, 1, 2, 50), (8, 1, 0, 7), (9, 1, 1, 8), (10, 2, 1, 500)],
    [(0, 1, 1, 50), (1, 2, 500, 1000), (3, 2, 50, 2000), (5, 2, 100, 900), (7, 2, 100, clamp 100 900 (u16At taken 5)),
      (9, 2, 10, 500), (11, 2, 100, 5000), (13, 1, 10, 200)],
    [(0, 2, 0, 1000), (2, 2, 0, 8000), (4, 2, 0, 1000), (6, 2, 0, 1000), (9, 2, 1000, 20000)]].getD row [] ↔
    f ∈ (rangedFields 1 row taken).map Field.tuple := by
  by_cases header : row = 0
  · subst header
    rw [lowIs]
    rfl
  by_cases six : row = 6
  · subst six
    have split : (rangedFields 1 6 taken).map Field.tuple = (clampedFields 1 6 taken).map Field.tuple ++
        [(7, 2, 100, clamp 100 900 (u16At taken 5))] := by
      rw [rangedFields, if_neg (fun h => header h.2), if_pos ⟨rfl, rfl⟩, List.map_append]
      rfl
    rw [split, clampedFields_backoff]
    show f ∈ ([(0, 1, 1, 50), (1, 2, 500, 1000), (3, 2, 50, 2000), (5, 2, 100, 900), (7, 2, 100, clamp 100 900 (u16At taken 5)),
      (9, 2, 10, 500), (11, 2, 100, 5000), (13, 1, 10, 200)] : List (Nat × Nat × Int × Int)) ↔
      f ∈ ([(0, 1, 1, 50), (1, 2, 500, 1000), (3, 2, 50, 2000), (5, 2, 100, 900), (9, 2, 10, 500), (11, 2, 100, 5000),
        (13, 1, 10, 200)] ++ [(7, 2, 100, clamp 100 900 (u16At taken 5))] : List (Nat × Nat × Int × Int))
    simp only [List.mem_append, List.mem_cons, List.not_mem_nil, or_false]
    tauto
  · have others : row = 1 ∨ row = 2 ∨ row = 3 ∨ row = 4 ∨ row = 5 ∨ row = 7 ∨ row = 8 ∨ row = 9 := by omega
    rcases others with rfl | rfl | rfl | rfl | rfl | rfl | rfl | rfl <;> rfl

theorem clampedFields_joint (row : Nat) (r : Row) : clampedFields 2 (row + 1) r =
    [field2 0 500 20000, field2 2 0 200, field2 4 1 8000, field2 6 0 5000, field1 9 1 16] ++
      (if u8At r 8 = 1 then [field1 10 0 31] else [field2 10 0 20000, field2 12 1 20000, field2 14 0 1000]) := rfl

theorem jointFields_tuples (row : Nat) (r : Row) : (rangedFields 2 (row + 1) r).map Field.tuple =
    [(0, 2, 500, 20000), (2, 2, 0, 200), (4, 2, 1, 8000), (6, 2, 0, 5000), (9, 1, 1, 16)] ++
      (if u8At r 8 = 1 then [(10, 1, 0, 31)] else [(10, 2, 0, 20000), (12, 2, 1, 20000), (14, 2, 0, 1000)]) := by
  have plain : rangedFields 2 (row + 1) r = clampedFields 2 (row + 1) r := by
    rw [rangedFields, if_neg (fun h => absurd h.1 (by decide)), if_neg (fun h => absurd h.1 (by decide))]
  rw [plain, clampedFields_joint]
  split <;> rfl

/-- Settles O32: the fields are clamped one by one, no byte being in two of them, and the newest row for a place is found there. -/
theorem clampedRowsLieInTheirRanges : Obligations.ClampedRowsLieInTheirRanges := by
  constructor
  · intro e inside joint listed long raw raw2 bytes get taken fields
    have longIs : long = listedBytes e.table e.row e.bytes := (listedBytes_eq inside).symm
    have takenIs : taken = listedRow e.table e.row e.bytes := by unfold taken; rw [longIs]; rfl
    have byte (i : Nat) : u8At taken i = raw i := by rw [takenIs, u8At_listedRow, ← longIs]
    have word (o : Nat) : raw2 o = u16At taken o := by
      show ((raw o : Int) + 256 * (raw (o + 1) : Int)) = ((u8At taken o + 256 * u8At taken (o + 1) : Nat) : Int)
      rw [byte, byte, Nat.cast_add, Nat.cast_mul]
      rfl
    have mode (used : joint) : u8At taken 8 = u8At e.bytes 8 := by
      rw [byte]
      refine if_pos ?_
      show 8 < long
      unfold long
      rw [if_neg (by rw [used.1]; decide), if_pos used.1, if_neg used.2]
      split <;> decide
    have fieldsAre (f : Nat × Nat × Int × Int) : f ∈ fields ↔ f ∈ (rangedFields e.table e.row taken).map Field.tuple := by
      clear_value taken
      obtain ⟨table, row, sent⟩ := e
      unfold fields
      rw [word, word]
      dsimp only [joint, listed] at inside mode ⊢
      by_cases one : table = 1
      · subst one
        exact rigFields_tuples inside taken (if_congr Nat.cast_eq_zero rfl rfl) f
      rw [if_neg one]
      by_cases header : table = 2 ∧ row = 0
      · obtain ⟨rfl, rfl⟩ := header
        rfl
      rw [if_neg header]
      by_cases used : table = 2 ∧ row ≠ 0
      · rw [if_pos used, ← mode used]
        obtain ⟨rfl, other⟩ := used
        obtain ⟨row, rfl⟩ := Nat.exists_eq_succ_of_ne_zero other
        exact (jointFields_tuples row taken).symm ▸ Iff.rfl
      rw [if_neg used]
      by_cases three : table = 3
      · subst three
        rfl
      rw [if_neg three]
      have two : table ≠ 2 := fun two => by
        by_cases first : row = 0
        · exact header ⟨two, first⟩
        · exact used ⟨two, first⟩
      have four : table = 4 := Classical.not_not.mp fun other => by
        simp [rowCount, one, two, three, other] at inside
      subst four
      cases row <;> rfl
    obtain ⟨length, reads, outside⟩ := e.clamped_spec
    rw [← takenIs] at reads outside
    simp only [← fieldsAre] at reads outside
    refine ⟨byte, length, rfl, rfl, reads, fun i away => ?_, ?_⟩
    · rw [← byte]
      exact outside i away
    · show (e.clamped.bytes != listedRow e.table e.row e.bytes) = true ↔ bytes ≠ taken
      rw [takenIs, bne_iff_ne]
  · intro ts es t r named low high inside here
    obtain ⟨-, kept⟩ := Tables.layAll_other low high r ts named
    exact ⟨fun before e after split place last => by subst split; exact Tables.layAll_newest low high ts named inside place last,
      kept, Tables.layAll_valid low high ts named⟩
end Sys2Proof.Machine
end

section
/-! What the structural checks of a commit refuse, and the row they name (R168). -/

namespace Sys2Proof.Machine

open Sys2Proof

/-! ## The first of the places tested -/

/-- Places in order, by table and then by row. -/
def PlaceLe (p q : Nat × Nat) : Prop := p.1 < q.1 ∨ (p.1 = q.1 ∧ p.2 ≤ q.2)

/-- In a list in order of places, a search finds the first place of a hit. -/
theorem find_first {α : Type} (place : α → Nat × Nat) (hit : α → Bool) : ∀ {l : List α},
    l.Pairwise (fun a b => PlaceLe (place a) (place b)) → ∀ {t r : Nat},
    FirstPlace (fun t r => ∃ c ∈ l, hit c = true ∧ place c = (t, r)) t r → (l.find? hit).map place = some (t, r) := by
  intro l
  induction l with
  | nil =>
    intro _ t r first
    obtain ⟨⟨c, none, -⟩, -⟩ := first
    exact absurd none List.not_mem_nil
  | cons a l ih =>
    intro sorted t r first
    obtain ⟨later, rest⟩ := List.pairwise_cons.mp sorted
    obtain ⟨⟨c, member, hits, here⟩, least⟩ := first
    cases now : hit a
    · rw [List.find?_cons_of_neg (by rw [now]; decide)]
      refine ih rest ⟨⟨c, ?_, hits, here⟩, fun t' r' => fun ⟨d, inside, hits, there⟩ =>
        least t' r' ⟨d, List.mem_cons_of_mem _ inside, hits, there⟩⟩
      rcases List.mem_cons.mp member with rfl | inside
      · rw [now] at hits; cases hits
      · exact inside
    · rw [List.find?_cons_of_pos now, Option.map_some]
      have after := least (place a).1 (place a).2 ⟨a, List.mem_cons_self, now, rfl⟩
      have before : PlaceLe (place a) (t, r) := by
        rcases List.mem_cons.mp member with rfl | inside
        · rw [here]; exact .inr ⟨rfl, le_rfl⟩
        · exact here ▸ later c inside
      refine congrArg some (Prod.ext ?_ ?_) <;> unfold PlaceLe at before <;> dsimp only at before ⊢ <;> omega

theorem find_none {α : Type} (place : α → Nat × Nat) (hit : α → Bool) (l : List α) : l.find? hit = none ↔
    ∀ t r, ¬∃ c ∈ l, hit c = true ∧ place c = (t, r) := by
  rw [List.find?_eq_none]
  exact ⟨fun none t r => fun ⟨c, inside, hits, _⟩ => none c inside hits,
    fun none c inside hits => none (place c).1 (place c).2 ⟨c, inside, hits, rfl⟩⟩

/-- The same places are hit. -/
theorem FirstPlace.congr {P Q : Nat → Nat → Prop} (same : ∀ t r, P t r ↔ Q t r) {t r : Nat} (first : FirstPlace P t r) :
    FirstPlace Q t r :=
  ⟨(same t r).mp first.1, fun t' r' hit => first.2 t' r' ((same t' r').mpr hit)⟩

/-! ## Missing rows -/

theorem mem_when {α : Type} (c : Bool) (l : List α) (x : α) : x ∈ (if c then l else []) ↔ c = true ∧ x ∈ l := by
  cases c <;> simp

theorem mem_rowsOf (n : Nat) (l : List Nat) (t r : Nat) : (t, r) ∈ l.map (fun i => (n, i)) ↔ t = n ∧ r ∈ l := by
  simp only [List.mem_map, Prod.mk.injEq]
  exact ⟨fun ⟨i, inside, table, row⟩ => ⟨table.symm, row ▸ inside⟩, fun ⟨table, inside⟩ => ⟨r, inside, table.symm, rfl⟩⟩

theorem anyListed_iff (ts : Tables) :
    (Bar.joints ts.bar).any (Bar.listed ts.bar) = true ↔ ∃ j, JointUsed ts j ∧ Bar.mode ts.bar j = 1 := by
  simp only [List.any_eq_true, mem_joints, Bar.listed, beq_iff_eq, JointUsed]

theorem mem_neededRows (touched : Nat → Bool) (ts : Tables) (t r : Nat) : (t, r) ∈ neededRows touched ts ↔
    (t = 1 ∧ touched 1 = true ∧ r < 10) ∨
    (t = 2 ∧ touched 2 = true ∧ (r = 0 ∨ JointUsed ts r)) ∨
    (t = 3 ∧ (touched 3 = true ∨ (touched 2 = true ∧ ∃ j, JointUsed ts j ∧ Bar.mode ts.bar j = 1)) ∧ r < 8) ∨
    (t = 4 ∧ touched 4 = true ∧ r ≤ 24 ∧ r ≤ Bore.count ts.bore) := by
  have bar : (t, r) ∈ (2, 0) :: (Bar.joints ts.bar).map (fun j => (2, j)) ↔ t = 2 ∧ (r = 0 ∨ JointUsed ts r) := by
    rw [List.mem_cons, mem_rowsOf, mem_joints, Prod.mk.injEq]
    unfold JointUsed
    tauto
  have bore : (t, r) ∈ (4, 0) :: (List.range (min (Bore.count ts.bore) 24)).map (fun i => (4, i + 1)) ↔
      t = 4 ∧ r ≤ 24 ∧ r ≤ Bore.count ts.bore := by
    simp only [List.mem_cons, List.mem_map, List.mem_range, Prod.mk.injEq]
    constructor
    · rintro (⟨rfl, rfl⟩ | ⟨i, under, rfl, rfl⟩)
      · exact ⟨rfl, Nat.zero_le _, Nat.zero_le _⟩
      · exact ⟨rfl, by omega, by omega⟩
    · rintro ⟨rfl, low, used⟩
      rcases Nat.eq_zero_or_pos r with rfl | positive
      · exact .inl ⟨rfl, rfl⟩
      · exact .inr ⟨r - 1, by omega, rfl, by omega⟩
  unfold neededRows
  rw [List.mem_append, List.mem_append, List.mem_append, mem_when, mem_when, mem_when, mem_when, mem_rowsOf, mem_rowsOf, bar, bore,
    Bool.or_eq_true, Bool.and_eq_true, anyListed_iff, List.mem_range, List.mem_range, or_assoc, or_assoc]
  exact or_congr and_left_comm (or_congr and_left_comm (or_congr and_left_comm and_left_comm))

theorem neededRows_missing (touched : Nat → Bool) (ts : Tables) (t r : Nat) :
    (∃ p ∈ neededRows touched ts, (!(ts.get p.1).present p.2) = true ∧ id p = (t, r)) ↔ RowMissing touched ts t r := by
  unfold RowMissing
  rw [← mem_neededRows, Bool.eq_false_iff]
  constructor
  · rintro ⟨p, needed, absent, rfl⟩
    exact ⟨by simpa using absent, needed⟩
  · rintro ⟨absent, needed⟩
    exact ⟨(t, r), needed, by simpa using absent, rfl⟩

/-- Lists of places in order, table after table. -/
theorem sorted_append {α : Type} (place : α → Nat × Nat) {l m : List α} (n : Nat)
    (first : l.Pairwise (fun a b => PlaceLe (place a) (place b))) (second : m.Pairwise (fun a b => PlaceLe (place a) (place b)))
    (low : ∀ a ∈ l, (place a).1 ≤ n) (high : ∀ b ∈ m, n < (place b).1) :
    (l ++ m).Pairwise (fun a b => PlaceLe (place a) (place b)) :=
  List.pairwise_append.mpr ⟨first, second, fun a before b after => .inl (lt_of_le_of_lt (low a before) (high b after))⟩

theorem sorted_when {α : Type} (place : α → Nat × Nat) (c : Bool) {l : List α}
    (sorted : l.Pairwise (fun a b => PlaceLe (place a) (place b))) :
    (if c then l else []).Pairwise (fun a b => PlaceLe (place a) (place b)) := by
  cases c
  · exact List.Pairwise.nil
  · exact sorted

theorem sorted_rows (n : Nat) {l : List Nat} (ascending : l.Pairwise (· ≤ ·)) :
    (l.map (fun i => (n, i))).Pairwise (fun a b => PlaceLe (id a) (id b)) :=
  List.pairwise_map.mpr (ascending.imp fun le => .inr ⟨rfl, le⟩)

theorem range_ascending (n : Nat) : (List.range n).Pairwise (· ≤ ·) := List.pairwise_lt_range.imp Nat.le_of_lt

theorem joints_ascending (bar : Table) : (Bar.joints bar).Pairwise (· ≤ ·) :=
  List.pairwise_map.mpr ((range_ascending _).imp fun le => Nat.succ_le_succ le)

theorem neededRows_sorted (touched : Nat → Bool) (ts : Tables) :
    (neededRows touched ts).Pairwise (fun a b => PlaceLe (id a) (id b)) := by
  have bar : ((2, 0) :: (Bar.joints ts.bar).map (fun j => (2, j))).Pairwise (fun a b => PlaceLe (id a) (id b)) := by
    refine List.pairwise_cons.mpr ⟨fun p member => ?_, sorted_rows 2 (joints_ascending _)⟩
    obtain ⟨j, -, rfl⟩ := List.mem_map.mp member
    exact .inr ⟨rfl, Nat.zero_le j⟩
  have bore : ((4, 0) :: (List.range (min (Bore.count ts.bore) 24)).map (fun i => (4, i + 1))).Pairwise
      (fun a b => PlaceLe (id a) (id b)) := by
    refine List.pairwise_cons.mpr ⟨fun p member => ?_,
      List.pairwise_map.mpr ((range_ascending _).imp fun le => .inr ⟨rfl, Nat.succ_le_succ le⟩)⟩
    obtain ⟨i, -, rfl⟩ := List.mem_map.mp member
    exact .inr ⟨rfl, Nat.zero_le _⟩
  unfold neededRows
  refine sorted_append id 3 (sorted_append id 2 (sorted_append id 1 (sorted_when id _ (sorted_rows 1 (range_ascending 10)))
    (sorted_when id _ bar) ?_ ?_) (sorted_when id _ (sorted_rows 3 (range_ascending 8))) ?_ ?_) (sorted_when id _ bore) ?_ ?_
  all_goals intro p member
  all_goals simp only [mem_when, List.mem_append, List.mem_cons, List.mem_map, id_eq] at member ⊢
  all_goals grind

/-! ## Unsound rows -/

theorem rowStandsAt_iff (ts : Tables) (j k : Nat) (v : Int) : RowStandsAt ts j k v ↔ v = rowPosition ts j k := by
  unfold RowStandsAt rowPosition Bar.listed
  by_cases listed : Bar.mode ts.bar j = 1 <;> simp [listed]

theorem windowConsistent_iff (ts : Tables) (j : Nat) : windowConsistent ts j = false ↔ WindowBroken ts j := by
  have spaced : rowsSpaced ts j = false ↔ ∃ k v w, k + 1 < Bar.rows ts.bar j ∧ RowStandsAt ts j k v ∧
      RowStandsAt ts j (k + 1) w ∧ w ≤ v + 2 * Bar.rowTolerance ts.bar := by
    simp only [rowsSpaced, List.all_eq_false, List.mem_range, decide_eq_true_eq, rowStandsAt_iff, Int.not_lt]
    constructor
    · rintro ⟨k, under, near⟩
      exact ⟨k, _, _, by omega, rfl, rfl, near⟩
    · rintro ⟨k, v, w, under, rfl, rfl, near⟩
      exact ⟨k, by omega, near⟩
  have inStroke : rowsInStroke ts j = false ↔ ∃ k v, k < Bar.rows ts.bar j ∧ RowStandsAt ts j k v ∧
      (v < 0 ∨ Bar.stroke ts.bar j < v) := by
    simp only [rowsInStroke, List.all_eq_false, List.mem_range, Bool.and_eq_true, decide_eq_true_eq, rowStandsAt_iff]
    constructor
    · rintro ⟨k, under, out⟩
      exact ⟨k, _, under, rfl, by omega⟩
    · rintro ⟨k, v, under, rfl, out⟩
      exact ⟨k, under, by omega⟩
  have fitting : (if Bar.listed ts.bar j then decide (Bar.startIndex ts.bar j + Bar.rows ts.bar j ≤ 32)
      else decide (2 * Bar.rowTolerance ts.bar < Bar.pitch ts.bar j)) = false ↔
      (Bar.mode ts.bar j = 1 ∧ 32 < Bar.startIndex ts.bar j + Bar.rows ts.bar j) ∨
      (Bar.mode ts.bar j ≠ 1 ∧ Bar.pitch ts.bar j ≤ 2 * Bar.rowTolerance ts.bar) := by
    by_cases listed : Bar.mode ts.bar j = 1 <;> simp [Bar.listed, listed]
  unfold windowConsistent WindowBroken
  rw [Bool.and_eq_false_iff, Bool.and_eq_false_iff, fitting, spaced, inStroke, or_assoc, or_assoc]

theorem sensorMapDistinct_iff (rig : Table) : sensorMapDistinct rig = false ↔
    ∃ i j, i < j ∧ j < 6 ∧ u8At (rig.row 1) i = u8At (rig.row 1) j := by
  have distinct : (Rig.sensorMap rig).Nodup ↔ ∀ i j, i < j → j < 6 → u8At (rig.row 1) i ≠ u8At (rig.row 1) j := by
    rw [Rig.sensorMap, List.Nodup, List.pairwise_map, List.pairwise_iff_getElem]
    simp only [List.length_range, List.getElem_range]
    exact ⟨fun h i j less under => h i j (by omega) under less, fun h i j _ under less => h i j less under⟩
  rw [sensorMapDistinct, decide_eq_false_iff_not, distinct]
  push Not
  rfl

theorem barRowSound_iff (ts : Tables) (j : Nat) : barRowSound ts j = false ↔
    (ts.bar.present j = true ∧ 1 < Bar.mode ts.bar j) ∨ (JointUsed ts j ∧ WindowBroken ts j) := by
  rw [barRowSound, Bool.and_eq_false_iff, Bool.or_eq_false_iff, Bool.or_eq_false_iff, windowConsistent_iff]
  simp [mem_joints, JointUsed]

theorem boreRowSound_iff (bore : Table) (r : Nat) : boreRowSound bore r = false ↔
    (bore.present r = true ∧ (3 < u8At (bore.row r) 6 ∨ 1 < u8At (bore.row r) 15)) ∨
    (r ≤ Bore.count bore ∧ Bore.bottom bore (r - 1) ≤ Bore.top bore (r - 1)) := by
  rw [boreRowSound, boreCoded, Bool.and_eq_false_iff, Bool.or_eq_false_iff, Bool.or_eq_false_iff, Bool.and_eq_false_iff]
  simp

/-! ### The checks, table by table -/

theorem mem_rigChecks (rig : Table) (t r : Nat) : (false, t, r) ∈ [(sensorMapDistinct rig, 1, 1),
    (decide (u8At (rig.row 7) 8 ≤ 1), 1, 7), (decide (u8At (rig.row 9) 0 ≤ 3), 1, 9)] ↔ t = 1 ∧
    ((r = 1 ∧ ∃ i j, i < j ∧ j < 6 ∧ u8At (rig.row 1) i = u8At (rig.row 1) j) ∨
    (r = 7 ∧ 1 < u8At (rig.row 7) 8) ∨ (r = 9 ∧ 3 < u8At (rig.row 9) 0)) := by
  simp only [List.mem_cons, List.not_mem_nil, or_false, Prod.mk.injEq, ← sensorMapDistinct_iff, eq_comm (a := false),
    decide_eq_false_iff_not, Nat.not_le]
  constructor
  · rintro (⟨bad, rfl, rfl⟩ | ⟨bad, rfl, rfl⟩ | ⟨bad, rfl, rfl⟩)
    · exact ⟨rfl, .inl ⟨rfl, bad⟩⟩
    · exact ⟨rfl, .inr (.inl ⟨rfl, bad⟩)⟩
    · exact ⟨rfl, .inr (.inr ⟨rfl, bad⟩)⟩
  · rintro ⟨rfl, ⟨rfl, bad⟩ | ⟨rfl, bad⟩ | ⟨rfl, bad⟩⟩
    · exact .inl ⟨bad, rfl, rfl⟩
    · exact .inr (.inl ⟨bad, rfl, rfl⟩)
    · exact .inr (.inr ⟨bad, rfl, rfl⟩)

theorem mem_jointChecks (ts : Tables) (t r : Nat) : (false, t, r) ∈ [1, 2, 3, 4].map (fun j => (barRowSound ts j, 2, j)) ↔
    t = 2 ∧ (1 ≤ r ∧ r ≤ 4) ∧ barRowSound ts r = false := by
  have number : r ∈ [1, 2, 3, 4] ↔ 1 ≤ r ∧ r ≤ 4 := by simp only [List.mem_cons, List.not_mem_nil, or_false]; omega
  rw [← number, List.mem_map]
  constructor
  · rintro ⟨j, inside, same⟩
    obtain ⟨sound, rfl, rfl⟩ : barRowSound ts j = false ∧ 2 = t ∧ j = r := by simpa only [Prod.mk.injEq] using same
    exact ⟨rfl, inside, sound⟩
  · rintro ⟨rfl, inside, sound⟩
    exact ⟨r, inside, by rw [sound]⟩

theorem mem_barChecks (ts : Tables) (t r : Nat) :
    (false, t, r) ∈ (decide (2 ≤ Bar.sections ts.bar) && decide (Bar.sections ts.bar ≤ 5), 2, 0) ::
      [1, 2, 3, 4].map (fun j => (barRowSound ts j, 2, j)) ↔ t = 2 ∧
    ((r = 0 ∧ (Bar.sections ts.bar < 2 ∨ 5 < Bar.sections ts.bar)) ∨
    (1 ≤ r ∧ r ≤ 4 ∧ ts.bar.present r = true ∧ 1 < Bar.mode ts.bar r) ∨ (JointUsed ts r ∧ WindowBroken ts r)) := by
  rw [List.mem_cons, mem_jointChecks, barRowSound_iff, Prod.mk.injEq, Prod.mk.injEq, eq_comm (a := false), Bool.and_eq_false_iff,
    decide_eq_false_iff_not, decide_eq_false_iff_not, Nat.not_le, Nat.not_le]
  constructor
  · rintro (⟨count, rfl, rfl⟩ | ⟨rfl, ⟨low, high⟩, ⟨present, mode⟩ | broken⟩)
    · exact ⟨rfl, .inl ⟨rfl, count⟩⟩
    · exact ⟨rfl, .inr (.inl ⟨low, high, present, mode⟩)⟩
    · exact ⟨rfl, .inr (.inr broken)⟩
  · rintro ⟨rfl, ⟨rfl, count⟩ | ⟨low, high, mode⟩ | ⟨used, broken⟩⟩
    · exact .inl ⟨count, rfl, rfl⟩
    · exact .inr ⟨rfl, ⟨low, high⟩, .inl mode⟩
    · exact .inr ⟨rfl, ⟨used.1, used.2.1⟩, .inr ⟨used, broken⟩⟩

theorem mem_windowChecks (ts : Tables) (t r : Nat) :
    (false, t, r) ∈ (Bar.joints ts.bar).map (fun j => (windowConsistent ts j, 3, 255)) ↔
    t = 3 ∧ r = 255 ∧ ∃ j, JointUsed ts j ∧ WindowBroken ts j := by
  simp only [List.mem_map, mem_joints, Prod.mk.injEq, windowConsistent_iff, JointUsed]
  constructor
  · rintro ⟨j, used, broken, rfl, rfl⟩
    exact ⟨rfl, rfl, j, used, broken⟩
  · rintro ⟨rfl, rfl, j, used, broken⟩
    exact ⟨j, used, broken, rfl, rfl⟩

theorem mem_bandChecks (bore : Table) (t r : Nat) :
    (false, t, r) ∈ (List.range 24).map (fun i => (boreRowSound bore (i + 1), 4, i + 1)) ↔
    t = 4 ∧ (1 ≤ r ∧ r ≤ 24) ∧ boreRowSound bore r = false := by
  simp only [List.mem_map, List.mem_range, Prod.mk.injEq]
  constructor
  · rintro ⟨i, under, sound, rfl, rfl⟩
    exact ⟨rfl, ⟨by omega, by omega⟩, sound⟩
  · rintro ⟨rfl, ⟨low, high⟩, sound⟩
    exact ⟨r - 1, by omega, by rwa [Nat.sub_add_cancel low], rfl, Nat.sub_add_cancel low⟩

theorem mem_orderChecks (bore : Table) (t r : Nat) : (false, t, r) ∈ (List.range (Bore.count bore - 1)).map (fun i =>
      (decide (Bore.bottom bore i ≤ Bore.top bore (i + 1)), 4, 255)) ↔
    t = 4 ∧ r = 255 ∧ ∃ i, i + 1 < Bore.count bore ∧ Bore.top bore (i + 1) < Bore.bottom bore i := by
  simp only [List.mem_map, List.mem_range, Prod.mk.injEq, decide_eq_false_iff_not, Int.not_le]
  constructor
  · rintro ⟨i, under, broken, rfl, rfl⟩
    exact ⟨rfl, rfl, i, by omega, broken⟩
  · rintro ⟨rfl, rfl, i, under, broken⟩
    exact ⟨i, by omega, broken, rfl, rfl⟩

theorem mem_boreChecks (bore : Table) (t r : Nat) : (false, t, r) ∈ (decide (Bore.count bore ≤ 24), 4, 0) ::
      ((List.range 24).map (fun i => (boreRowSound bore (i + 1), 4, i + 1)) ++
      (List.range (Bore.count bore - 1)).map (fun i => (decide (Bore.bottom bore i ≤ Bore.top bore (i + 1)), 4, 255))) ↔ t = 4 ∧
    ((r = 0 ∧ 24 < Bore.count bore) ∨
    (1 ≤ r ∧ r ≤ 24 ∧ bore.present r = true ∧ (3 < u8At (bore.row r) 6 ∨ 1 < u8At (bore.row r) 15)) ∨
    (1 ≤ r ∧ r ≤ 24 ∧ r ≤ Bore.count bore ∧ Bore.bottom bore (r - 1) ≤ Bore.top bore (r - 1)) ∨
    (r = 255 ∧ ∃ i, i + 1 < Bore.count bore ∧ Bore.top bore (i + 1) < Bore.bottom bore i)) := by
  rw [List.mem_cons, List.mem_append, mem_bandChecks, mem_orderChecks, boreRowSound_iff, Prod.mk.injEq, Prod.mk.injEq,
    eq_comm (a := false), decide_eq_false_iff_not, Nat.not_le]
  constructor
  · rintro (⟨count, rfl, rfl⟩ | ⟨rfl, ⟨low, high⟩, coded | height⟩ | ⟨rfl, rfl, order⟩)
    · exact ⟨rfl, .inl ⟨rfl, count⟩⟩
    · exact ⟨rfl, .inr (.inl ⟨low, high, coded⟩)⟩
    · exact ⟨rfl, .inr (.inr (.inl ⟨low, high, height⟩))⟩
    · exact ⟨rfl, .inr (.inr (.inr ⟨rfl, order⟩))⟩
  · rintro ⟨rfl, ⟨rfl, count⟩ | ⟨low, high, coded⟩ | ⟨low, high, height⟩ | ⟨rfl, order⟩⟩
    · exact .inl ⟨count, rfl, rfl⟩
    · exact .inr (.inl ⟨rfl, ⟨low, high⟩, .inl coded⟩)
    · exact .inr (.inl ⟨rfl, ⟨low, high⟩, .inr height⟩)
    · exact .inr (.inr ⟨rfl, rfl, order⟩)

theorem structureChecks_unsound (touched : Nat → Bool) (ts : Tables) (t r : Nat) :
    (∃ c ∈ structureChecks touched ts, (!c.1) = true ∧ c.2 = (t, r)) ↔ RowUnsound touched ts t r := by
  have pick (l : List (Bool × Nat × Nat)) : (∃ c ∈ l, (!c.1) = true ∧ c.2 = (t, r)) ↔ (false, t, r) ∈ l := by
    constructor
    · rintro ⟨⟨ok, place⟩, member, failed, rfl⟩
      cases ok
      · exact member
      · cases failed
    · exact fun member => ⟨_, member, rfl, rfl⟩
  rw [pick]
  unfold structureChecks RowUnsound
  rw [List.mem_append, List.mem_append, List.mem_append, mem_when, mem_when, mem_when, mem_when, or_assoc, or_assoc,
    mem_rigChecks, mem_barChecks, mem_windowChecks, mem_boreChecks, Bool.and_eq_true, Bool.and_eq_true, Bool.not_eq_true']
  refine or_congr and_left_comm (or_congr and_left_comm (or_congr ?_ and_left_comm))
  exact ⟨fun ⟨⟨⟨pocket, bar⟩, valid⟩, three, row, broken⟩ => ⟨three, row, pocket, bar, valid, broken⟩,
    fun ⟨three, row, pocket, bar, valid, broken⟩ => ⟨⟨⟨pocket, bar⟩, valid⟩, three, row, broken⟩⟩

theorem structureChecks_sorted (touched : Nat → Bool) (ts : Tables) :
    (structureChecks touched ts).Pairwise (fun a b => PlaceLe a.2 b.2) := by
  have rig (a b c : Bool) : [(a, 1, 1), (b, 1, 7), (c, 1, 9)].Pairwise (fun a b => PlaceLe a.2 b.2) := by
    simp [PlaceLe]
  have bar (a : Bool) (f : Nat → Bool) : ((a, 2, 0) :: [1, 2, 3, 4].map (fun j => (f j, 2, j))).Pairwise
      (fun a b => PlaceLe a.2 b.2) := by simp [PlaceLe]
  have windows (l : List Nat) (f : Nat → Bool) : (l.map (fun j => (f j, 3, 255))).Pairwise (fun a b => PlaceLe a.2 b.2) :=
    List.pairwise_map.mpr (List.pairwise_of_forall fun _ _ => .inr ⟨rfl, le_rfl⟩)
  have bore (a : Bool) (f g : Nat → Bool) (n : Nat) : ((a, 4, 0) :: ((List.range 24).map (fun i => (f i, 4, i + 1)) ++
      (List.range n).map (fun i => (g i, 4, 255)))).Pairwise (fun a b => PlaceLe a.2 b.2) := by
    refine List.pairwise_cons.mpr ⟨fun c member => ?_, List.pairwise_append.mpr ⟨?_, ?_, fun c rows d order => ?_⟩⟩
    · rcases List.mem_append.mp member with rows | order
      · obtain ⟨i, -, rfl⟩ := List.mem_map.mp rows
        exact .inr ⟨rfl, Nat.zero_le _⟩
      · obtain ⟨i, -, rfl⟩ := List.mem_map.mp order
        exact .inr ⟨rfl, Nat.zero_le _⟩
    · exact List.pairwise_map.mpr ((range_ascending 24).imp fun le => .inr ⟨rfl, Nat.succ_le_succ le⟩)
    · exact List.pairwise_map.mpr (List.pairwise_of_forall fun _ _ => .inr ⟨rfl, le_rfl⟩)
    · obtain ⟨i, under, rfl⟩ := List.mem_map.mp rows
      obtain ⟨j, -, rfl⟩ := List.mem_map.mp order
      have small := List.mem_range.mp under
      exact .inr ⟨rfl, by dsimp only; omega⟩
  unfold structureChecks
  refine sorted_append Prod.snd 3 (sorted_append Prod.snd 2 (sorted_append Prod.snd 1 (sorted_when _ _ (rig _ _ _))
    (sorted_when _ _ (bar _ _)) ?_ ?_) (sorted_when _ _ (windows _ _)) ?_ ?_) (sorted_when _ _ (bore _ _ _ _)) ?_ ?_
  all_goals intro c member
  all_goals simp only [mem_when, List.mem_append, List.mem_cons, List.mem_map] at member
  all_goals grind

/-! ## What a commit is refused for (R168 steps 3 and 4) -/

/-- Settles O31: rows needed and checks stand in order of their places, so a search finds the first. -/
theorem commitsAreValidatedRowByRow : Obligations.CommitsAreValidatedRowByRow := by
  intro touched ts missing unsound
  have noneMissing (all : ∀ t r, ¬missing t r) : missingRow touched ts = none :=
    (find_none id _ _).mpr fun t r => (neededRows_missing touched ts t r).not.mpr (all t r)
  refine ⟨fun t r first => ?_, fun t r all first => ?_, fun all sound => ?_⟩
  · have found := find_first id _ (neededRows_sorted touched ts) (first.congr fun t r => (neededRows_missing touched ts t r).symm)
    rw [Option.map_id, id_eq] at found
    rw [structuralFault, missingRow, found]
  · have found := find_first Prod.snd _ (structureChecks_sorted touched ts)
      (first.congr fun t r => (structureChecks_unsound touched ts t r).symm)
    obtain ⟨⟨ok, place⟩, search, rfl⟩ := Option.map_eq_some_iff.mp found
    rw [structuralFault, noneMissing all, search]
  · have search := (find_none Prod.snd (fun c => !c.1) (structureChecks touched ts)).mpr fun t r =>
      (structureChecks_unsound touched ts t r).not.mpr (sound t r)
    rw [structuralFault, noneMissing all, search]

/-- A commit that passes its structural checks misses no row and breaks no condition. -/
theorem structuralFault_none {touched : Nat → Bool} {ts : Tables} (passes : structuralFault touched ts = none) :
    (∀ t r, ¬RowMissing touched ts t r) ∧ ∀ t r, ¬RowUnsound touched ts t r := by
  unfold structuralFault at passes
  split at passes
  · cases passes
  next complete =>
    split at passes
    · cases passes
    next sound =>
      exact ⟨fun t r => (neededRows_missing touched ts t r).not.mp ((find_none id _ _).mp complete t r),
        fun t r => (structureChecks_unsound touched ts t r).not.mp ((find_none Prod.snd _ _).mp sound t r)⟩

end Sys2Proof.Machine
end

section
/-! What a commit that passes leaves of tables, joints and registers (R168, R169). -/

namespace Sys2Proof.Machine

open Sys2Proof

/-! ## The tables under rows laid over them -/

theorem touches_cons (e : BufferEntry) (es : List BufferEntry) (n : Nat) :
    touches (e :: es) n = (e.table == n || touches es n) := rfl

theorem layAll_cons (ts : Tables) (e : BufferEntry) (es : List BufferEntry) : ts.layAll (e :: es) = (ts.lay e).layAll es := rfl

/-- What holds of one of the tables, and stays when a row is laid over it, holds of it after all rows. -/
theorem layAll_induction (get : Tables → Table) (n : Nat) (P : Table → Prop)
    (lay : ∀ ts (e : BufferEntry), get (ts.lay e) = if e.table = n then (get ts).laid e.row e.bytes else get ts) :
    ∀ {es : List BufferEntry}, (∀ e ∈ es, e.table = n → ∀ t, P t → P (t.laid e.row e.bytes)) → ∀ {ts : Tables}, P (get ts) →
    P (get (ts.layAll es)) := by
  intro es
  induction es with
  | nil => exact fun _ _ holds => holds
  | cons e es ih =>
    intro keeps ts holds
    rw [layAll_cons]
    refine ih (fun x later => keeps x (List.mem_cons_of_mem _ later)) ?_
    rw [lay]
    split
    · next here => exact keeps e List.mem_cons_self here _ holds
    · exact holds

theorem not_touched {es : List BufferEntry} {n : Nat} (untouched : touches es n = false) : ∀ e ∈ es, e.table ≠ n := by
  intro e member
  have all := List.any_eq_false.mp untouched e member
  simpa using all

theorem layAll_untouched (get : Tables → Table) (n : Nat)
    (lay : ∀ ts (e : BufferEntry), get (ts.lay e) = if e.table = n then (get ts).laid e.row e.bytes else get ts)
    {es : List BufferEntry} (untouched : touches es n = false) (ts : Tables) : get (ts.layAll es) = get ts :=
  layAll_induction get n (fun t => t = get ts) lay (fun e member here => absurd here (not_touched untouched e member)) rfl

theorem layAll_rig_untouched {es : List BufferEntry} (untouched : touches es 1 = false) (ts : Tables) :
    (ts.layAll es).rig = ts.rig := layAll_untouched Tables.rig 1 Tables.lay_rig untouched ts

theorem layAll_bar_untouched {es : List BufferEntry} (untouched : touches es 2 = false) (ts : Tables) :
    (ts.layAll es).bar = ts.bar := layAll_untouched Tables.bar 2 Tables.lay_bar untouched ts

theorem layAll_pocket_untouched {es : List BufferEntry} (untouched : touches es 3 = false) (ts : Tables) :
    (ts.layAll es).pocket = ts.pocket := layAll_untouched Tables.pocket 3 Tables.lay_pocket untouched ts

/-- A table stays valid, and is once a row is laid over it. -/
theorem layAll_valid_of (get : Tables → Table) (n : Nat)
    (lay : ∀ ts (e : BufferEntry), get (ts.lay e) = if e.table = n then (get ts).laid e.row e.bytes else get ts)
    (es : List BufferEntry) (ts : Tables) : (get (ts.layAll es)).valid = ((get ts).valid || touches es n) := by
  induction es generalizing ts with
  | nil => exact (Bool.or_false _).symm
  | cons e es ih =>
    rw [layAll_cons, ih, lay, touches_cons]
    by_cases here : e.table = n
    · rw [if_pos here, here]
      simp [Table.laid]
    · rw [if_neg here, beq_eq_false_iff_ne.mpr here, Bool.false_or]

theorem layAll_bar_valid (es : List BufferEntry) (ts : Tables) :
    (ts.layAll es).bar.valid = (ts.bar.valid || touches es 2) := layAll_valid_of Tables.bar 2 Tables.lay_bar es ts

/-- A row that no row of a commit is for stays. -/
theorem layAll_rig_row {es : List BufferEntry} {r : Nat} (untouched : touchesRow es 1 r = false) (ts : Tables) :
    (ts.layAll es).rig.row r = ts.rig.row r := by
  refine layAll_induction Tables.rig 1 (fun t => t.row r = ts.rig.row r) Tables.lay_rig (fun e member here t same => ?_) rfl
  have away : e.row ≠ r := by
    have all := List.any_eq_false.mp untouched e member
    simpa [here] using all
  rw [Table.laid_row, if_neg fun h => away h.1]
  exact same

/-! ## The rows as clamped -/

/-- A joint row as clamped has 1 to 16 rows (R50). -/
theorem clampedRow_joint {row : Nat} (joint : 1 ≤ row) (sent : Row) :
    1 ≤ u8At (clampRow 2 row (listedRow 2 row sent)) 9 := by
  obtain ⟨row, rfl⟩ := Nat.exists_eq_add_of_le' joint
  obtain ⟨-, reads, -⟩ := clampRow_spec 2 (row + 1) (listedRow_length 2 (row + 1) sent)
  generalize listedRow 2 (row + 1) sent = r at reads ⊢
  have plain : rangedFields 2 (row + 1) r = clampedFields 2 (row + 1) r := by
    rw [rangedFields, if_neg (fun h => absurd h.1 (by decide)), if_neg (fun h => absurd h.1 (by decide))]
  have rows := reads (field1 9 1 16) (by rw [plain, clampedFields_joint]; simp)
  rw [field1_read] at rows
  obtain ⟨low, -⟩ := clamp_bounds (lo := 1) (hi := 16) (by decide) ((field1 9 1 16).read r)
  have bound : (1 : Int) ≤ (u8At (clampRow 2 (row + 1) r) 9 : Int) := by rw [rows]; exact low
  exact_mod_cast bound

/-- The backoff row as clamped: a floor from 100 to its level, and a level of at most 900 (R100). -/
theorem clampedRow_backoff (sent : Row) : let r := clampRow 1 6 (listedRow 1 6 sent)
    100 ≤ (u16At r 7 : Int) ∧ (u16At r 7 : Int) ≤ u16At r 5 ∧ (u16At r 5 : Int) ≤ 900 := by
  intro c
  have cIs : c = clampRow 1 6 (listedRow 1 6 sent) := rfl
  clear_value c
  obtain ⟨-, reads, -⟩ := clampRow_spec 1 6 (listedRow_length 1 6 sent)
  rw [← cIs] at reads
  generalize listedRow 1 6 sent = r at reads
  have fields : rangedFields 1 6 r = clampedFields 1 6 r ++ [field2 7 100 (clamp 100 900 (u16At r 5))] := by
    rw [rangedFields, if_neg (fun h => absurd h.2 (by decide)), if_pos ⟨rfl, rfl⟩]
  have level := reads (field2 5 100 900) (by rw [fields, clampedFields_backoff]; simp)
  have floor := reads (field2 7 100 (clamp 100 900 (u16At r 5))) (by rw [fields]; simp)
  rw [field2_read, field2_read] at level floor
  change (u16At c 5 : Int) = clamp 100 900 (u16At r 5) at level
  change (u16At c 7 : Int) = clamp 100 (clamp 100 900 (u16At r 5)) (u16At r 7) at floor
  obtain ⟨low, high⟩ := clamp_bounds (lo := 100) (hi := 900) (by decide) (u16At r 5 : Int)
  obtain ⟨floorLow, floorHigh⟩ := clamp_bounds low (u16At r 7 : Int)
  omega

/-- Rows taken by a commit are clamped. -/
def AllClamped (es : List BufferEntry) : Prop := ∀ e ∈ es, ∃ sent, e = BufferEntry.clamped sent

theorem takenRows_clamped (s : State) (f : Flight) : AllClamped (takenRows s f) := fun e member => by
  obtain ⟨sent, -, rfl⟩ := List.mem_map.mp member
  exact ⟨sent, rfl⟩

/-- Each joint row present has at least one row (R50). -/
def JointRowsPositive (bar : Table) : Prop := ∀ j, 1 ≤ j → bar.present j = true → 1 ≤ Bar.rows bar j

theorem layAll_jointRows {es : List BufferEntry} (clamped : AllClamped es) {ts : Tables} (before : JointRowsPositive ts.bar) :
    JointRowsPositive (ts.layAll es).bar := by
  refine layAll_induction Tables.bar 2 JointRowsPositive Tables.lay_bar (fun e member here t holds j joint present => ?_) before
  obtain ⟨sent, rfl⟩ := clamped e member
  rw [Bar.rows, Table.laid_row]
  by_cases laid : sent.clamped.row = j ∧ j < t.rows.length
  · rw [if_pos laid]
    have two : sent.table = 2 := here
    have row : sent.row = j := laid.1
    show 1 ≤ u8At (clampRow sent.table sent.row (listedRow sent.table sent.row sent.bytes)) 9
    rw [two, row]
    exact clampedRow_joint joint _
  · rw [if_neg laid]
    rw [Table.laid_present, decide_eq_false laid, Bool.false_or] at present
    exact holds j joint present

/-- The backoff row, where present, is in its ranges (R100). -/
def BackoffRowSound (rig : Table) : Prop := rig.present 6 = true → 100 ≤ Rig.backoffFloor rig ∧
  Rig.backoffFloor rig ≤ Rig.backoffLevel rig ∧ Rig.backoffLevel rig ≤ 900

theorem layAll_backoffRow {es : List BufferEntry} (clamped : AllClamped es) {ts : Tables} (before : BackoffRowSound ts.rig) :
    BackoffRowSound (ts.layAll es).rig := by
  refine layAll_induction Tables.rig 1 BackoffRowSound Tables.lay_rig (fun e member here t holds present => ?_) before
  obtain ⟨sent, rfl⟩ := clamped e member
  rw [Rig.backoffFloor, Rig.backoffLevel, Table.laid_row]
  by_cases laid : sent.clamped.row = 6 ∧ 6 < t.rows.length
  · rw [if_pos laid]
    have one : sent.table = 1 := here
    have row : sent.row = 6 := laid.1
    have bytes : sent.clamped.bytes = clampRow 1 6 (listedRow 1 6 sent.bytes) := by
      show clampRow sent.table sent.row (listedRow sent.table sent.row sent.bytes) = _
      rw [one, row]
    rw [bytes]
    exact clampedRow_backoff _
  · rw [if_neg laid]
    rw [Table.laid_present, decide_eq_false laid, Bool.false_or] at present
    exact holds present

/-! ## The bar after a commit -/

/-- Bar profile and pocket table meet the conditions of R49 to R51. -/
structure BarSound (ts : Tables) : Prop where
  windows : ts.bar.valid = true → ∀ j ∈ Bar.joints ts.bar, rowsInStroke ts j = true
  present : ts.bar.valid = true → ∀ j ∈ Bar.joints ts.bar, ts.bar.present j = true
  rows    : JointRowsPositive ts.bar

theorem rowsInStroke_of_same {ts us : Tables} (bar : us.bar = ts.bar) (pocket : us.pocket = ts.pocket) (j : Nat) :
    rowsInStroke us j = rowsInStroke ts j := by
  unfold rowsInStroke rowPosition
  rw [bar, pocket]

theorem rowsInStroke_of_consistent {ts : Tables} {j : Nat} (whole : ¬WindowBroken ts j) : rowsInStroke ts j = true := by
  rw [← windowConsistent_iff, Bool.not_eq_false, windowConsistent, Bool.and_eq_true, Bool.and_eq_true] at whole
  exact whole.2

theorem JointsWithinStroke.barSound {s : State} (within : JointsWithinStroke s) : BarSound s.tables :=
  ⟨within.windows, within.present, within.rows⟩

theorem layAll_barSound {es : List BufferEntry} (clamped : AllClamped es) {ts : Tables} (before : BarSound ts)
    (passes : structuralFault (touches es) (ts.layAll es) = none) : BarSound (ts.layAll es) := by
  obtain ⟨complete, sound⟩ := structuralFault_none passes
  have joint (j : Nat) (used : j ∈ Bar.joints (ts.layAll es).bar) : JointUsed (ts.layAll es) j := (mem_joints _ _).mp used
  refine ⟨fun valid j used => ?_, fun valid j used => ?_, layAll_jointRows clamped before.rows⟩
  · cases two : touches es 2 with
    | true =>
      exact rowsInStroke_of_consistent fun broken =>
        sound 2 j (.inr (.inl ⟨rfl, two, .inr (.inr ⟨joint j used, broken⟩)⟩))
    | false =>
      have bar := layAll_bar_untouched two ts
      cases three : touches es 3 with
      | true =>
        exact rowsInStroke_of_consistent fun broken =>
          sound 3 255 (.inr (.inr (.inl ⟨rfl, rfl, three, two, valid, j, joint j used, broken⟩)))
      | false =>
        rw [rowsInStroke_of_same bar (layAll_pocket_untouched three ts)]
        rw [bar] at valid used
        exact before.windows valid j used
  · cases two : touches es 2 with
    | true =>
      rw [← Bool.not_eq_false]
      exact fun absent => complete 2 j ⟨absent, .inr (.inl ⟨rfl, two, .inr (joint j used)⟩)⟩
    | false =>
      have bar := layAll_bar_untouched two ts
      rw [bar] at valid used ⊢
      exact before.present valid j used

/-! ## Joints rebuilt under a table change (R69, R85) -/

/-- The state in which a table change divides the extension anew: the joints rebuilt, and A at 0. -/
def rebuiltState (s : State) (hadBar : Bool) : State :=
  { s with joints := rebuiltJoints s.tables.bar s.joints (invalidatedLock s hadBar), keyTravel := 0 }

theorem kellyTableChange_of_tracking {s : State} {b : Bool} (tracking : geometry s = .tracking) :
    kellyTableChange s b = allocate (rebuiltState s b) := by
  unfold kellyTableChange
  dsimp only
  rw [show geometry { s with joints := rebuiltJoints s.tables.bar s.joints (invalidatedLock s b), keyTravel := 0 } = .tracking from
    tracking]
  rfl

theorem kellyTableChange_of_held {s : State} {b : Bool} (held : geometry s = .held) :
    kellyTableChange s b = divideHeld (rebuiltState s b) := by
  unfold kellyTableChange
  dsimp only
  rw [show geometry { s with joints := rebuiltJoints s.tables.bar s.joints (invalidatedLock s b), keyTravel := 0 } = .held from held]
  rfl

theorem kellyTableChange_of_none {s : State} {b : Bool} (none : geometry s = .none) :
    kellyTableChange s b = { s with keyTravel := 0 } := by
  unfold kellyTableChange
  dsimp only
  rw [show geometry { s with joints := rebuiltJoints s.tables.bar s.joints (invalidatedLock s b), keyTravel := 0 } = .none from none]

theorem invalidatedLock_open (s : State) (b : Bool) : invalidatedLock s b ≠ .locked := by
  unfold invalidatedLock
  split <;> decide

theorem rebuiltJoints_open (bar : Table) (old : List Joint) {l : LockState} (apart : l ≠ .locked) :
    ∀ r ∈ rebuiltJoints bar old l, r.lock ≠ .locked ∧ r.lockedRow = none := by
  intro r member
  obtain ⟨j, -, rfl⟩ := List.mem_map.mp member
  exact ⟨apart, rfl⟩

theorem rebuiltState_consistent {s : State} (b : Bool) (bar : BarSound s.tables) (valid : s.tables.bar.valid = true) :
    BarConsistent (rebuiltState s b) := by
  refine ⟨?_, fun i r found => ?_, bar.windows, bar.present, bar.rows⟩
  · show (rebuiltJoints s.tables.bar s.joints (invalidatedLock s b)).length = if s.tables.bar.valid then _ else 0
    rw [if_pos valid, rebuiltJoints, List.length_map]
    rfl
  · obtain ⟨apart, noRow⟩ := rebuiltJoints_open s.tables.bar s.joints (invalidatedLock_open s b) r (List.mem_of_getElem? found)
    exact ⟨fun locked => absurd locked apart, fun _ => noRow⟩

theorem geometry_none_iff (s : State) : geometry s = .none ↔ s.tables.bar.valid = false := by
  unfold geometry
  cases s.tables.bar.valid
  · exact ⟨fun _ => rfl, fun _ => rfl⟩
  · refine ⟨fun none => ?_, fun invalid => Bool.noConfusion invalid⟩
    rw [if_neg (by decide)] at none
    split at none <;> cases none

/-- With no bar profile and no joint, nothing can leave its stroke. -/
theorem within_of_unused {s : State} (invalid : s.tables.bar.valid = false) (empty : s.joints = [])
    (rows : JointRowsPositive s.tables.bar) : JointsWithinStroke s := by
  have noJoint (p : Nat × Joint) : p ∉ numbered s.joints := by rw [empty]; exact List.not_mem_nil
  have unused {P : Prop} (valid : s.tables.bar.valid = true) : P := absurd (invalid.symm.trans valid) (by decide)
  exact {
    count := by rw [empty, invalid]; rfl
    sum := unused
    offset := fun p inside => absurd inside (noJoint p)
    nearest := fun p inside => absurd inside (noJoint p)
    locked := fun p inside => absurd inside (noJoint p)
    noRow := fun p inside => absurd inside (noJoint p)
    windows := unused
    present := unused
    rows := rows }

/-- A table change leaves the joints within their strokes. -/
theorem kellyTableChange_within {s : State} {b : Bool} (bar : BarSound s.tables)
    (unused : s.tables.bar.valid = false → s.joints = []) : JointsWithinStroke (kellyTableChange s b) := by
  cases status : geometry s with
  | none =>
    have invalid := (geometry_none_iff s).mp status
    rw [kellyTableChange_of_none status]
    exact within_of_unused (s := { s with keyTravel := 0 }) invalid (unused invalid) bar.rows
  | tracking =>
    have valid : s.tables.bar.valid = true := by
      rw [← Bool.not_eq_false, ← geometry_none_iff, status]; decide
    rw [kellyTableChange_of_tracking status]
    exact allocate_within (rebuiltState_consistent b bar valid)
  | held =>
    have valid : s.tables.bar.valid = true := by
      rw [← Bool.not_eq_false, ← geometry_none_iff, status]; decide
    rw [kellyTableChange_of_held status]
    exact divideHeld_within (rebuiltState_consistent b bar valid) fun r member =>
      (rebuiltJoints_open _ _ (invalidatedLock_open s b) r member).1

end Sys2Proof.Machine
end

section
/-! The completion of a commit keeps the part safe (R162, R168, R169). -/

namespace Sys2Proof.Machine

open Sys2Proof

/-! ## The stages of a commit -/

/-- The rows taken are applied and leave the buffer. -/
def appliedState (s : State) (f : Flight) : State := leaveBuffer (applyRows s (takenRows s f)) f

/-- The sensors are remapped where the rig profile is touched (R46). -/
def remappedState (s : State) (f : Flight) : State :=
  whenTouched (takenRows s f) 1 (fun t => remapSensors t (sensorMapInForce s)) (appliedState s f)

/-- The joints are rebuilt where bar profile or pocket table is touched (R69, R85). -/
def rejointedState (s : State) (f : Flight) : State :=
  if touches (takenRows s f) 2 || touches (takenRows s f) 3 then kellyTableChange (remappedState s f) s.tables.bar.valid
  else remappedState s f

/-- The band is looked up again where the bore plan is touched (R96). -/
def rebandedState (s : State) (f : Flight) : State :=
  whenTouched (takenRows s f) 4 (fun t => bandCommit t (takenRows s f)) (rejointedState s f)

/-- The backoff is reset where the rig profile is touched (R119). -/
def rebackedState (s : State) (f : Flight) : State := whenTouched (takenRows s f) 1 backoffReset (rebandedState s f)

/-- The timers of Delivery Unit and Report Unit follow a rig profile (R147, R176). -/
def retimedState (s : State) (f : Flight) : State :=
  whenTouched (takenRows s f) 1 (fun t => rigTimers t s.tables.rig) (rebackedState s f)

/-- The management channel follows a rig profile (R163). -/
def committedState (s : State) (f : Flight) : State :=
  whenTouched (takenRows s f) 1 (fun t => { t with channel := channelOf t.tables }) (retimedState s f)

theorem passCommit_eq (s : State) (f : Flight) : passCommit s f =
    reply (committedState s f) 3 (if takenAdjusted s f then .adjusted else .ok) .none noneByte noneByte f.taken := rfl

theorem whenTouched_safe {es : List BufferEntry} {n : Nat} {effect : State → State} {s : State} (safe : Safe s (effect s)) :
    Safe s (whenTouched es n effect s) := by
  unfold whenTouched
  split
  · exact safe
  · rfl

theorem whenTouched_true {es : List BufferEntry} {n : Nat} (touched : touches es n = true) (effect : State → State) (s : State) :
    whenTouched es n effect s = effect s := if_pos touched

theorem whenTouched_false {es : List BufferEntry} {n : Nat} (untouched : touches es n = false) (effect : State → State)
    (s : State) : whenTouched es n effect s = s := if_neg (by rw [untouched]; decide)

theorem remappedState_safe (s : State) (f : Flight) : Safe (appliedState s f) (remappedState s f) :=
  whenTouched_safe (remapSensors_safe _ _)

theorem rebandedState_safe (s : State) (f : Flight) : Safe (rejointedState s f) (rebandedState s f) :=
  whenTouched_safe (bandCommit_safe _ _)

theorem rebackedState_safe (s : State) (f : Flight) : Safe (rebandedState s f) (rebackedState s f) :=
  whenTouched_safe (backoffReset_safe _)

theorem loadRefresh_safe (s : State) : Safe s (loadRefresh s) :=
  ⟨loadRefresh_drive _ s, .of_same rfl rfl rfl rfl (fun _ => id) rfl rfl rfl⟩

theorem rigTimers_safe (s : State) (oldRig : Table) : Safe s (rigTimers s oldRig) := by
  unfold rigTimers
  dsimp only
  split
  · exact outside_safe rfl rfl rfl rfl rfl rfl rfl rfl rfl rfl rfl fun _ => id
  · exact (loadRefresh_safe s).trans (outside_safe rfl rfl rfl rfl rfl rfl rfl rfl rfl rfl rfl fun _ => id)

/-- What follows on the backoff reset keeps the part safe. -/
theorem passCommit_afterBackoff (s : State) (f : Flight) : Safe (rebackedState s f) (passCommit s f) := by
  have retimed : Safe (rebackedState s f) (retimedState s f) := whenTouched_safe (rigTimers_safe _ _)
  have channelled : Safe (retimedState s f) (committedState s f) :=
    whenTouched_safe (outside_safe rfl rfl rfl rfl rfl rfl rfl rfl rfl rfl rfl fun _ => id)
  rw [passCommit_eq]
  exact (retimed.trans channelled).trans (reply_safe _ _ _ _ _ _ _)

theorem passCommit_afterJoints (s : State) (f : Flight) : Safe (rejointedState s f) (passCommit s f) :=
  ((rebandedState_safe s f).trans (rebackedState_safe s f)).trans (passCommit_afterBackoff s f)

/-! ## Tables along the stages -/

theorem remappedState_frame (s : State) (f : Flight) : Kept (appliedState s f) (remappedState s f) := by
  unfold remappedState whenTouched
  split
  · exact remapSensors_frame _ _
  · rfl

theorem rejointedState_frame (s : State) (f : Flight) : Kept (remappedState s f) (rejointedState s f) := by
  unfold rejointedState
  split
  · exact kellyTableChange_frame _ _
  · rfl

theorem remappedState_tables (s : State) (f : Flight) : (remappedState s f).tables = s.tables.layAll (takenRows s f) :=
  (remappedState_frame s f).tables

theorem rejointedState_tables (s : State) (f : Flight) : (rejointedState s f).tables = s.tables.layAll (takenRows s f) :=
  (rejointedState_frame s f).tables.trans (remappedState_tables s f)

theorem bandCommitted_tables (s : State) (f : Flight) : (rebandedState s f).tables = s.tables.layAll (takenRows s f) := by
  refine Eq.trans ?_ (rejointedState_tables s f)
  unfold rebandedState whenTouched
  split
  · exact (bandCommit_frame _ _).tables
  · rfl

/-! ## The joints -/

/-- The joints of the state with the rows applied, where neither bar profile nor pocket table is touched. -/
theorem appliedState_within {s : State} {f : Flight} (bar : touches (takenRows s f) 2 = false)
    (pocket : touches (takenRows s f) 3 = false) (within : JointsWithinStroke s) : JointsWithinStroke (appliedState s f) := by
  have barSame : (appliedState s f).tables.bar = s.tables.bar := layAll_bar_untouched bar s.tables
  have pocketSame : (appliedState s f).tables.pocket = s.tables.pocket := layAll_pocket_untouched pocket s.tables
  have position (j k : Nat) : rowPosition (appliedState s f).tables j k = rowPosition s.tables j k := by
    unfold rowPosition
    rw [barSame, pocketSame]
  exact {
    count := by rw [barSame]; exact within.count
    sum := by rw [barSame]; exact within.sum
    offset := by rw [barSame]; exact within.offset
    nearest := by rw [barSame]; exact within.nearest
    locked := by simp only [barSame, position]; exact within.locked
    noRow := within.noRow
    windows := by rw [barSame]; exact fun valid j used => (rowsInStroke_of_same barSame pocketSame j).trans (within.windows valid j used)
    present := by rw [barSame]; exact within.present
    rows := by rw [barSame]; exact within.rows }

/-- No bar profile after the commit: there was none before, and no joint. -/
theorem remappedState_unused {s : State} {f : Flight} (within : JointsWithinStroke s)
    (invalid : (remappedState s f).tables.bar.valid = false) : (remappedState s f).joints = [] := by
  rw [remappedState_tables, layAll_bar_valid, Bool.or_eq_false_iff] at invalid
  obtain ⟨unused, untouched⟩ := invalid
  have bar : (appliedState s f).tables.bar = s.tables.bar := layAll_bar_untouched untouched s.tables
  have empty : s.joints = [] := by
    have count := within.count
    rw [unused] at count
    exact List.length_eq_zero_iff.mp count
  have applied : JointsWithinStroke (appliedState s f) :=
    within_of_unused (by rw [bar]; exact unused) empty (by rw [bar]; exact within.rows)
  have count := ((remappedState_safe s f).track.joints applied).count
  rw [remappedState_tables, layAll_bar_valid, unused, untouched] at count
  exact List.length_eq_zero_iff.mp count

theorem rejointedState_within {s : State} {f : Flight}
    (passes : structuralFault (touches (takenRows s f)) (s.tables.layAll (takenRows s f)) = none) (within : JointsWithinStroke s) :
    JointsWithinStroke (rejointedState s f) := by
  unfold rejointedState
  cases touched : touches (takenRows s f) 2 || touches (takenRows s f) 3 with
  | true =>
    rw [if_pos rfl]
    refine kellyTableChange_within ?_ (remappedState_unused within)
    rw [remappedState_tables]
    exact layAll_barSound (takenRows_clamped s f) within.barSound passes
  | false =>
    obtain ⟨bar, pocket⟩ := Bool.or_eq_false_iff.mp touched
    rw [if_neg (by decide)]
    exact (remappedState_safe s f).track.joints (appliedState_within bar pocket within)

/-! ## The registers -/

theorem appliedState_plain {s : State} (f : Flight) (r : PlainRanges s) : PlainRanges (appliedState s f) :=
  ⟨r.keyTravel, r.rxErrors, r.machine, r.bar, r.backoff, layAll_backoffRow (takenRows_clamped s f) r.backoffRow⟩

theorem divideHeld_registers (s : State) : (divideHeld s).keyTravel = s.keyTravel ∧ (divideHeld s).machineFault = s.machineFault ∧
    (divideHeld s).barFault = s.barFault ∧ (divideHeld s).backoff = s.backoff := by
  unfold divideHeld realign
  dsimp only
  exact ⟨rfl, rfl, rfl, rfl⟩

theorem PlainRanges.of_kept {s t : State} (frame : Kept s t) (keyTravel : t.keyTravel = s.keyTravel)
    (machine : t.machineFault = s.machineFault) (bar : t.barFault = s.barFault) (backoff : t.backoff = s.backoff)
    (r : PlainRanges s) : PlainRanges t :=
  ⟨by rw [keyTravel]; exact r.keyTravel, fun p => by rw [State.port, frame.ports]; exact r.rxErrors p, by rw [machine]; exact r.machine,
    by rw [bar]; exact r.bar, by rw [backoff]; exact r.backoff, by rw [frame.tables]; exact r.backoffRow⟩

theorem kellyTableChange_plain {s : State} (b : Bool) (r : PlainRanges s) : PlainRanges (kellyTableChange s b) := by
  have turned : PlainRanges { s with keyTravel := 0 } :=
    ⟨⟨by show (-3600 : Int) ≤ 0; decide, by show (0 : Int) ≤ 3600; decide⟩, r.rxErrors, r.machine, r.bar, r.backoff, r.backoffRow⟩
  have rebuilt : PlainRanges (rebuiltState s b) := ⟨turned.keyTravel, r.rxErrors, r.machine, r.bar, r.backoff, r.backoffRow⟩
  cases status : geometry s with
  | none =>
    rw [kellyTableChange_of_none status]
    exact turned
  | tracking =>
    rw [kellyTableChange_of_tracking status]
    exact (allocate_safe _).track.plain rebuilt
  | held =>
    rw [kellyTableChange_of_held status]
    obtain ⟨keyTravel, machine, bar, backoff⟩ := divideHeld_registers (rebuiltState s b)
    exact rebuilt.of_kept (divideHeld_frame _) keyTravel machine bar backoff

theorem rejointedState_plain {s : State} (f : Flight) (r : PlainRanges s) : PlainRanges (rejointedState s f) := by
  have remapped := (remappedState_safe s f).track.plain (appliedState_plain f r)
  unfold rejointedState
  split
  · exact kellyTableChange_plain _ remapped
  · exact remapped

theorem kellyTableChange_backoff (s : State) (b : Bool) : (kellyTableChange s b).backoff = s.backoff := by
  cases status : geometry s with
  | none => rw [kellyTableChange_of_none status]
  | tracking =>
    rw [kellyTableChange_of_tracking status]
    exact (allocate_kelly _).backoff
  | held =>
    rw [kellyTableChange_of_held status]
    exact (divideHeld_registers (rebuiltState s b)).2.2.2

theorem backoffReset_backoff (s : State) : (backoffReset s).backoff = 1000 ∧ (backoffReset s).tables = s.tables := by
  unfold backoffReset
  dsimp only
  split
  · exact ⟨(report_frame _ _ _ _).backoff, (report_frame _ _ _ _).tables⟩
  · exact ⟨rfl, rfl⟩

/-- A rig profile touched is complete, and the backoff stands above its floor (R100, R119, R168). -/
theorem rebackedState_floor {s : State} {f : Flight}
    (passes : structuralFault (touches (takenRows s f)) (s.tables.layAll (takenRows s f)) = none) (r : PlainRanges s)
    (floor : FloorHolds s) : FloorHolds (rebackedState s f) := by
  cases touched : touches (takenRows s f) 1 with
  | true =>
    obtain ⟨complete, -⟩ := structuralFault_none passes
    have plain := (rebandedState_safe s f).track.plain (rejointedState_plain f r)
    have bound := (backoffTerms_bounds plain).2.1
    obtain ⟨backoff, tables⟩ := backoffReset_backoff (rebandedState s f)
    have present : (s.tables.layAll (takenRows s f)).rig.present 6 = true := by
      rw [← Bool.not_eq_false]
      exact fun absent => complete 1 6 ⟨absent, .inl ⟨rfl, touched, by decide⟩⟩
    unfold rebackedState
    rw [whenTouched_true touched]
    unfold FloorHolds
    rw [backoff, tables]
    refine fun _ => ⟨by rw [bandCommitted_tables]; exact present, by omega⟩
  | false =>
    have rig : (appliedState s f).tables.rig = s.tables.rig := layAll_rig_untouched touched s.tables
    have applied : FloorHolds (appliedState s f) := by
      unfold FloorHolds
      rw [rig]
      exact floor
    have remapped : FloorHolds (remappedState s f) := (remappedState_safe s f).track.floor (appliedState_plain f r) applied
    have rejointed : FloorHolds (rejointedState s f) := by
      unfold rejointedState
      split
      · unfold FloorHolds
        rw [kellyTableChange_backoff, (kellyTableChange_frame _ _).tables]
        exact remapped
      · exact remapped
    exact ((rebandedState_safe s f).trans (rebackedState_safe s f)).track.floor (rejointedState_plain f r) rejointed

theorem passCommit_track {s : State} {f : Flight}
    (passes : structuralFault (touches (takenRows s f)) (s.tables.layAll (takenRows s f)) = none) : TrackSafe s (passCommit s f) where
  plain := fun r => (passCommit_afterJoints s f).track.plain (rejointedState_plain f r)
  floor := fun r floor => (passCommit_afterBackoff s f).track.floor
    (((rebandedState_safe s f).trans (rebackedState_safe s f)).track.plain (rejointedState_plain f r))
    (rebackedState_floor passes r floor)
  joints := fun within => (passCommit_afterJoints s f).track.joints (rejointedState_within passes within)

/-! ## The drives -/

/-- What is kept whatever the bar is. -/
theorem DriveSafe.unconditional {P : Prop} {s t : State} (h : DriveSafe P s t) : DriveSafe False s t :=
  ⟨h.neutral, h.auto, h.demands, h.sound, fun no => no.elim, fun no => no.elim⟩

/-- Outside GOVERN no axis moves, whatever its demand. -/
theorem DriveSafe.of_resting {P : Prop} {s t : State} (h : DriveSafe False s t) (rests : t.governor ≠ .govern) : DriveSafe P s t where
  neutral := h.neutral
  auto := h.auto
  demands := h.demands
  sound := h.sound
  operator := fun _ n _ a moving => absurd moving ((h.neutral n).axes rests a).not_moving
  sequence := fun _ n _ _ =>
    have idle := (h.neutral n).sequencer rests
    ⟨fun runs => absurd idle runs, fun runs => absurd (idle.symm.trans runs) (by decide),
      fun runs => absurd (idle.symm.trans runs) (by decide)⟩

/-- Rows are applied without a change of the drives: the creep demand changes only while no sequence runs. -/
theorem appliedState_drive {P : Prop} {s : State} {f : Flight}
    (creep : P → (appliedState s f).tables.bar = s.tables.bar ∨ s.sequencer = .idle) : DriveSafe P s (appliedState s f) where
  neutral := fun n => ⟨n.governed, n.axes, n.sequencer, n.deliveries⟩
  auto := fun a => ⟨a.rotary, a.crowd, a.hoist⟩
  demands := id
  sound := id
  operator := fun _ _ w => w
  sequence := fun p _ _ w => by
    rcases creep p with same | idle
    · exact ⟨w.others, fun runs => by rw [same]; exact w.locking runs, fun runs => by rw [same]; exact w.releasing runs⟩
    · exact ⟨w.others, fun runs => absurd (idle.symm.trans runs) (by decide), fun runs => absurd (idle.symm.trans runs) (by decide)⟩

theorem kellyTableChange_drive (P : Prop) (s : State) (b : Bool) : DriveSafe P s (kellyTableChange s b) := by
  have turned (js : List Joint) : DriveSafe P s { s with joints := js, keyTravel := 0 } :=
    .of_drive (kept_mk s js s.extension s.mismatch s.depthHeld 0 s.angleRef s.band s.backoff s.stallTimer s.recoveryTimer)
      ⟨rfl, rfl, rfl, rfl, rfl⟩
  cases status : geometry s with
  | none =>
    rw [kellyTableChange_of_none status]
    exact turned s.joints
  | tracking =>
    rw [kellyTableChange_of_tracking status]
    exact (turned _).trans (allocate_drives P (rebuiltState s b)) id
  | held =>
    rw [kellyTableChange_of_held status]
    have divided : DriveSafe P (rebuiltState s b) (divideHeld (rebuiltState s b)) := by
      refine .of_drive (divideHeld_frame _) ?_
      unfold divideHeld realign
      exact ⟨rfl, rfl, rfl, rfl, rfl⟩
    exact (turned _).trans divided id

theorem rejointedState_drive {P : Prop} (s : State) (f : Flight) : DriveSafe P (remappedState s f) (rejointedState s f) := by
  unfold rejointedState
  split
  · exact kellyTableChange_drive P _ _
  · rfl

theorem passCommit_frame_governor (s : State) (f : Flight) : (passCommit s f).governor = s.governor := by
  have rebanded : (rebandedState s f).governor = (rejointedState s f).governor := by
    unfold rebandedState whenTouched
    split
    · exact (bandCommit_frame _ _).governor
    · rfl
  have rebacked : (rebackedState s f).governor = (rebandedState s f).governor := by
    unfold rebackedState whenTouched
    split
    · exact (backoffReset_frame _).governor
    · rfl
  have retimed : (retimedState s f).governor = (rebackedState s f).governor := by
    unfold retimedState whenTouched rigTimers
    split
    · dsimp only
      split <;> rfl
    · rfl
  have channelled : (committedState s f).governor = (retimedState s f).governor := by
    unfold committedState whenTouched
    split <;> rfl
  have joints : (rejointedState s f).governor = s.governor :=
    (rejointedState_frame s f).governor.trans (remappedState_frame s f).governor
  show (committedState s f).governor = s.governor
  rw [channelled, retimed, rebacked, rebanded, joints]

/-- A sensor map left alone remaps nothing (R46). -/
theorem remappedState_of_untouched {s : State} {f : Flight} (untouched : touchesRow (takenRows s f) 1 1 = false) :
    remappedState s f = appliedState s f := by
  have row : (appliedState s f).tables.rig.row 1 = s.tables.rig.row 1 := layAll_rig_row untouched s.tables
  have map : Rig.sensorMap (appliedState s f).tables.rig = Rig.sensorMap s.tables.rig := by
    unfold Rig.sensorMap
    rw [row]
  unfold remappedState whenTouched
  split
  · unfold remapSensors sensorMapInForce
    cases s.tables.rig.valid
    · rfl
    · dsimp only
      rw [if_pos rfl, map]
      have none : allQuantities.filter (fun q => (Rig.sensorMap s.tables.rig).getD q.code 128 !=
          (Rig.sensorMap s.tables.rig).getD q.code 128) = [] := by
        simp
      dsimp only
      rw [none]
      rfl
  · rfl

theorem passCommit_drive {s : State} {f : Flight} (passes : commitFault s (takenRows s f) = none) :
    DriveSafe (JointsWithinStroke s) s (passCommit s f) := by
  obtain ⟨structural, state⟩ := Option.or_eq_none_iff.mp passes
  by_cases hold : s.governor = .hold
  · have rest : DriveSafe False s (passCommit s f) :=
      (((appliedState_drive False.elim).trans (remappedState_safe s f).drive.unconditional id).trans
        (rejointedState_drive s f) id).trans (passCommit_afterJoints s f).drive.unconditional id
    exact rest.of_resting (by rw [passCommit_frame_governor, hold]; decide)
  · have away : (s.governor == .hold) = false := beq_eq_false_iff_ne.mpr hold
    unfold stateFault at state
    split at state
    · cases state
    next bar =>
      split at state
      · cases state
      next map =>
        have untouched : touchesRow (takenRows s f) 1 1 = false := by simpa [away, bne] using map
        have creep : (appliedState s f).tables.bar = s.tables.bar ∨ s.sequencer = .idle := by
          cases two : touches (takenRows s f) 2 with
          | false => exact .inl (layAll_bar_untouched two s.tables)
          | true =>
            refine .inr ?_
            simp only [two, Bool.true_or, Bool.true_and, mayChangeBar, away, Bool.false_or, Bool.not_eq_true', Bool.not_eq_false,
              Bool.and_eq_true, beq_iff_eq] at bar
            exact bar.2
        have joints : DriveSafe (JointsWithinStroke s) s (rejointedState s f) := by
          have applied : DriveSafe (JointsWithinStroke s) s (remappedState s f) := by
            rw [remappedState_of_untouched untouched]
            exact appliedState_drive fun _ => creep
          exact applied.trans (rejointedState_drive s f) id
        exact joints.trans (passCommit_afterJoints s f).drive (rejointedState_within structural)

theorem commitCompletion_safe (s : State) : Safe s (commitCompletion s) := by
  unfold commitCompletion
  split
  · rfl
  next f flying =>
    split
    · exact (outside_safe rfl rfl rfl rfl rfl rfl rfl rfl rfl rfl rfl fun _ => id : Safe s (leaveBuffer s f)).trans
        (reply_safe _ _ _ _ _ _ _)
    next passes =>
      exact ⟨passCommit_drive passes, passCommit_track (Option.or_eq_none_iff.mp passes).1⟩

/-- Every command keeps the part safe. -/
theorem effect_safe (c : Instr) (s : State) : Safe s (effect c s) := effect_safe_of_not_commit c s (commitCompletion_safe s)

end Sys2Proof.Machine
end

section
/-! What every step keeps: the invariants of axes, sequencer, registers, joints and governed values. -/

namespace Sys2Proof.Machine

open Sys2Proof

theorem tick_safe (s : State) : Safe s (tick s) := by
  have deliveries : DeliveriesKept s (tick s) := by
    refine ⟨fun a sound => ?_, fun _ a rests => ?_⟩ <;> rw [tick_delivery]
    · exact ⟨sound.sequence, sound.missStreak⟩
    · exact rests
  have axes (a : Axis) : (s.axis a).SameMotion ((tick s).axis a) := by
    rw [tick_axis]
    exact ⟨rfl, rfl, rfl⟩
  exact ⟨.of_same rfl rfl deliveries axes rfl, .of_same rfl rfl rfl rfl (fun _ => id) rfl rfl rfl⟩

theorem step_safe {s t : State} (taken : step s = .next t) : Safe s t := by
  refine step_keeps (P := Safe s) (fun u cs safe => safe.trans ?_) (fun u safe => safe.trans (madeChoices_safe u 1))
    (fun u safe => safe.trans (tick_safe u)) (fun c u v safe ran => safe.trans ?_) s t (.refl s) taken
  · exact outside_safe rfl rfl rfl rfl rfl rfl rfl rfl rfl rfl rfl fun _ => id
  · rw [eq_effect_of_exec ran]
    exact effect_safe c u

/-- Settles O56: every command and a millisecond keep the drives safe. -/
theorem stepsKeepAxesOutOfServiceNeutral : Obligations.StepsKeepAxesOutOfServiceNeutral :=
  fun _ _ neutral taken => (step_safe taken).drive.neutral neutral

/-- Settles O57: every command and a millisecond keep the drives safe. -/
theorem stepsKeepAutoWithTheSequencer : Obligations.StepsKeepAutoWithTheSequencer :=
  fun _ _ auto taken => (step_safe taken).drive.auto auto

/-- Settles O58: the registers of the drives are kept with them, the others by the tracking blocks. -/
theorem stepsKeepRegistersInRange : Obligations.StepsKeepRegistersInRange := fun s t range taken => by
  obtain ⟨plain, floor, demands, sound⟩ := (registersInRange_iff s).mp range
  have safe := step_safe taken
  exact (registersInRange_iff t).mpr
    ⟨safe.track.plain plain, safe.track.floor plain floor, safe.drive.demands demands, safe.drive.sound sound⟩

/-- Settles O59: allocations, divisions, lock and release events and commits settle the joints from a consistent bar. -/
theorem jointsStayWithinStroke : Obligations.JointsStayWithinStroke :=
  fun _ _ within taken => (step_safe taken).track.joints within

/-- Settles O60: every command and a millisecond keep the drives safe, the joints within their strokes. -/
theorem governedValuesStayWithinTheirDemands : Obligations.GovernedValuesStayWithinTheirDemands :=
  ⟨fun _ _ within neutral demand taken => (step_safe taken).drive.operator within neutral demand,
    fun _ _ within neutral auto demand taken => (step_safe taken).drive.sequence within neutral auto demand⟩

end Sys2Proof.Machine
end

section
/-! A change of a sensor record's state, handed on to key travel, axes, sequencer and stall test (R42, R44, R73, R115, R134,
R160). -/

namespace Sys2Proof.Machine

open Sys2Proof

/-! ## What a change of freshness leaves alone -/

/-- Beside what `Kept` says, all of the tracking blocks but the angle reference and the stall timer; the free choices made
may have grown. -/
structure FreshnessFrame (s t : State) : Prop extends Kept s t where
  sensors       : t.sensors = s.sensors
  joints        : t.joints = s.joints
  extension     : t.extension = s.extension
  mismatch      : t.mismatch = s.mismatch
  depthHeld     : t.depthHeld = s.depthHeld
  keyTravel     : t.keyTravel = s.keyTravel
  band          : t.band = s.band
  backoff       : t.backoff = s.backoff
  recoveryTimer : t.recoveryTimer = s.recoveryTimer
  machineFault  : t.machineFault = s.machineFault
  barFault      : t.barFault = s.barFault

theorem FreshnessFrame.trans {s t u : State} (h : FreshnessFrame s t) (k : FreshnessFrame t u) : FreshnessFrame s u where
  toKept := h.toKept.trans k.toKept
  sensors := k.sensors.trans h.sensors
  joints := k.joints.trans h.joints
  extension := k.extension.trans h.extension
  mismatch := k.mismatch.trans h.mismatch
  depthHeld := k.depthHeld.trans h.depthHeld
  keyTravel := k.keyTravel.trans h.keyTravel
  band := k.band.trans h.band
  backoff := k.backoff.trans h.backoff
  recoveryTimer := k.recoveryTimer.trans h.recoveryTimer
  machineFault := k.machineFault.trans h.machineFault
  barFault := k.barFault.trans h.barFault

theorem SameTracking.freshness {s t : State} (h : SameTracking s t) : FreshnessFrame s t :=
  ⟨h.toKept, h.sensors, h.joints, h.extension, h.mismatch, h.depthHeld, h.keyTravel, h.band, h.backoff, h.recoveryTimer,
    h.machineFault, h.barFault⟩

theorem FreshnessFrame.envelope {s t : State} (h : FreshnessFrame s t) : SameEnvelope s t :=
  ⟨h.tables, h.sensors, h.joints, h.mismatch, h.band, h.backoff, h.millis⟩

theorem freshnessMade_frame (s : State) (r : Option Int) (st : Timer) (c : Nat) :
    FreshnessFrame s { s with angleRef := r, stallTimer := st, choices := c } :=
  ⟨⟨.same rfl, rfl, rfl, rfl, rfl, rfl, rfl, rfl, rfl, rfl, rfl, rfl, rfl, rfl, rfl, rfl, rfl, rfl, rfl⟩,
    rfl, rfl, rfl, rfl, rfl, rfl, rfl, rfl, rfl, rfl, rfl⟩

theorem freshnessToKelly_eq (s : State) (q : Quantity) (old : RecordState) : freshnessToKelly s q old =
    { s with angleRef := if q = .angle ∧ old = .fresh ∧ isFresh s q = false then none else s.angleRef } := by
  unfold freshnessToKelly
  split <;> rfl

theorem freshnessToKelly_freshness (s : State) (q : Quantity) (old : RecordState) :
    FreshnessFrame s (freshnessToKelly s q old) := by
  rw [freshnessToKelly_eq]
  exact freshnessMade_frame s _ s.stallTimer s.choices

theorem freshnessToStall_of_load {q : Quantity} (load : q = .angle ∨ q = .torque) (s : State) :
    freshnessToStall s q = stallTest s := by
  rcases load with rfl | rfl <;> rfl

theorem freshnessToStall_of_other {q : Quantity} (angle : q ≠ .angle) (torque : q ≠ .torque) (s : State) :
    freshnessToStall s q = s := by
  cases q
  case angle => exact absurd rfl angle
  case torque => exact absurd rfl torque
  all_goals rfl

theorem freshnessToStall_eq (s : State) (q : Quantity) : freshnessToStall s q =
    { s with stallTimer := (freshnessToStall s q).stallTimer } := by
  by_cases load : q = .angle ∨ q = .torque
  · rw [freshnessToStall_of_load load]
    rfl
  · rw [not_or] at load
    rw [freshnessToStall_of_other load.1 load.2]

theorem freshnessToStall_freshness (s : State) (q : Quantity) : FreshnessFrame s (freshnessToStall s q) := by
  rw [freshnessToStall_eq]
  exact freshnessMade_frame s s.angleRef _ s.choices

/-! ## The axes (R134, R160) -/

theorem madeChoices_freshness (s : State) (n : Nat) : FreshnessFrame s (madeChoices s n) :=
  freshnessMade_frame s s.angleRef s.stallTimer _

/-- The axes evaluated before an abort, and the state of the abort. -/
def abortedAmid (s : State) : State := abortAndHandBack (evaluateAxes (madeChoices s 3) (chosenAxes s true)) .stale

theorem freshnessToAxes_of_ends {s : State} {q : Quantity} {old : RecordState} (ends : endsSequence s q old = true) :
    freshnessToAxes s q old = evaluateAxes (abortedAmid s) (chosenAxes s false) := by
  rw [freshnessToAxes, if_pos ends]
  rfl

theorem freshnessToAxes_of_kept {s : State} {q : Quantity} {old : RecordState} (kept : endsSequence s q old = false) :
    freshnessToAxes s q old = evaluateAll s := by
  rw [freshnessToAxes, if_neg (by rw [kept]; decide)]

theorem freshnessToAxes_freshness (s : State) (q : Quantity) (old : RecordState) : FreshnessFrame s (freshnessToAxes s q old) := by
  cases ends : endsSequence s q old with
  | false =>
    rw [freshnessToAxes_of_kept ends]
    exact (evaluateAxes_frame s _).toSameTracking.freshness
  | true =>
    rw [freshnessToAxes_of_ends ends]
    exact (((madeChoices_freshness s 3).trans (evaluateAxes_frame _ _).toSameTracking.freshness).trans
      (abortAndHandBack_frame _ _).freshness).trans (evaluateAxes_frame _ _).toSameTracking.freshness

theorem handOnFreshness_freshness (s : State) (q : Quantity) (old : RecordState) : FreshnessFrame s (handOnFreshness s q old) :=
  ((freshnessToKelly_freshness s q old).trans (freshnessToAxes_freshness _ q old)).trans (freshnessToStall_freshness _ q)

theorem freshnessToAxes_trackers (s : State) (q : Quantity) (old : RecordState) :
    (freshnessToAxes s q old).angleRef = s.angleRef ∧ (freshnessToAxes s q old).stallTimer = s.stallTimer := by
  cases ends : endsSequence s q old with
  | false =>
    rw [freshnessToAxes_of_kept ends]
    exact ⟨(evaluateAxes_frame s _).angleRef, (evaluateAxes_frame s _).stallTimer⟩
  | true =>
    rw [freshnessToAxes_of_ends ends]
    have after := (evaluateAxes_frame (abortedAmid s) (chosenAxes s false)).toSameTracking
    have amid := abortAndHandBack_frame (evaluateAxes (madeChoices s 3) (chosenAxes s true)) .stale
    have before := (evaluateAxes_frame (madeChoices s 3) (chosenAxes s true)).toSameTracking
    exact ⟨after.angleRef.trans (amid.angleRef.trans before.angleRef),
      after.stallTimer.trans (amid.stallTimer.trans before.stallTimer)⟩

theorem handOnFreshness_angleRef (s : State) (q : Quantity) (old : RecordState) : (handOnFreshness s q old).angleRef =
    if q = .angle ∧ old = .fresh ∧ isFresh s q = false then none else s.angleRef := by
  unfold handOnFreshness
  rw [freshnessToStall_eq]
  show (freshnessToAxes _ q old).angleRef = _
  rw [(freshnessToAxes_trackers _ q old).1, freshnessToKelly_eq]

theorem handOnFreshness_stallTimer_of_other {q : Quantity} (angle : q ≠ .angle) (torque : q ≠ .torque) (s : State)
    (old : RecordState) : (handOnFreshness s q old).stallTimer = s.stallTimer := by
  unfold handOnFreshness
  rw [freshnessToStall_of_other angle torque, (freshnessToAxes_trackers _ q old).2, freshnessToKelly_eq]

/-- Every axis is evaluated now, before an abort or after it. -/
theorem mem_chosenAxes (s : State) (a : Axis) (b : Bool) : a ∈ chosenAxes s b ↔ chooses s a.code = b := by
  unfold chosenAxes
  rw [List.mem_filter, beq_iff_eq]
  exact ⟨fun h => h.2, fun h => ⟨mem_allAxes a, h⟩⟩

theorem chosenAxes_nodup (s : State) (b : Bool) : (chosenAxes s b).Nodup := List.Nodup.filter _ (by decide)

theorem freshnessToKelly_drive (s : State) (q : Quantity) (old : RecordState) :
    SameDrive s (freshnessToKelly s q old) ∧ (freshnessToKelly s q old).reports = s.reports := by
  rw [freshnessToKelly_eq]
  exact ⟨⟨rfl, rfl, rfl, rfl, rfl⟩, rfl⟩

theorem freshnessToStall_drive (s : State) (q : Quantity) :
    SameDrive s (freshnessToStall s q) ∧ (freshnessToStall s q).reports = s.reports := by
  rw [freshnessToStall_eq]
  exact ⟨⟨rfl, rfl, rfl, rfl, rfl⟩, rfl⟩

theorem SameDrive.interlocks {s t : State} (h : SameDrive s t) : SameInterlocks s t := by
  refine ⟨h.sequencer, ?_⟩
  unfold slipInterlock
  rw [h.axes]

/-- An evaluation reads envelope and drives alone. -/
theorem evaluated_of_same {s t : State} (envelope : SameEnvelope s t) (drive : SameDrive s t) (a : Axis) :
    evaluated t a = evaluated s a :=
  envelope.evaluated (fun _ => drive.interlocks) drive.sequencer (congrArg (fun x => x.get a) drive.axes)

theorem endsSequence_of_same {s t : State} (envelope : SameEnvelope s t) (sequencer : t.sequencer = s.sequencer) (q : Quantity)
    (old : RecordState) : endsSequence t q old = endsSequence s q old := by
  unfold endsSequence
  rw [sequencer, envelope.isFresh, envelope.isFresh, envelope.isFresh, envelope.tables]

/-- A hand-on that leaves the sequence as it is evaluates every axis and reports nothing. -/
theorem handOnFreshness_of_kept {s : State} {q : Quantity} {old : RecordState} (kept : endsSequence s q old = false) :
    let t := handOnFreshness s q old
    (∀ a, EvaluatedIn s s t a) ∧ t.sequencer = s.sequencer ∧ t.sequenceTimer = s.sequenceTimer ∧ t.aborts = s.aborts ∧
    t.reports = s.reports := by
  intro t
  obtain ⟨driveW, reportsW⟩ := freshnessToKelly_drive s q old
  have frameW := freshnessToKelly_freshness s q old
  have whole : t = freshnessToStall (freshnessToAxes (freshnessToKelly s q old) q old) q := rfl
  clear_value t
  generalize freshnessToKelly s q old = w at driveW reportsW frameW whole
  rw [freshnessToAxes_of_kept ((endsSequence_of_same frameW.envelope driveW.sequencer q old).trans kept)] at whole
  have frame : SameSequence w (evaluateAll w) := evaluateAxes_frame w _
  obtain ⟨driveT, reportsT⟩ := freshnessToStall_drive (evaluateAll w) q
  have portsT := (freshnessToStall_freshness (evaluateAll w) q).ports
  rw [← whole] at driveT reportsT portsT
  refine ⟨fun a => ?_, driveT.sequencer.trans (frame.sequencer.trans driveW.sequencer),
    driveT.sequenceTimer.trans (frame.sequenceTimer.trans driveW.sequenceTimer),
    driveT.aborts.trans (frame.aborts.trans driveW.aborts),
    reportsT.trans ((evaluateAxes_reports w _).trans reportsW)⟩
  exact ((evaluateAll_evaluatedIn w a).of_same (evaluated_of_same frameW.envelope driveW a) (driveW.at frameW.ports a)
    frameW.millis frameW.governor).then_same (driveT.at portsT a)

/-- A sequence ended by the loss of a sensor: ROTARY handed back at 0, and every axis evaluated, each before the abort or after
it (R129, R134, R160). -/
structure EndedStale (s t : State) : Prop where
  idle    : t.sequencer = .idle
  timer   : t.sequenceTimer = none
  aborts  : t.aborts = addAbort s.aborts .stale
  active  : s.axes.rotary.freshness.isSome = true → t.axes.rotary = { s.axes.rotary with
    state := .active, demand := some 0, governed := 0, cause := .none, lastEval := some s.millis }
  neutral : s.axes.rotary.freshness = none → t.axes.rotary = { s.axes.rotary with
    state := .neutral, demand := some 0, governed := 0, cause := t.axes.rotary.cause, lastEval := some s.millis
    ramp := none, exits := addExit s.axes.rotary.exits .stale }
  others  : ∀ a, a ≠ .rotary → t.axis a = { s.axis a with
    governed := (t.axis a).governed, cause := (t.axis a).cause, lastEval := some s.millis }
  told    : reportsAfter s .autoAborted (if s.sequencer = .releasing then 1 else 0) AbortCause.stale.bit <+: t.reports

theorem evaluated_of_out {s : State} {a : Axis} (out : (s.axis a).state.outOfService) : evaluated s a = (0, .none) := by
  rcases out with h | h <;> simp only [evaluated, h]

theorem evaluated_of_zero {s : State} {a : Axis} (active : (s.axis a).state = .active) (zero : (s.axis a).demand = some 0) :
    evaluated s a = (0, .none) := by
  simp only [evaluated, active, zero, Option.getD_some, governedValue_zero]

/-- An evaluation now or not at all: what becomes of an axis record. -/
def AxisRecord.EvaluatedOnce (r r' : AxisRecord) (now : Millis) (done : Prop) : Prop :=
  r' = { r with governed := r'.governed, cause := r'.cause, lastEval := r'.lastEval } ∧ (done → r'.lastEval = some now) ∧
  (¬done → r' = r)

theorem evaluateAxes_once (s : State) (b : Bool) (of_ : State) (a : Axis) :
    (s.axis a).EvaluatedOnce ((evaluateAxes s (chosenAxes of_ b)).axis a) s.millis (chooses of_ a.code = b) := by
  by_cases chosen : chooses of_ a.code = b
  · have record := (evaluateAxes_evaluatedIn (chosenAxes_nodup of_ b) ((mem_chosenAxes of_ a b).mpr chosen) s).1
    rw [record]
    exact ⟨rfl, fun _ => rfl, fun apart => absurd chosen apart⟩
  · have record := (evaluateAxes_same_at (fun member => chosen ((mem_chosenAxes of_ a b).mp member)) s).axis
    rw [record]
    exact ⟨rfl, fun now => absurd now chosen, fun _ => rfl⟩

/-- The three stages of an ended sequence: evaluations of the axes in `P`, the abort, evaluations of the others. -/
theorem EndedStale.of_stages {s e u t : State} {P : Axis → Prop} (frameE : SameSequence (madeChoices s 3) e)
    (onceE : ∀ a, (s.axis a).EvaluatedOnce (e.axis a) s.millis (P a)) (reportsE : e.reports = s.reports)
    (idle : u.sequencer = .idle) (timer : u.sequenceTimer = none) (aborts : u.aborts = addAbort e.aborts .stale)
    (handed : HandedBackAtZero e u) (others : ∀ b, b ≠ .rotary → SameAt b e u)
    (told : reportsAfter e .autoAborted (if e.sequencer = .releasing then 1 else 0) AbortCause.stale.bit <+: u.reports)
    (frameT : SameSequence u t) (reportsT : t.reports = u.reports)
    (onceT : ∀ a, (u.axis a).EvaluatedOnce (t.axis a) s.millis (¬P a))
    (evaluatedT : ¬P .rotary → t.axis .rotary = { u.axis .rotary with
      governed := (evaluated u .rotary).1, cause := (evaluated u .rotary).2, lastEval := some s.millis }) : EndedStale s t := by
  obtain ⟨sameE, nowE, -⟩ := onceE .rotary
  obtain ⟨-, -, keptT⟩ := onceT .rotary
  have freshness : e.axes.rotary.freshness = s.axes.rotary.freshness := by
    rw [show e.axes.rotary = _ from sameE]
    rfl
  refine ⟨frameT.sequencer.trans idle, frameT.sequenceTimer.trans timer, ?_, fun fresh => ?_, fun stale => ?_, fun a other => ?_, ?_⟩
  · rw [frameT.aborts, aborts, frameE.aborts]
    rfl
  · have back := handed.active (by rw [freshness]; exact fresh)
    rw [show e.axes.rotary = _ from sameE, frameE.millis] at back
    have zero : evaluated u .rotary = (0, .none) :=
      evaluated_of_zero (a := .rotary) (by show u.axes.rotary.state = _; rw [back]) (by show u.axes.rotary.demand = _; rw [back])
    show t.axis .rotary = _
    by_cases before : P .rotary
    · rw [keptT (not_not.mpr before)]
      exact back
    · rw [evaluatedT before, zero, show u.axis .rotary = _ from back]
      rfl
  · have back := handed.neutral (by rw [freshness]; exact stale)
    have zero : evaluated u .rotary = (0, .none) :=
      evaluated_of_out (a := .rotary) (.inl (by show u.axes.rotary.state = _; rw [back]))
    rw [show e.axes.rotary = _ from sameE] at back
    show t.axis .rotary = _
    by_cases before : P .rotary
    · have now : e.axes.rotary.lastEval = some s.millis := nowE before
      have kept : t.axes.rotary = u.axes.rotary := keptT (not_not.mpr before)
      rw [kept, show t.axis .rotary = _ from kept, back, show (e.axis .rotary).lastEval = _ from now]
      rfl
    · have record := evaluatedT before
      rw [show t.axes.rotary = _ from record, record, zero, show u.axis .rotary = _ from back]
      rfl
  · obtain ⟨sameA, nowA, keptA⟩ := onceE a
    obtain ⟨sameB, nowB, keptB⟩ := onceT a
    have middle := (others a other).axis
    by_cases before : P a
    · rw [keptB (not_not.mpr before), middle, ← nowA before]
      exact sameA
    · rw [middle, keptA before] at sameB
      rw [← nowB before]
      exact sameB
  · rw [reportsT]
    rw [reportsAfter_congr (s := s) frameE.tables (reportsE) frameE.channel frameE.millis, frameE.sequencer] at told
    exact told

theorem freshnessToAxes_ended {s : State} {q : Quantity} {old : RecordState} (ends : endsSequence s q old = true) :
    EndedStale s (freshnessToAxes s q old) := by
  have running : s.sequencer ≠ .idle := by
    simp only [endsSequence, Bool.and_eq_true, bne_iff_ne] at ends
    exact ends.1.1.1
  have frameE : SameSequence (madeChoices s 3) (evaluateAxes (madeChoices s 3) (chosenAxes s true)) := evaluateAxes_frame _ _
  obtain ⟨idle, timer, aborts, handed, others, told⟩ := abortAndHandBack_of_running
    (evaluateAxes (madeChoices s 3) (chosenAxes s true)) .stale (by rw [frameE.sequencer]; exact running)
  have millis : (abortedAmid s).millis = s.millis := (abortAndHandBack_frame _ .stale).millis.trans frameE.millis
  rw [freshnessToAxes_of_ends ends]
  refine .of_stages (P := fun a => chooses s a.code = true) frameE (fun a => evaluateAxes_once (madeChoices s 3) true s a)
    (evaluateAxes_reports _ _) idle timer aborts handed others told (evaluateAxes_frame (abortedAmid s) _)
    (evaluateAxes_reports _ _) (fun a => ?_) (fun after => ?_)
  · have once := evaluateAxes_once (abortedAmid s) false s a
    rw [millis] at once
    rw [Bool.not_eq_true]
    exact once
  · rw [Bool.not_eq_true] at after
    have record := (evaluateAxes_evaluatedIn (chosenAxes_nodup s false) ((mem_chosenAxes s .rotary false).mpr after)
      (abortedAmid s)).1
    rw [millis] at record
    exact record

/-- A hand-on that ends a running sequence. -/
theorem handOnFreshness_of_ends {s : State} {q : Quantity} {old : RecordState} (ends : endsSequence s q old = true) :
    EndedStale s (handOnFreshness s q old) := by
  obtain ⟨driveW, reportsW⟩ := freshnessToKelly_drive s q old
  have frameW := freshnessToKelly_freshness s q old
  have whole : handOnFreshness s q old = freshnessToStall (freshnessToAxes (freshnessToKelly s q old) q old) q := rfl
  rw [whole]
  generalize freshnessToKelly s q old = w at driveW reportsW frameW
  have ended := freshnessToAxes_ended ((endsSequence_of_same frameW.envelope driveW.sequencer q old).trans ends)
  obtain ⟨driveT, reportsT⟩ := freshnessToStall_drive (freshnessToAxes w q old) q
  generalize freshnessToAxes w q old = v at ended driveT reportsT ⊢
  generalize freshnessToStall v q = t at driveT reportsT
  obtain ⟨idle, timer, aborts, active, neutral, others, told⟩ := ended
  have axisT (a : Axis) : t.axis a = v.axis a := congrArg (fun x => x.get a) driveT.axes
  have axisW (a : Axis) : w.axis a = s.axis a := congrArg (fun x => x.get a) driveW.axes
  rw [driveW.axes, frameW.millis] at active neutral
  refine ⟨driveT.sequencer.trans idle, driveT.sequenceTimer.trans timer, ?_, fun fresh => ?_, fun stale => ?_,
    fun a other => ?_, ?_⟩
  · rw [driveT.aborts, aborts, driveW.aborts]
  · rw [driveT.axes]
    exact active fresh
  · rw [driveT.axes]
    exact neutral stale
  · rw [axisT, ← axisW, ← frameW.millis]
    exact others a other
  · rw [reportsT]
    rw [reportsAfter_congr (s := s) frameW.tables reportsW frameW.channel frameW.millis, driveW.sequencer] at told
    exact told

/-! ## A record that becomes STALE (R37, R40, R42) -/

/-- Beside what is free to follow the change of a sensor record (ports, counters, sensors, angle reference, stall timer, drives and
choices), nothing changes, and the report queue only grows. -/
structure SampleFrame (s t : State) : Prop extends ReportsGrow s t where
  pending       : t.pending = s.pending
  resetLow      : t.resetLow = s.resetLow
  bitRate       : t.bitRate = s.bitRate
  millis        : t.millis = s.millis
  channel       : t.channel = s.channel
  governor      : t.governor = s.governor
  quiet         : t.quiet = s.quiet
  earlierMap    : t.earlierMap = s.earlierMap
  tables        : t.tables = s.tables
  selection     : t.selection = s.selection
  loadFlags     : t.loadFlags = s.loadFlags
  buffer        : t.buffer = s.buffer
  flight        : t.flight = s.flight
  replies       : t.replies = s.replies
  restarting    : t.restarting = s.restarting
  statusSlot    : t.statusSlot = s.statusSlot
  statusTimer   : t.statusTimer = s.statusTimer
  joints        : t.joints = s.joints
  extension     : t.extension = s.extension
  mismatch      : t.mismatch = s.mismatch
  depthHeld     : t.depthHeld = s.depthHeld
  keyTravel     : t.keyTravel = s.keyTravel
  band          : t.band = s.band
  backoff       : t.backoff = s.backoff
  recoveryTimer : t.recoveryTimer = s.recoveryTimer
  machineFault  : t.machineFault = s.machineFault
  barFault      : t.barFault = s.barFault

theorem SampleFrame.trans {s t u : State} (h : SampleFrame s t) (k : SampleFrame t u) : SampleFrame s u where
  toReportsGrow := h.toReportsGrow.trans k.toReportsGrow
  pending := k.pending.trans h.pending
  resetLow := k.resetLow.trans h.resetLow
  bitRate := k.bitRate.trans h.bitRate
  millis := k.millis.trans h.millis
  channel := k.channel.trans h.channel
  governor := k.governor.trans h.governor
  quiet := k.quiet.trans h.quiet
  earlierMap := k.earlierMap.trans h.earlierMap
  tables := k.tables.trans h.tables
  selection := k.selection.trans h.selection
  loadFlags := k.loadFlags.trans h.loadFlags
  buffer := k.buffer.trans h.buffer
  flight := k.flight.trans h.flight
  replies := k.replies.trans h.replies
  restarting := k.restarting.trans h.restarting
  statusSlot := k.statusSlot.trans h.statusSlot
  statusTimer := k.statusTimer.trans h.statusTimer
  joints := k.joints.trans h.joints
  extension := k.extension.trans h.extension
  mismatch := k.mismatch.trans h.mismatch
  depthHeld := k.depthHeld.trans h.depthHeld
  keyTravel := k.keyTravel.trans h.keyTravel
  band := k.band.trans h.band
  backoff := k.backoff.trans h.backoff
  recoveryTimer := k.recoveryTimer.trans h.recoveryTimer
  machineFault := k.machineFault.trans h.machineFault
  barFault := k.barFault.trans h.barFault

theorem FreshnessFrame.sample {s t : State} (h : FreshnessFrame s t) : SampleFrame s t :=
  ⟨h.toReportsGrow, h.pending, h.resetLow, h.bitRate, h.millis, h.channel, h.governor, h.quiet, h.earlierMap, h.tables, h.selection,
    h.loadFlags, h.buffer, h.flight, h.replies, h.restarting, h.statusSlot, h.statusTimer, h.joints, h.extension, h.mismatch,
    h.depthHeld, h.keyTravel, h.band, h.backoff, h.recoveryTimer, h.machineFault, h.barFault⟩

/-- Ports, sensors and counters apart, the state is the same. -/
theorem SampleFrame.made (s : State) (ports : PerPort PortRecord) (sensors : PerQuantity SensorRecord) (counters : Counters)
    (choices : Nat) :
    SampleFrame s { s with ports := ports, sensors := sensors, counters := counters, choices := choices } :=
  ⟨.same rfl, rfl, rfl, rfl, rfl, rfl, rfl, rfl, rfl, rfl, rfl, rfl, rfl, rfl, rfl, rfl, rfl, rfl, rfl, rfl, rfl, rfl, rfl, rfl, rfl, rfl,
    rfl, rfl⟩

/-- What `SampleFrame` leaves free, named: then the tracking blocks are the same. -/
theorem SampleFrame.tracking {s t : State} (h : SampleFrame s t) : SameTracking { s with
    ports := t.ports, sensors := t.sensors, angleRef := t.angleRef, stallTimer := t.stallTimer, choices := t.choices } t :=
  ⟨⟨⟨h.grows, h.bound⟩, h.pending, h.resetLow, h.bitRate, h.millis, rfl, h.channel, h.governor, h.quiet, h.earlierMap, h.tables,
    h.selection, h.loadFlags, h.buffer, h.flight, h.replies, h.restarting, h.statusSlot, h.statusTimer⟩, rfl, h.joints, h.extension,
    h.mismatch, h.depthHeld, h.keyTravel, rfl, h.band, h.backoff, rfl, h.recoveryTimer, h.machineFault, h.barFault, rfl⟩

/-- Only ports, counters and choices changed, and reports may have been raised; the machine port is in BUS_OFF or not as before. -/
structure Beside (s t : State) : Prop where
  frame      : SampleFrame s t
  drive      : SameDrive s t
  sensors    : t.sensors = s.sensors
  angleRef   : t.angleRef = s.angleRef
  stallTimer : t.stallTimer = s.stallTimer
  off        : isBusOff t .machine = isBusOff s .machine

theorem Beside.trans {s t u : State} (h : Beside s t) (k : Beside t u) : Beside s u :=
  ⟨h.frame.trans k.frame, h.drive.trans k.drive, k.sensors.trans h.sensors, k.angleRef.trans h.angleRef,
    k.stallTimer.trans h.stallTimer, k.off.trans h.off⟩

@[refl] theorem Beside.refl (s : State) : Beside s s :=
  ⟨.made s s.ports s.sensors s.counters s.choices, ⟨rfl, rfl, rfl, rfl, rfl⟩, rfl, rfl, rfl, rfl⟩

theorem Beside.envelope {s t : State} (h : Beside s t) : SameEnvelope s t :=
  ⟨h.frame.tables, h.sensors, h.frame.joints, h.frame.mismatch, h.frame.band, h.frame.backoff, h.frame.millis⟩

/-- The loss of a sensor ends a running sequence: ANGLE lost from FRESH, or PAYOUT or HEAD in TRACKING (R160). -/
def LossEnds (s : State) (q : Quantity) : Prop := s.sequencer ≠ .idle ∧ (s.sensor q).state = .fresh ∧
  (q = .angle ∨ ((q = .payout ∨ q = .head) ∧ geometry s = .tracking))

/-- What the loss of a sensor leaves (R37, R40, R44, R73, R115, R134, R160). -/
structure SensorLost (s t : State) (q : Quantity) : Prop where
  frame      : SampleFrame s t
  sensors    : t.sensors = (s.setSensor q (s.sensor q).toStale).sensors
  angleRef   : t.angleRef = if q = .angle ∧ (s.sensor q).state = .fresh then none else s.angleRef
  stallKept  : q ≠ .angle → q ≠ .torque → t.stallTimer = s.stallTimer
  stallEnded : q = .angle ∨ q = .torque → t.stallTimer = none
  kept       : ¬LossEnds s q → (t.sequencer = s.sequencer ∧ t.sequenceTimer = s.sequenceTimer ∧ t.aborts = s.aborts) ∧
    ∀ a, EvaluatedIn (s.setSensor q (s.sensor q).toStale) s t a
  ended      : LossEnds s q → t.sequencer = .idle ∧ t.sequenceTimer = none ∧ t.aborts = addAbort s.aborts .stale ∧
    (s.axes.rotary.freshness.isSome = true → t.axes.rotary = { s.axes.rotary with
      state := .active, demand := some 0, governed := 0, cause := .none, lastEval := some s.millis }) ∧
    (s.axes.rotary.freshness = none → t.axes.rotary = { s.axes.rotary with
      state := .neutral, demand := some 0, governed := 0, cause := t.axes.rotary.cause, lastEval := some s.millis
      ramp := none, exits := addExit s.axes.rotary.exits .stale }) ∧
    (∀ a, a ≠ .rotary → t.axis a = { s.axis a with
      governed := (t.axis a).governed, cause := (t.axis a).cause, lastEval := some s.millis })

/-- The reports of a loss: SENSOR_STALE before anything it leads to (R42). -/
def LossTold (s t : State) (q : Quantity) (cause : Nat) : Prop :=
  reportsAfter s .sensorStale q.code cause <+: t.reports ∧
  (LossEnds s q → reportsAfter (report s .sensorStale q.code cause) .autoAborted (if s.sequencer = .releasing then 1 else 0)
    AbortCause.stale.bit <+: t.reports)

theorem setSensor_stale_isFresh (s : State) (q r : Quantity) : isFresh (s.setSensor q (s.sensor q).toStale) r =
    (decide (r ≠ q) && isFresh s r) := by
  unfold isFresh
  by_cases same : r = q
  · subst same
    rw [State.sensor_setSensor_same]
    simp [SensorRecord.toStale]
  · rw [State.sensor_setSensor_other s q r _ same]
    simp [same]

theorem geometry_tracking_iff (s : State) : geometry s = .tracking ↔
    s.tables.bar.valid = true ∧ s.tables.rig.valid = true ∧ isFresh s .payout = true ∧ isFresh s .head = true := by
  unfold geometry
  cases s.tables.bar.valid <;> cases s.tables.rig.valid <;> cases isFresh s .payout <;> cases isFresh s .head <;> simp

/-- The hand-on of a loss ends the sequence where the loss does. -/
theorem endsSequence_loss (s : State) (q : Quantity) (k : EventKind) (i : Nat) (d : Int) :
    endsSequence (report (s.setSensor q (s.sensor q).toStale) k i d) q (s.sensor q).state = true ↔ LossEnds s q := by
  have same := endsSequence_of_same (s := s.setSensor q (s.sensor q).toStale)
    (t := report (s.setSensor q (s.sensor q).toStale) k i d) (report_frame _ _ _ _).toSameTracking.envelope rfl q (s.sensor q).state
  rw [same]
  have tables : (s.setSensor q (s.sensor q).toStale).tables = s.tables := rfl
  have sequencer : (s.setSensor q (s.sensor q).toStale).sequencer = s.sequencer := rfl
  have fresh (r : Quantity) : isFresh s r = true ↔ (s.sensor r).state = .fresh := by simp [isFresh]
  unfold endsSequence LossEnds
  rw [setSensor_stale_isFresh, setSensor_stale_isFresh, setSensor_stale_isFresh, tables, sequencer, geometry_tracking_iff]
  cases q <;> simp [fresh] <;> tauto

theorem stallTest_timer_of_unmet {s : State} (unmet : stallStands s = false) : (stallTest s).stallTimer = none := by
  unfold stallTest
  rw [unmet]
  rfl

theorem stallStands_of_notFresh {s : State} {q : Quantity} (load : q = .angle ∨ q = .torque) (lost : isFresh s q = false) :
    stallStands s = false := by
  unfold stallStands
  rcases load with rfl | rfl <;> simp [lost]

theorem handOnFreshness_stallTimer_of_lost {s : State} {q : Quantity} (load : q = .angle ∨ q = .torque)
    (lost : isFresh s q = false) (old : RecordState) : (handOnFreshness s q old).stallTimer = none := by
  have frame : FreshnessFrame s (freshnessToAxes (freshnessToKelly s q old) q old) :=
    (freshnessToKelly_freshness s q old).trans (freshnessToAxes_freshness _ q old)
  unfold handOnFreshness
  rw [freshnessToStall_of_load load]
  exact stallTest_timer_of_unmet (stallStands_of_notFresh load ((frame.envelope.isFresh q).trans lost))

/-- The state in which a loss is handed on: the record STALE, and SENSOR_STALE raised. -/
def lostRecord (s : State) (q : Quantity) (c : StaleCause) : State :=
  report (s.setSensor q (s.sensor q).toStale) .sensorStale q.code c.code

theorem becomeStale_eq (s : State) (q : Quantity) (c : StaleCause) :
    becomeStale s q c = handOnFreshness (lostRecord s q c) q (s.sensor q).state := rfl

theorem lostRecord_beside (s : State) (q : Quantity) (c : StaleCause) :
    SampleFrame s (lostRecord s q c) ∧ SameDrive s (lostRecord s q c) ∧
    (lostRecord s q c).sensors = (s.setSensor q (s.sensor q).toStale).sensors ∧ (lostRecord s q c).ports = s.ports ∧
    (lostRecord s q c).reports = reportsAfter s .sensorStale q.code c.code := by
  have told := (report_frame (s.setSensor q (s.sensor q).toStale) .sensorStale q.code c.code).toSameTracking.freshness.sample
  exact ⟨(SampleFrame.made s s.ports _ s.counters s.choices).trans told, ⟨rfl, rfl, rfl, rfl, rfl⟩, rfl, rfl, rfl⟩

theorem becomeStale_lost (s : State) (q : Quantity) (c : StaleCause) :
    SensorLost s (becomeStale s q c) q ∧ LossTold s (becomeStale s q c) q c.code := by
  obtain ⟨frameW, driveW, sensorsW, portsW, reportsW⟩ := lostRecord_beside s q c
  have endsW := endsSequence_loss s q .sensorStale q.code c.code
  have envelopeW : SameEnvelope (s.setSensor q (s.sensor q).toStale) (lostRecord s q c) :=
    ⟨frameW.tables, sensorsW, frameW.joints, frameW.mismatch, frameW.band, frameW.backoff, frameW.millis⟩
  have lostW : isFresh (lostRecord s q c) q = false := by
    rw [envelopeW.isFresh, setSensor_stale_isFresh]
    simp
  have driveV : SameDrive (s.setSensor q (s.sensor q).toStale) (lostRecord s q c) := ⟨driveW.axes, driveW.deliveries,
    driveW.sequencer, driveW.sequenceTimer, driveW.aborts⟩
  have angleW : (lostRecord s q c).angleRef = s.angleRef := rfl
  have stallW : (lostRecord s q c).stallTimer = s.stallTimer := rfl
  rw [becomeStale_eq]
  change endsSequence (lostRecord s q c) q (s.sensor q).state = true ↔ LossEnds s q at endsW
  generalize lostRecord s q c = w at *
  have frameT := handOnFreshness_freshness w q (s.sensor q).state
  have angleT := handOnFreshness_angleRef w q (s.sensor q).state
  have stallT := fun angle torque => handOnFreshness_stallTimer_of_other (q := q) angle torque w (s.sensor q).state
  have stallLost := fun load => handOnFreshness_stallTimer_of_lost (q := q) load lostW (s.sensor q).state
  have keptT := fun kept => handOnFreshness_of_kept (s := w) (q := q) (old := (s.sensor q).state) kept
  have endedT := fun ends => handOnFreshness_of_ends (s := w) (q := q) (old := (s.sensor q).state) ends
  generalize handOnFreshness w q (s.sensor q).state = t at *
  have notEnds (kept : ¬LossEnds s q) : endsSequence w q (s.sensor q).state = false := by
    rw [← Bool.not_eq_true, endsW]
    exact kept
  refine ⟨⟨frameW.trans frameT.sample, frameT.sensors.trans sensorsW, ?_, fun angle torque => (stallT angle torque).trans stallW,
    stallLost, fun kept => ?_, fun ends => ?_⟩, ?_, fun ends => ?_⟩
  · rw [angleT, angleW]
    simp [lostW]
  · obtain ⟨axes, sequencer, timer, aborts, -⟩ := keptT (notEnds kept)
    exact ⟨⟨sequencer.trans driveW.sequencer, timer.trans driveW.sequenceTimer, aborts.trans driveW.aborts⟩, fun a =>
      (axes a).of_same (evaluated_of_same envelopeW driveV a) (driveW.at portsW a) frameW.millis frameW.governor⟩
  · obtain ⟨idle, timer, aborts, active, neutral, others, -⟩ := endedT (endsW.mpr ends)
    have axisW (a : Axis) : w.axis a = s.axis a := congrArg (fun x => x.get a) driveW.axes
    rw [driveW.axes, frameW.millis] at active neutral
    refine ⟨idle, timer, by rw [aborts, driveW.aborts], active, neutral, fun a other => ?_⟩
    rw [← axisW, ← frameW.millis]
    exact others a other
  · rw [← reportsW]
    exact frameT.grows
  · have told := (endedT (endsW.mpr ends)).told
    rw [reportsAfter_congr (s := report s .sensorStale q.code c.code) frameW.tables reportsW frameW.channel frameW.millis,
      driveW.sequencer] at told
    exact told

end Sys2Proof.Machine
end

section
/-! A SENSOR SAMPLE and the copy of it that is forwarded, in whichever order (R6, log 10); the loss of a sensor (R37, R40). -/

namespace Sys2Proof.Machine

open Sys2Proof

/-! ## The copy of a sample (R6, R10, R11) -/

theorem heard_beside (s : State) : Beside s (heard s .machine) :=
  ⟨.made s _ s.sensors s.counters s.choices, ⟨rfl, rfl, rfl, rfl, rfl⟩, rfl, rfl, rfl, heard_busOff s .machine .machine⟩

theorem madeChoices_beside (s : State) (n : Nat) : Beside s (madeChoices s n) :=
  ⟨.made s s.ports s.sensors s.counters _, ⟨rfl, rfl, rfl, rfl, rfl⟩, rfl, rfl, rfl, rfl⟩

theorem report_beside (s : State) (k : EventKind) (i : Nat) (d : Int) : Beside s (report s k i d) :=
  ⟨(report_frame s k i d).toSameTracking.freshness.sample, ⟨rfl, rfl, rfl, rfl, rfl⟩, rfl, rfl, rfl, rfl⟩

theorem forwardFrame_beside (s : State) (f : Frame) : Beside s (forwardFrame s .machine f) := by
  have moved (ports : PerPort PortRecord) (counters : Counters) (same : ports.machine = s.ports.machine) :
      Beside s { s with ports := ports, counters := counters } :=
    ⟨.made s ports s.sensors counters s.choices, ⟨rfl, rfl, rfl, rfl, rfl⟩, rfl, rfl, rfl, by
      show (ports.machine.status == .busOff) = (s.ports.machine.status == .busOff)
      rw [same]⟩
  unfold forwardFrame dropFrame appendFrame
  dsimp only
  split
  · split
    · exact moved s.ports _ rfl
    · exact (moved (s.ports.set .operator { s.ports.operator with dropMark := true }) _ rfl).trans (report_beside _ _ _ _)
  · exact moved (s.ports.set .operator { s.ports.operator with queue := s.ports.operator.queue ++ [f] }) _ rfl

theorem copied_beside (s : State) (f : Frame) : Beside s (copied s f) := by
  rw [copied_eq]
  split
  · exact ((heard_beside s).trans (madeChoices_beside _ 1)).trans (forwardFrame_beside _ f)
  · exact (heard_beside s).trans (forwardFrame_beside _ f)

/-- The copy of a sample goes before Sensor Intake, but for a drop to be reported, which may follow it (R6; log 10). -/
theorem snoop_cases (s : State) (q : Quantity) (f : Frame) :
    snoop (heard s .machine) .machine q f = receiveSample (copied s f) .machine q f ∨
    (32 ≤ (s.port .operator).queue.length ∧ copied s f = forwardFrame (madeChoices (heard s .machine) 1) .machine f ∧
      snoop (heard s .machine) .machine q f =
        forwardFrame (receiveSample (madeChoices (heard s .machine) 1) .machine q f) .machine f) := by
  rw [copied_eq]
  unfold snoop
  have full : queueFull (heard s .machine) .machine = queueFull s .machine := rfl
  have mark : ((heard s .machine).port (Port.other .machine)).dropMark = (s.port .operator).dropMark := rfl
  rw [full, mark]
  by_cases told : (queueFull s .machine && !(s.port .operator).dropMark) = true
  · rw [if_pos told, if_pos told]
    have length : 32 ≤ (s.port .operator).queue.length := of_decide_eq_true ((Bool.and_eq_true _ _).mp told).1
    split
    · exact .inr ⟨length, rfl, rfl⟩
    · exact .inl rfl
  · rw [if_neg told, if_neg told]
    exact .inl rfl

theorem forwardFrame_ports_congr {s t : State} (ports : t.ports = s.ports) (p : Port) (f : Frame) :
    (forwardFrame t p f).ports = (forwardFrame s p f).ports := by
  have record (r : Port) : t.port r = s.port r := congrArg (fun x => x.get r) ports
  unfold forwardFrame queueFull dropFrame appendFrame
  rw [record]
  dsimp only
  split
  · split
    · exact ports
    · show t.ports.set p.other _ = s.ports.set p.other _
      rw [ports]
  · show t.ports.set p.other _ = s.ports.set p.other _
    rw [ports]

theorem forwardFrame_counts_congr {s t : State} (ports : t.ports = s.ports) (counts : SameCounts s t) (p : Port) (f : Frame) :
    SameCounts (forwardFrame s p f) (forwardFrame t p f) := by
  have record (r : Port) : t.port r = s.port r := congrArg (fun x => x.get r) ports
  have counted (g : PortCounters → PortCounters) : SameCounts (s.countPort p g) (t.countPort p g) :=
    ⟨by show t.counters.port.set p _ = s.counters.port.set p _; rw [counts.port], counts.axis, counts.quantity, counts.delivery,
      counts.part⟩
  have part (u v : State) (parts : u.counters.part = { v.counters.part with reportsLost := u.counters.part.reportsLost })
      (n m : Nat) : ({ u.counters.part with reportsLost := n } : PartCounters) = { { v.counters.part with reportsLost := m } with reportsLost := n } := by
    rw [parts]
  unfold forwardFrame queueFull dropFrame appendFrame
  rw [record]
  dsimp only
  split
  · split
    · exact counted _
    · have before := counted (fun c => { c with drops := bump c.drops })
      exact ⟨before.port, before.axis, before.quantity, before.delivery, part t s counts.part _ _⟩
  · have before := counted (fun c => { c with forwarded := bump c.forwarded })
    exact ⟨before.port, before.axis, before.quantity, before.delivery, before.part⟩

/-! ## The loss of a sensor -/

theorem LossEnds.iff_of_beside {s x : State} (b : Beside s x) (q : Quantity) : LossEnds x q ↔ LossEnds s q := by
  have sensor (r : Quantity) : x.sensor r = s.sensor r := congrArg (fun y => y.get r) b.sensors
  unfold LossEnds
  rw [b.drive.sequencer, sensor, b.envelope.geometry]

theorem EvaluatedIn.of_beside {u u' s x t : State} {a : Axis} (h : EvaluatedIn u' x t a) (value : evaluated u' a = evaluated u a)
    (b : Beside s x) : EvaluatedIn u s t a := by
  have axis : x.axis a = s.axis a := congrArg (fun y => y.get a) b.drive.axes
  have delivery : x.delivery a = s.delivery a := congrArg (fun y => y.get a) b.drive.deliveries
  obtain ⟨record, frame⟩ := h
  rw [value, axis, b.frame.millis] at record
  rw [value, axis, produce_delivery_congr delivery b.off b.frame.governor] at frame
  exact ⟨record, frame⟩

theorem EvaluatedIn.then_beside {u s t y : State} {a : Axis} (h : EvaluatedIn u s t a) (b : Beside t y) : EvaluatedIn u s y a :=
  ⟨(congrArg (fun y => y.get a) b.drive.axes : y.axis a = t.axis a).trans h.1,
    (congrArg (fun y => y.get a) b.drive.deliveries : y.delivery a = t.delivery a).trans h.2⟩

theorem SensorLost.after {s x t : State} {q : Quantity} (b : Beside s x) (h : SensorLost x t q) : SensorLost s t q := by
  have sensor (r : Quantity) : x.sensor r = s.sensor r := congrArg (fun y => y.get r) b.sensors
  have stale : (x.setSensor q (x.sensor q).toStale).sensors = (s.setSensor q (s.sensor q).toStale).sensors := by
    rw [sensor]
    show x.sensors.set q _ = s.sensors.set q _
    rw [b.sensors]
  have ends := LossEnds.iff_of_beside b q
  have envelope : SameEnvelope (s.setSensor q (s.sensor q).toStale) (x.setSensor q (x.sensor q).toStale) :=
    ⟨b.frame.tables, stale, b.frame.joints, b.frame.mismatch, b.frame.band, b.frame.backoff, b.frame.millis⟩
  have drive : SameDrive (s.setSensor q (s.sensor q).toStale) (x.setSensor q (x.sensor q).toStale) :=
    ⟨b.drive.axes, b.drive.deliveries, b.drive.sequencer, b.drive.sequenceTimer, b.drive.aborts⟩
  have value := evaluated_of_same envelope drive
  have axis (a : Axis) : x.axis a = s.axis a := congrArg (fun y => y.get a) b.drive.axes
  refine ⟨b.frame.trans h.frame, h.sensors.trans stale, ?_, fun angle torque => (h.stallKept angle torque).trans b.stallTimer,
    h.stallEnded, fun kept => ?_, fun ending => ?_⟩
  · rw [h.angleRef, b.angleRef, sensor]
  · obtain ⟨⟨sequencer, timer, aborts⟩, axes⟩ := h.kept (ends.not.mpr kept)
    exact ⟨⟨sequencer.trans b.drive.sequencer, timer.trans b.drive.sequenceTimer, aborts.trans b.drive.aborts⟩,
      fun a => (axes a).of_beside (value a) b⟩
  · obtain ⟨idle, timer, aborts, active, neutral, others⟩ := h.ended (ends.mpr ending)
    rw [b.drive.axes, b.frame.millis] at active neutral
    exact ⟨idle, timer, by rw [aborts, b.drive.aborts], active, neutral, fun a other => by
      rw [← axis, ← b.frame.millis]
      exact others a other⟩

theorem SensorLost.before {s t y : State} {q : Quantity} (h : SensorLost s t q) (b : Beside t y) : SensorLost s y q := by
  have axis (a : Axis) : y.axis a = t.axis a := congrArg (fun y => y.get a) b.drive.axes
  refine ⟨h.frame.trans b.frame, b.sensors.trans h.sensors, b.angleRef.trans h.angleRef,
    fun angle torque => b.stallTimer.trans (h.stallKept angle torque), fun load => b.stallTimer.trans (h.stallEnded load),
    fun kept => ?_, fun ending => ?_⟩
  · obtain ⟨⟨sequencer, timer, aborts⟩, axes⟩ := h.kept kept
    exact ⟨⟨b.drive.sequencer.trans sequencer, b.drive.sequenceTimer.trans timer, b.drive.aborts.trans aborts⟩,
      fun a => (axes a).then_beside b⟩
  · obtain ⟨idle, timer, aborts, active, neutral, others⟩ := h.ended ending
    refine ⟨b.drive.sequencer.trans idle, b.drive.sequenceTimer.trans timer, b.drive.aborts.trans aborts, ?_, ?_, fun a other => ?_⟩
    · rw [b.drive.axes]
      exact active
    · rw [b.drive.axes]
      exact neutral
    · rw [axis]
      exact others a other

theorem LossTold.of_beside {s x t : State} {q : Quantity} {cause : Nat} (h : LossTold x t q cause) (b : Beside s x)
    (reports : x.reports = s.reports) : LossTold s t q cause := by
  have same := reportsAfter_congr b.frame.tables reports b.frame.channel b.frame.millis
  obtain ⟨stale, aborted⟩ := h
  refine ⟨by rw [same] at stale; exact stale, fun ends => ?_⟩
  have told := aborted ((LossEnds.iff_of_beside b q).mpr ends)
  rw [reportsAfter_congr (s := report s .sensorStale q.code cause) (u := report x .sensorStale q.code cause) b.frame.tables
    (same _ _ _) b.frame.channel b.frame.millis, b.drive.sequencer] at told
  exact told

theorem copied_reports_of_room {s : State} (room : (s.port .operator).queue.length < 32) (f : Frame) :
    (copied s f).reports = s.reports := by
  unfold copied
  dsimp only
  rw [if_pos room]
  rfl

/-- What Sensor Intake makes of a sample of sensor status FAULT at a record that is not STALE (R37). -/
theorem receiveSample_of_fault {x : State} {q : Quantity} {ch : Channel} {payload : List Byte} (long : payload.length = 8)
    (sound : byteSum payload = 0) (new : (x.sensor q).lastAlive ≠ some (sampleAlive payload)) (fault : sampleStatus payload = .fault)
    (other : (x.sensor q).state ≠ .stale) :
    receiveSample x .machine q (ownFrame 4 ch.toNat payload) = becomeStale x q .sensorFault := by
  rw [receiveSample_of_length long, takeSample_of_fault sound new fault, sensorFault, if_neg other]

/-- Settles O24: a loss is handed on as `becomeStale_lost` says, and the copy of a FAULT sample goes beside it. -/
theorem lostSensorBecomesStale : Obligations.LostSensorBecomesStale := by
  unfold Obligations.LostSensorBecomesStale
  intro ends lost raised
  have lostOf {s t : State} {q : Quantity} (h : SensorLost s t q) {ports : PerPort PortRecord} (same : t.ports = ports) :
      lost s t q ports := by
    subst same
    have frame := h.frame.tracking
    rw [h.sensors] at frame
    refine ⟨frame, fun angle fresh => ?_, fun other => ?_, h.stallKept, h.stallEnded, fun kept => ?_, h.ended⟩
    · rw [h.angleRef, if_pos ⟨angle, fresh⟩]
    · rw [h.angleRef, if_neg fun both => other.elim (fun no => no both.1) (fun no => no both.2)]
    · obtain ⟨⟨sequencer, timer, aborts⟩, axes⟩ := h.kept kept
      exact ⟨⟨frame, sequencer, timer, aborts⟩, axes⟩
  refine ⟨fun s q high due => ?expiry, fun s ch payload early q takes mapped long sound new fault other => ?sample⟩
  case expiry =>
    obtain ⟨stale, told⟩ := becomeStale_lost s q .expiry
    refine ⟨becomeStale s q .expiry, ?_, lostOf stale (becomeStale_frame s q _).ports, becomeStale_counts s q _, told⟩
    show Host.Outcome.next (onExpiry s (s.sensor q).timer (becomeStale s q .expiry)) = _
    simp [onExpiry, high, due, Timer.due]
  case sample =>
    intro u
    have run := exec_sensorSample (payload := payload) (early := early) takes mapped
    have sensor {x : State} (b : Beside s x) : x.sensor q = s.sensor q := congrArg (fun y => y.get q) b.sensors
    have intake {x : State} (b : Beside s x) :=
      receiveSample_of_fault (x := x) (ch := ch) long sound (by rw [sensor b]; exact new) fault (by rw [sensor b]; exact other)
    have frameIs : ownFrame 4 ch.toNat payload = ⟨false, false, 4 * 128 + ch.toNat, 8, payload⟩ := by
      rw [← long]; rfl
    have copiedIs : u = copied s (ownFrame 4 ch.toNat payload) := by rw [frameIs]
    rw [copiedIs]
    clear_value u
    have besideU := copied_beside s (ownFrame 4 ch.toNat payload)
    rcases snoop_cases s q (ownFrame 4 ch.toNat payload) with after | ⟨full, copy, first⟩
    · rw [after, intake besideU] at run
      obtain ⟨stale, told⟩ := becomeStale_lost (copied s (ownFrame 4 ch.toNat payload)) q .sensorFault
      refine ⟨_, run, lostOf (stale.after besideU) (becomeStale_frame _ q _).ports, becomeStale_counts _ q _, fun room =>
        told.of_beside besideU (copied_reports_of_room room _)⟩
    · have besideX := (heard_beside s).trans (madeChoices_beside (heard s .machine) 1)
      rw [first, intake besideX] at run
      obtain ⟨stale, -⟩ := becomeStale_lost (madeChoices (heard s .machine) 1) q .sensorFault
      have ports := (becomeStale_frame (madeChoices (heard s .machine) 1) q .sensorFault).ports
      have counts := becomeStale_counts (madeChoices (heard s .machine) 1) q .sensorFault
      refine ⟨_, run, lostOf ((stale.after besideX).before (forwardFrame_beside _ _)) ?_, ?_, fun room => absurd room (not_lt.mpr full)⟩
      · rw [copy]
        exact forwardFrame_ports_congr ports .machine _
      · rw [copy]
        exact forwardFrame_counts_congr ports counts .machine _

end Sys2Proof.Machine
end

section
/-! What the hand-offs of a sample may change: times of evaluation, and the tracking blocks (R43, R57, R61, R74, R97, R134). -/

namespace Sys2Proof.Machine

open Sys2Proof

/-! ## Times of evaluation -/

/-- Each axis keeps the time of its last evaluation, or has been evaluated now. -/
structure EvalsKept (s t : State) : Prop where
  millis : t.millis = s.millis
  times  : ∀ a, (t.axis a).lastEval = (s.axis a).lastEval ∨ (t.axis a).lastEval = some s.millis

@[refl] theorem EvalsKept.refl (s : State) : EvalsKept s s := ⟨rfl, fun _ => .inl rfl⟩

theorem EvalsKept.trans {s t u : State} (h : EvalsKept s t) (k : EvalsKept t u) : EvalsKept s u := by
  refine ⟨k.millis.trans h.millis, fun a => ?_⟩
  rcases k.times a with same | now
  · rw [same]
    exact h.times a
  · rw [now, h.millis]
    exact .inr rfl

/-- All axes evaluated now stay so. -/
theorem EvalsKept.allNow {s t : State} (h : EvalsKept s t) (now : ∀ a, (s.axis a).lastEval = some s.millis) (a : Axis) :
    (t.axis a).lastEval = some s.millis := by
  rcases h.times a with same | again
  · rw [same]
    exact now a
  · exact again

theorem EvalsKept.of_axes {s t : State} (axes : t.axes = s.axes) (millis : t.millis = s.millis) : EvalsKept s t :=
  ⟨millis, fun a => .inl (congrArg (fun x : PerAxis AxisRecord => (x.get a).lastEval) axes)⟩

theorem evaluateNow_evals (s : State) (a : Axis) : EvalsKept s (evaluateNow s a) := by
  refine ⟨(evaluateNow_frame s a).millis, fun b => ?_⟩
  by_cases same : b = a
  · subst same
    exact .inr (by rw [(evaluateNow_evaluatedIn s b).1])
  · exact .inl (by rw [(evaluateNow_same_at s same).axis])

theorem evaluateAxes_evals (s : State) (l : List Axis) : EvalsKept s (evaluateAxes s l) := by
  induction l generalizing s with
  | nil => rfl
  | cons a l ih => exact (evaluateNow_evals s a).trans (ih _)

theorem changeAxis_evals (s : State) (a : Axis) {r : AxisRecord} (same : r.lastEval = (s.axis a).lastEval) :
    EvalsKept s (changeAxis s a r) := by
  refine ⟨(changeAxis_frame s a r).millis, fun b => .inl ?_⟩
  by_cases here : b = a
  · subst here
    rw [changeAxis_axis_same]
    exact same
  · rw [changeAxis_axis_other s a b r here]

theorem abortSequence_evals (s : State) (c : AbortCause) : EvalsKept s (abortSequence s c) := by
  unfold abortSequence
  split
  · rfl
  · exact .of_axes rfl rfl

theorem setAxis_evals (s : State) (a : Axis) {r : AxisRecord} (same : r.lastEval = (s.axis a).lastEval) :
    EvalsKept s (s.setAxis a r) := by
  refine ⟨rfl, fun b => .inl ?_⟩
  by_cases here : b = a
  · subst here
    rw [State.axis_setAxis_same]
    exact same
  · rw [State.axis_setAxis_other s a b r here]

theorem report_evals (s : State) (k : EventKind) (i : Nat) (d : Int) : EvalsKept s (report s k i d) := .of_axes rfl rfl

theorem enterFault_evals (s : State) (a : Axis) (c : ExitCause) : EvalsKept s (enterFault s a c) := by
  unfold enterFault
  dsimp only
  split
  · split
    · rfl
    · refine EvalsKept.trans ?_ (report_evals _ _ _ _)
      exact setAxis_evals s a rfl
  · have entered (r : AxisRecord) (same : r.lastEval = (s.axis a).lastEval) :
        EvalsKept s (handOver (report (s.setAxis a r) .axisFault a.code c.bit) a false) :=
      ((setAxis_evals s a same).trans (report_evals _ _ _ _)).trans
        (.of_axes (handOver_axes _ a false) (handOver_frame _ a false).millis)
    split
    · refine EvalsKept.trans ?_ (abortSequence_evals _ _)
      exact entered { (s.axis a).toNeutralFor c with state := .fault } rfl
    · exact entered { (s.axis a).toNeutralFor c with state := .fault } rfl

theorem handBack_evals (s : State) (d : Int) : EvalsKept s (handBack s d) := by
  have state : EvalsKept s (handBackState s d) := by
    unfold handBackState
    dsimp only
    split
    · exact changeAxis_evals s .rotary rfl
    · refine EvalsKept.trans ?_ (report_evals _ _ _ _)
      exact setAxis_evals s .rotary rfl
  unfold handBack
  dsimp only
  split
  · exact state.trans (evaluateNow_evals _ _)
  · exact state

theorem abortAndHandBack_evals (s : State) (c : AbortCause) : EvalsKept s (abortAndHandBack s c) := by
  unfold abortAndHandBack
  split
  · rfl
  · exact (abortSequence_evals s c).trans (handBack_evals _ 0)

theorem completeSequence_evals (s : State) (n : Nat) : EvalsKept s (completeSequence s n) :=
  (EvalsKept.of_axes rfl rfl : EvalsKept s (report (endSequence s) .autoDone (sequenceSubject s) n)).trans (handBack_evals _ 0)

theorem sequencerLockEvent_evals (s : State) (n : Nat) : EvalsKept s (sequencerLockEvent s n) := by
  unfold sequencerLockEvent
  split
  · exact completeSequence_evals s n
  · rfl

theorem sequencerReleaseEvent_evals (s : State) (n : Nat) : EvalsKept s (sequencerReleaseEvent s n) := by
  unfold sequencerReleaseEvent
  split
  · exact completeSequence_evals s n
  · rfl

theorem SameDrive.evals {s t : State} (h : SameDrive s t) (frame : Kept s t) : EvalsKept s t := .of_axes h.axes frame.millis

theorem allocate_evals (s : State) : EvalsKept s (allocate s) := by
  have slipped : EvalsKept s (slipStep s) := by
    by_cases slips : Slips s
    · rw [slipStep_of_slips slips, lockSlip_eq]
      exact (((slipRecorded_drive s _).evals (slipRecorded_frame s _).toKept).trans (enterFault_evals _ _ _)).trans
        (evaluateNow_evals _ _)
    · rw [slipStep_of_held slips]
  have divided : EvalsKept s (dividedState s) := (slipped.trans
    ((decideMismatch_drive _).evals (decideMismatch_kelly _).toKept)).trans ((divideStep_drive _).evals (divideStep_kelly _).toKept)
  have retracted : EvalsKept (dividedState s) (retractionStep (dividedState s)) := by
    by_cases closes : Closes (dividedState s)
    · rw [retractionStep_of_closes closes]
      exact ((retractedState_drive _).evals (retractedState_kelly _).toKept).trans (sequencerReleaseEvent_evals _ _)
    · rw [retractionStep_of_open closes]
  have aligned (before : List Bool) (u : State) : EvalsKept u (alignmentStep before u) := by
    have moved := (alignedState_drive before u).evals (alignedState_kelly before u).toKept
    by_cases lost : LosesSet before u
    · rw [alignmentStep_of_lost lost]
      exact moved.trans (abortAndHandBack_evals _ _)
    · rw [alignmentStep_of_kept lost]
      exact moved
  rw [allocate_eq]
  exact (divided.trans retracted).trans (aligned _ _)

theorem allocateIfTracking_evals (s : State) : EvalsKept s (allocateIfTracking s) := by
  unfold allocateIfTracking
  split
  · exact allocate_evals s
  · rfl

theorem kellyPayout_evals (s : State) : EvalsKept s (kellyPayout s) := by
  unfold kellyPayout
  split
  · exact (EvalsKept.of_axes rfl rfl : EvalsKept s { s with depthHeld := some (toolDepth s) }).trans (allocateIfTracking_evals _)
  · exact allocateIfTracking_evals s

theorem changeBand_evals (s : State) (band : Option Nat) : EvalsKept s (changeBand s band) := by
  have moved : EvalsKept s (report { s with band := band } .bandEntered (bandIndex { s with band := band })
      (bandInForce { s with band := band }).ground) := .of_axes rfl rfl
  exact moved.trans (evaluateAxes_evals _ allAxes)

theorem bandPayout_evals (s : State) : EvalsKept s (bandPayout s) := by
  unfold bandPayout
  split
  · exact changeBand_evals s _
  · rfl

theorem handOffRelease_evals (s : State) (n : Nat) : EvalsKept s (handOffRelease s n) := by
  have chosen : EvalsKept s (madeChoices s 1) := .of_axes rfl rfl
  unfold handOffRelease
  split
  · split
    · exact (chosen.trans (sequencerReleaseEvent_evals _ n)).trans (evaluateNow_evals _ _)
    · exact (chosen.trans (evaluateNow_evals _ _)).trans (sequencerReleaseEvent_evals _ n)
  · exact evaluateNow_evals s _

theorem keyTests_evals (s : State) : EvalsKept s (keyTests s) := by
  unfold keyTests
  split
  · rw [lockEvent_eq]
    have locked : EvalsKept s (jointsLocked s) :=
      .of_axes (reportLocked_axes s (numbered s.joints)).1 (jointsLocked_frame s).millis
    exact locked.trans (sequencerLockEvent_evals _ _)
  split
  · rw [releaseEvent_eq]
    have freed : EvalsKept s (jointsFreed s) := .of_axes rfl rfl
    exact freed.trans (handOffRelease_evals _ _)
  · rfl

theorem kellyAngle_evals (s : State) : EvalsKept s (kellyAngle s) := by
  unfold kellyAngle
  dsimp only
  split
  · refine EvalsKept.trans ?_ (keyTests_evals _)
    exact .of_axes rfl rfl
  · exact .of_axes rfl rfl

theorem stallTest_evals (s : State) : EvalsKept s (stallTest s) := .of_axes rfl rfl

theorem evaluateInService_evals (s : State) (a : Axis) : EvalsKept s (evaluateInService s a) := by
  rcases AxisState.service_cases (s.axis a).state with service | out
  · rw [evaluateInService_of_inService service]
    exact evaluateNow_evals s a
  · rw [evaluateInService_of_outOfService out]

theorem handOnPayout_evals (s : State) : EvalsKept s (handOnPayout s) := by
  have chosen : EvalsKept s (madeChoices s 1) := .of_axes rfl rfl
  unfold handOnPayout
  split
  · split
    · exact (chosen.trans (kellyPayout_evals _)).trans (bandPayout_evals _)
    · exact (chosen.trans (bandPayout_evals _)).trans (kellyPayout_evals _)
  · exact kellyPayout_evals s

theorem handOnSample_evals (s : State) (q : Quantity) : EvalsKept s (handOnSample s q) := by
  cases q with
  | payout => exact handOnPayout_evals s
  | head => exact allocateIfTracking_evals s
  | angle => exact (kellyAngle_evals s).trans (stallTest_evals _)
  | torque => exact (evaluateInService_evals s .rotary).trans (stallTest_evals _)
  | force => exact evaluateInService_evals s .crowd
  | rope => exact evaluateInService_evals s .hoist

end Sys2Proof.Machine
end

section
/-! What an evaluation yields, the stall test, and the acceptance of a sample with its hand-off (R39, R43, R114, R115, R135). -/

namespace Sys2Proof.Machine

open Sys2Proof

/-! ## Evaluations and the stall test -/

theorem evaluated_of_rampdown {s : State} {a : Axis} (ramps : (s.axis a).state = .rampdown) :
    evaluated s a = if |(governedValue s a ((s.axis a).demand.getD 0)).1| < |(s.axis a).governed| ∧
      0 ≤ (governedValue s a ((s.axis a).demand.getD 0)).1 * (s.axis a).governed then governedValue s a ((s.axis a).demand.getD 0)
      else ((s.axis a).governed, (s.axis a).cause) := by
  simp only [evaluated, ramps]

theorem evaluated_of_active {s : State} {a : Axis} (active : (s.axis a).state = .active) :
    evaluated s a = governedValue s a ((s.axis a).demand.getD 0) := by
  simp only [evaluated, active]

theorem evaluated_of_auto {s : State} {a : Axis} (auto : (s.axis a).state = .auto) :
    evaluated s a = governedValue s a (creepDemand s) := by
  simp only [evaluated, auto]

theorem stallStands_iff (s : State) : stallStands s = true ↔ (bandInForce s).stallWatch = true ∧
    (s.sensor .torque).state = .fresh ∧ (s.sensor .angle).state = .fresh ∧ 0 < s.axes.rotary.governed ∧
    |(s.sensor .angle).secondary.getD 0| < Rig.stallSpeed s.tables.rig ∧
    ∃ l, limitOf s .rotary true = some l ∧
      (l.value * Rig.stallFraction s.tables.rig).tdiv 1000 ≤ (s.sensor .torque).value.getD 0 := by
  simp only [stallStands, Bool.and_eq_true, decide_eq_true_eq, isFresh, beq_iff_eq, limitOf, and_assoc, Option.some.injEq,
    exists_eq_left']
  rfl

theorem stallTest_of_stands {s : State} (stands : stallStands s = true) :
    stallTest s = { s with stallTimer := s.stallTimer.or (some (Rig.stallTime s.tables.rig)) } := by
  unfold stallTest
  rw [stands, if_pos rfl]
  cases s.stallTimer <;> rfl

theorem stallTest_of_unmet {s : State} (unmet : stallStands s = false) : stallTest s = { s with stallTimer := none } := by
  unfold stallTest
  rw [unmet]
  rfl

/-! ## An accepted sample (R39) -/

/-- What Sensor Intake hands on once a sample is recorded: the change to FRESH, if any, and then the sample. -/
def handedOn (old : RecordState) (q : Quantity) (r : State) : State :=
  handOnSample (if old = .fresh then r else handOnFreshness (report r .sensorFresh q.code old.code) q old) q

theorem acceptSample_eq (s : State) (q : Quantity) (pl : List Byte) :
    acceptSample s q pl = handedOn (s.sensor q).state q (recordSample s q pl) := rfl

/-- A recorded sample, from what the record held. -/
theorem recordSample_eq {s x : State} {q : Quantity} (pl : List Byte) (sensor : x.sensor q = s.sensor q)
    (millis : x.millis = s.millis) (tables : x.tables = s.tables) : recordSample x q pl =
    (x.countQuantity q (fun c => { c with
      accepted := bump c.accepted
      gaps := if ∃ l, (s.sensor q).lastAlive = some l ∧ u8At pl 6 % 16 ≠ (l + 1) % 16 then bump c.gaps else c.gaps
      degraded := if sampleStatus pl = .degraded then bump c.degraded else c.degraded })).setSensor q
    { state := .fresh, value := some (s32At pl 0)
      secondary := if q = .angle then some (s16At pl 4) else (s.sensor q).secondary
      lastAlive := some (u8At pl 6 % 16), stamp := some s.millis, timer := some (Rig.freshness s.tables.rig q) } := by
  have counted (c : QuantityCounters) :
      c.accepting (isGap (s.sensor q).lastAlive (sampleAlive pl)) (sampleStatus pl == .degraded) = { c with
        accepted := bump c.accepted
        gaps := if ∃ l, (s.sensor q).lastAlive = some l ∧ u8At pl 6 % 16 ≠ (l + 1) % 16 then bump c.gaps else c.gaps
        degraded := if sampleStatus pl = .degraded then bump c.degraded else c.degraded } := by
    have gap : (if isGap (s.sensor q).lastAlive (sampleAlive pl) then bump c.gaps else c.gaps) =
        if ∃ l, (s.sensor q).lastAlive = some l ∧ u8At pl 6 % 16 ≠ (l + 1) % 16 then bump c.gaps else c.gaps :=
      if_congr (isGap_iff _ _) rfl rfl
    have status : (if (sampleStatus pl == .degraded) then bump c.degraded else c.degraded) =
        if sampleStatus pl = .degraded then bump c.degraded else c.degraded := if_congr beq_iff_eq rfl rfl
    unfold QuantityCounters.accepting
    rw [gap, status]
  unfold recordSample
  rw [sensor, millis, tables]
  simp only [counted]
  rfl

theorem setSensor_forwardFrame (s : State) (p : Port) (f : Frame) (q : Quantity) (r : SensorRecord) :
    (forwardFrame s p f).setSensor q r = forwardFrame (s.setSensor q r) p f := by
  unfold forwardFrame
  show (if queueFull s p then dropFrame s p else appendFrame s p f).setSensor q r =
    if queueFull s p then dropFrame (s.setSensor q r) p else appendFrame (s.setSensor q r) p f
  split
  · unfold dropFrame
    show (if (s.port p.other).dropMark then _ else _ : State).setSensor q r = if (s.port p.other).dropMark then _ else _
    split <;> rfl
  · rfl

theorem Beside.sensor {s x : State} (b : Beside s x) (q : Quantity) : x.sensor q = s.sensor q :=
  congrArg (fun y => y.get q) b.sensors

/-- The copy of a sample and its record touch different parts. -/
theorem recordSample_forwardFrame (s : State) (f : Frame) (q : Quantity) (pl : List Byte) :
    recordSample (forwardFrame s .machine f) q pl = forwardFrame (recordSample s q pl) .machine f := by
  have b := forwardFrame_beside s f
  rw [recordSample_eq pl (b.sensor q) b.frame.millis b.frame.tables, recordSample_eq (s := s) (x := s) pl rfl rfl rfl,
    countQuantity_forwardFrame, setSensor_forwardFrame]

theorem recordSample_copied {s : State} {payload : List Byte} (long : payload.length = 8) (ch : Channel) (q : Quantity) :
    recordSample (copied s (ownFrame 4 ch.toNat payload)) q payload = accepted s ch payload q := by
  have b := copied_beside s (ownFrame 4 ch.toNat payload)
  rw [recordSample_eq payload (b.sensor q) b.frame.millis b.frame.tables, ownFrame_sample, long]
  rfl

/-- What is asked of a sample that is accepted (R35 to R38). -/
structure SampleAccepted (s : State) (ch : Channel) (payload : List Byte) (early : Bool) (q : Quantity) : Prop where
  takes   : takesPart s .machine = true
  mapped  : mappedQuantity (if early then s.earlierMap else sensorMapInForce s) ch.toNat = some q
  long    : payload.length = 8
  sound   : byteSum payload = 0
  new     : (s.sensor q).lastAlive ≠ some (u8At payload 6 % 16)
  healthy : sampleStatus payload ≠ .fault
  inRange : sampleInRange q payload = true

theorem SampleAccepted.intake {s x : State} {ch : Channel} {payload : List Byte} {early : Bool} {q : Quantity}
    (ok : SampleAccepted s ch payload early q) (b : Beside s x) :
    receiveSample x .machine q (ownFrame 4 ch.toNat payload) = handedOn (s.sensor q).state q (recordSample x q payload) := by
  rw [receiveSample_of_length ok.long, takeSample_of_healthy ok.sound (by rw [b.sensor q]; exact ok.new) ok.healthy,
    if_pos ok.inRange, acceptSample_eq, b.sensor q]

/-- The sample goes to Sensor Intake after its copy, or, at a full queue whose drop is to be reported, perhaps before it. -/
theorem SampleAccepted.cases {s : State} {ch : Channel} {payload : List Byte} {early : Bool} {q : Quantity}
    (ok : SampleAccepted s ch payload early q) :
    let u := accepted s ch payload q
    exec (.sensorSample ch payload early) s = .next (handedOn (s.sensor q).state q u) ∨
    (32 ≤ (s.port .operator).queue.length ∧
      let r := recordSample (madeChoices (heard s .machine) 1) q payload
      u = forwardFrame r .machine (ownFrame 4 ch.toNat payload) ∧
      exec (.sensorSample ch payload early) s =
        .next (forwardFrame (handedOn (s.sensor q).state q r) .machine (ownFrame 4 ch.toNat payload))) := by
  intro u
  have run := exec_sensorSample (payload := payload) (early := early) ok.takes ok.mapped
  have uIs : u = recordSample (copied s (ownFrame 4 ch.toNat payload)) q payload := (recordSample_copied ok.long ch q).symm
  rw [uIs]
  clear_value u
  rcases snoop_cases s q (ownFrame 4 ch.toNat payload) with after | ⟨full, copy, first⟩
  · rw [after, ok.intake (copied_beside s _)] at run
    exact .inl run
  · have b := (heard_beside s).trans (madeChoices_beside (heard s .machine) 1)
    rw [first, ok.intake b] at run
    exact .inr ⟨full, by rw [copy, recordSample_forwardFrame], run⟩

theorem SampleAccepted.exec_of_room {s : State} {ch : Channel} {payload : List Byte} {early : Bool} {q : Quantity}
    (ok : SampleAccepted s ch payload early q) (room : (s.port .operator).queue.length < 32) :
    exec (.sensorSample ch payload early) s = .next (handedOn (s.sensor q).state q (accepted s ch payload q)) := by
  rcases ok.cases with after | ⟨full, -⟩
  · exact after
  · exact absurd room (not_lt.mpr full)

/-! ## The hand-offs of HEAD, ANGLE and PAYOUT (R43) -/

theorem handedOn_of_fresh (q : Quantity) (r : State) : handedOn .fresh q r = handOnSample r q := by
  unfold handedOn
  rw [if_pos rfl]

/-- The tool depth after an accepted PAYOUT sample (R57). -/
theorem accepted_toolDepth {s : State} {ch : Channel} {payload : List Byte} (long : payload.length = 8) :
    toolDepth (accepted s ch payload .payout) = s32At payload 0 - Rig.ropeOffset s.tables.rig ∧
    (accepted s ch payload .payout).tables = s.tables ∧ (accepted s ch payload .payout).band = s.band := by
  have b := copied_beside s (ownFrame 4 ch.toNat payload)
  have recorded := recordSample_copied (s := s) long ch .payout
  rw [recordSample_eq payload (b.sensor .payout) b.frame.millis b.frame.tables] at recorded
  have tables : (accepted s ch payload .payout).tables = s.tables := by rw [← recorded]; exact b.frame.tables
  refine ⟨?_, tables, by rw [← recorded]; exact b.frame.band⟩
  unfold toolDepth sensorValue
  rw [tables, ← recorded, State.sensor_setSensor_same]
  rfl

/-- The geometry takes a PAYOUT sample: the tool depth held, then an allocation in TRACKING. -/
theorem kellyPayout_eq {s : State} {z : Int} (depth : toolDepth s = z) : kellyPayout s =
    (if geometry (if s.tables.rig.valid then { s with depthHeld := some z } else s) = .tracking
      then allocate (if s.tables.rig.valid then { s with depthHeld := some z } else s)
      else if s.tables.rig.valid then { s with depthHeld := some z } else s) := by
  subst depth
  rfl

theorem bandPayout_toolDepth (s : State) : toolDepth (bandPayout s) = toolDepth s ∧ (bandPayout s).tables = s.tables := by
  have frame : Kept s (bandPayout s) := bandPayout_frame s
  have sensors : (bandPayout s).sensors = s.sensors := by
    by_cases changes : s.tables.rig.valid = true ∧ bandAtSample s ≠ s.band
    · rw [bandPayout_of_change changes.1 changes.2, changeBand_eq]
      exact (evaluateAxes_frame _ _).sensors
    · rw [show bandPayout s = s from if_neg changes]
  refine ⟨?_, frame.tables⟩
  unfold toolDepth sensorValue State.sensor
  rw [sensors, frame.tables]

theorem handOnPayout_of_kept {s : State} (kept : s.tables.rig.valid = false ∨ bandAtSample s = s.band) :
    handOnPayout s = kellyPayout s := by
  refine if_neg ?_
  rintro ⟨valid, changes⟩
  rcases kept with invalid | same
  · rw [invalid] at valid
    cases valid
  · exact changes same

theorem handOnPayout_of_change {s : State} (valid : s.tables.rig.valid = true) (changes : bandAtSample s ≠ s.band) :
    handOnPayout s = bandPayout (kellyPayout (madeChoices s 1)) ∨ handOnPayout s = kellyPayout (bandPayout (madeChoices s 1)) := by
  unfold handOnPayout
  rw [if_pos ⟨valid, changes⟩]
  split
  · exact .inl rfl
  · exact .inr rfl

/-- Settles O23: an evaluation by its axis state, and the hand-offs of a sample after its copy. -/
theorem evaluationsAndHandOffsOfSamples : Obligations.EvaluationsAndHandOffsOfSamples := by
  refine ⟨fun s a => ?evaluations, fun s => ⟨evaluateAll_evaluatedIn s, evaluateAxes_frame s _, evaluateAll_counts s,
    evaluateAxes_reports s _⟩, fun s => ⟨stallStands_iff s, stallTest_of_stands, stallTest_of_unmet⟩,
    fun s ch payload early q takes mapped long sound new healthy inRange fresh room => ?samples⟩
  case evaluations =>
    intro r v
    refine ⟨evaluated_of_out, evaluated_of_active, fun auto locking => ?_, fun auto releasing => ?_, fun ramps nearer same => ?_,
      fun ramps other => ?_⟩
    · rw [evaluated_of_auto auto, creepDemand, locking]
    · rw [evaluated_of_auto auto, creepDemand, releasing]
    · rw [evaluated_of_rampdown ramps, if_pos ⟨nearer, same⟩]
    · rw [evaluated_of_rampdown ramps, if_neg other]
  case samples =>
    have ok : SampleAccepted s ch payload early q := ⟨takes, mapped, long, sound, new, healthy, inRange⟩
    have run := ok.exec_of_room room
    rw [fresh, handedOn_of_fresh] at run
    intro u z band kelly chosen
    have kellyIs {w : State} (depth : toolDepth w = z) : kellyPayout w = kelly w := kellyPayout_eq depth
    refine ⟨fun head => ?_, fun angle => ?_, fun payout kept => ?_, fun payout valid changes => ?_⟩
    · subst head
      exact run
    · subst angle
      exact run
    · subst payout
      obtain ⟨depth, tables, held⟩ := accepted_toolDepth (s := s) (ch := ch) long
      have sameBand : u.tables.rig.valid = false ∨ bandAtSample u = u.band := by
        unfold bandAtSample
        rw [depth, tables, held]
        exact kept
      rw [run]
      show Host.Outcome.next (handOnPayout u) = _
      rw [handOnPayout_of_kept sameBand, kellyIs depth]
    · subst payout
      obtain ⟨depth, tables, held⟩ := accepted_toolDepth (s := s) (ch := ch) long
      have newBand : bandAtSample u ≠ u.band := by
        unfold bandAtSample
        rw [depth, tables, held]
        exact changes
      have chosenIs : madeChoices u 1 = chosen := by
        have made : u.choices = s.choices := by
          show (copied s _).choices = s.choices
          unfold copied
          dsimp only
          rw [if_pos room]
          rfl
        unfold madeChoices
        rw [made]
      have depthAfter : toolDepth (bandPayout chosen) = z := (bandPayout_toolDepth chosen).1.trans depth
      rw [run]
      rcases handOnPayout_of_change (s := u) (by rw [tables]; exact valid) newBand with first | second
      · refine .inl ?_
        show Host.Outcome.next (handOnPayout u) = _
        rw [first, chosenIs, kellyIs (w := chosen) depth]
      · refine .inr ?_
        show Host.Outcome.next (handOnPayout u) = _
        rw [second, chosenIs, kellyIs depthAfter]

end Sys2Proof.Machine
end

section
/-! What the hand-offs of an accepted sample may change (R42 to R44, R57, R61, R74, R97, R115, R134). -/

namespace Sys2Proof.Machine

open Sys2Proof

/-! ## The tracking blocks under the hand-offs -/

/-- Beside what `Kept` says: sensors, backoff and its timers, and the machine-side fault record. -/
structure MovedFrame (s t : State) : Prop extends Kept s t where
  sensors       : t.sensors = s.sensors
  backoff       : t.backoff = s.backoff
  stallTimer    : t.stallTimer = s.stallTimer
  recoveryTimer : t.recoveryTimer = s.recoveryTimer
  machineFault  : t.machineFault = s.machineFault

theorem MovedFrame.trans {s t u : State} (h : MovedFrame s t) (k : MovedFrame t u) : MovedFrame s u :=
  ⟨h.toKept.trans k.toKept, k.sensors.trans h.sensors, k.backoff.trans h.backoff, k.stallTimer.trans h.stallTimer,
    k.recoveryTimer.trans h.recoveryTimer, k.machineFault.trans h.machineFault⟩

theorem SameTracking.moved {s t : State} (h : SameTracking s t) : MovedFrame s t :=
  ⟨h.toKept, h.sensors, h.backoff, h.stallTimer, h.recoveryTimer, h.machineFault⟩

theorem KellyFrame.moved {s t : State} (h : KellyFrame s t) : MovedFrame s t :=
  ⟨h.toKept, h.sensors, h.backoff, h.stallTimer, h.recoveryTimer, h.machineFault⟩

theorem movedFrame_mk (s : State) (js : List Joint) (e : Int) (m : Bool) (z : Option Int) (a : Int) (r : Option Int)
    (band : Option Nat) : MovedFrame s { s with
      joints := js, extension := e, mismatch := m, depthHeld := z, keyTravel := a, angleRef := r, band := band } :=
  ⟨kept_mk s js e m z a r band s.backoff s.stallTimer s.recoveryTimer, rfl, rfl, rfl, rfl, rfl⟩

theorem madeChoices_moved (s : State) (n : Nat) : MovedFrame s (madeChoices s n) :=
  ⟨madeChoices_frame s n, rfl, rfl, rfl, rfl, rfl⟩

theorem allocateIfTracking_kelly (s : State) : KellyFrame s (allocateIfTracking s) := by
  unfold allocateIfTracking
  split
  · exact allocate_kelly s
  · exact ⟨.refl s, rfl, rfl, rfl, rfl, rfl, rfl, rfl, rfl, rfl⟩

theorem kellyPayout_moved (s : State) : MovedFrame s (kellyPayout s) ∧ (kellyPayout s).angleRef = s.angleRef := by
  unfold kellyPayout
  split
  · have frame := allocateIfTracking_kelly { s with depthHeld := some (toolDepth s) }
    exact ⟨(movedFrame_mk s s.joints s.extension s.mismatch _ s.keyTravel s.angleRef s.band).trans frame.moved, frame.angleRef⟩
  · exact ⟨(allocateIfTracking_kelly s).moved, (allocateIfTracking_kelly s).angleRef⟩

theorem changeBand_moved (s : State) (band : Option Nat) : MovedFrame s (changeBand s band) ∧
    (changeBand s band).angleRef = s.angleRef := by
  have told : SameTracking { s with band := band } (changeBand s band) := by
    rw [changeBand_eq]
    exact (report_frame _ _ _ _).toSameTracking.trans (evaluateAxes_frame _ allAxes).toSameTracking
  exact ⟨(movedFrame_mk s s.joints s.extension s.mismatch s.depthHeld s.keyTravel s.angleRef band).trans told.moved, told.angleRef⟩

theorem bandPayout_moved (s : State) : MovedFrame s (bandPayout s) ∧ (bandPayout s).angleRef = s.angleRef := by
  unfold bandPayout
  split
  · exact changeBand_moved s _
  · exact ⟨⟨.refl s, rfl, rfl, rfl, rfl, rfl⟩, rfl⟩

theorem handOnPayout_moved (s : State) : MovedFrame s (handOnPayout s) ∧ (handOnPayout s).angleRef = s.angleRef := by
  have chosen := madeChoices_moved s 1
  unfold handOnPayout
  split
  · split
    · obtain ⟨kelly, angle⟩ := kellyPayout_moved (madeChoices s 1)
      obtain ⟨band, angle'⟩ := bandPayout_moved (kellyPayout (madeChoices s 1))
      exact ⟨(chosen.trans kelly).trans band, angle'.trans angle⟩
    · obtain ⟨band, angle⟩ := bandPayout_moved (madeChoices s 1)
      obtain ⟨kelly, angle'⟩ := kellyPayout_moved (bandPayout (madeChoices s 1))
      exact ⟨(chosen.trans band).trans kelly, angle'.trans angle⟩
  · exact kellyPayout_moved s

/-- A turn of the bar leaves the geometry's mismatch and depth, the band and the bar fault record besides. -/
structure TurnFrame (s t : State) : Prop extends MovedFrame s t where
  mismatch  : t.mismatch = s.mismatch
  depthHeld : t.depthHeld = s.depthHeld
  band      : t.band = s.band
  barFault  : t.barFault = s.barFault

theorem TurnFrame.trans {s t u : State} (h : TurnFrame s t) (k : TurnFrame t u) : TurnFrame s u :=
  ⟨h.toMovedFrame.trans k.toMovedFrame, k.mismatch.trans h.mismatch, k.depthHeld.trans h.depthHeld, k.band.trans h.band,
    k.barFault.trans h.barFault⟩

theorem SameTracking.turn {s t : State} (h : SameTracking s t) : TurnFrame s t :=
  ⟨h.moved, h.mismatch, h.depthHeld, h.band, h.barFault⟩

theorem turnFrame_mk (s : State) (js : List Joint) (e a : Int) (r : Option Int) :
    TurnFrame s { s with joints := js, extension := e, keyTravel := a, angleRef := r } :=
  ⟨movedFrame_mk s js e s.mismatch s.depthHeld a r s.band, rfl, rfl, rfl, rfl⟩

theorem madeChoices_turn (s : State) (n : Nat) : TurnFrame s (madeChoices s n) :=
  ⟨madeChoices_moved s n, rfl, rfl, rfl, rfl⟩

theorem handOffRelease_turn (s : State) (n : Nat) : TurnFrame s (handOffRelease s n) := by
  have chosen := madeChoices_turn s 1
  unfold handOffRelease
  split
  · split
    · exact (chosen.trans (sequencerReleaseEvent_frame _ n).turn).trans (evaluateNow_frame _ _).toSameTracking.turn
    · exact (chosen.trans (evaluateNow_frame _ _).toSameTracking.turn).trans (sequencerReleaseEvent_frame _ n).turn
  · exact (evaluateNow_frame s .crowd).toSameTracking.turn

theorem keyTests_turn (s : State) : TurnFrame s (keyTests s) := by
  unfold keyTests
  split
  · rw [lockEvent_eq]
    have locked : TurnFrame s (jointsLocked s) :=
      (turnFrame_mk s (jointsLocked s).joints (jointsLocked s).extension 0 s.angleRef).trans
        (jointsLocked_frame s).toSameTracking.turn
    exact locked.trans (sequencerLockEvent_frame _ _).turn
  split
  · rw [releaseEvent_eq]
    have freed : TurnFrame s (jointsFreed s) :=
      (turnFrame_mk s (jointsFreed s).joints s.extension 0 s.angleRef).trans (jointsFreed_frame s).toSameTracking.turn
    exact freed.trans (handOffRelease_turn _ _)
  · exact ⟨⟨.refl s, rfl, rfl, rfl, rfl, rfl⟩, rfl, rfl, rfl, rfl⟩

theorem kellyAngle_turn (s : State) : TurnFrame s (kellyAngle s) := by
  unfold kellyAngle
  dsimp only
  split
  · exact (turnFrame_mk s s.joints s.extension _ _).trans (keyTests_turn _)
  · exact turnFrame_mk s s.joints s.extension s.keyTravel _

/-! ## A sample handed on -/

/-- A state recorded and the state after its hand-offs: what each quantity may change (R43, R44, R115, R134). -/
structure SampleHanded (q : Quantity) (old : RecordState) (r t : State) : Prop where
  kept          : Kept { r with ports := t.ports } t
  sensors       : t.sensors = r.sensors
  evaluated     : old ≠ .fresh → ∀ a, (t.axis a).lastEval = some r.millis
  backoff       : t.backoff = r.backoff
  recoveryTimer : t.recoveryTimer = r.recoveryTimer
  machineFault  : t.machineFault = r.machineFault
  angleRef      : q ≠ .angle → t.angleRef = r.angleRef
  stallKept     : q ≠ .angle → q ≠ .torque → t.stallTimer = r.stallTimer
  stallTested   : q = .angle ∨ q = .torque → old = .fresh ∨ r.stallTimer = none → t.stallTimer =
    if stallStands t = true then r.stallTimer.or (some (Rig.stallTime r.tables.rig)) else none
  bandKept      : q ≠ .payout → t.band = r.band ∧ t.depthHeld = r.depthHeld
  mismatchKept  : q ≠ .payout → q ≠ .head → t.mismatch = r.mismatch ∧ t.barFault = r.barFault
  measured      : q = .torque ∨ q = .force ∨ q = .rope →
    t.joints = r.joints ∧ t.extension = r.extension ∧ t.keyTravel = r.keyTravel ∧ t.sequencer = r.sequencer ∧
    t.sequenceTimer = r.sequenceTimer ∧ t.aborts = r.aborts ∧
    (∀ a, t.axis a = { r.axis a with
      governed := (t.axis a).governed, cause := (t.axis a).cause, lastEval := (t.axis a).lastEval }) ∧
    (old = .fresh → ∀ a, Axis.measured a = q ∧ (r.axis a).state.inService → EvaluatedIn r r t a) ∧
    (old = .fresh → ∀ a, ¬(Axis.measured a = q ∧ (r.axis a).state.inService) →
      t.axis a = r.axis a ∧ t.delivery a = r.delivery a) ∧
    (old ≠ .fresh → ∀ a, ¬(Axis.measured a = q ∧ (r.axis a).state.inService) → EvaluatedIn r r t a)

/-- The state that a sample is handed on from: the change to FRESH handed on, if there was one. -/
def freshened (old : RecordState) (q : Quantity) (r : State) : State :=
  if old = .fresh then r else handOnFreshness (report r .sensorFresh q.code old.code) q old

theorem handedOn_eq (old : RecordState) (q : Quantity) (r : State) : handedOn old q r = handOnSample (freshened old q r) q := rfl

theorem freshened_of_fresh (q : Quantity) (r : State) : freshened .fresh q r = r := if_pos rfl

/-- A change to FRESH evaluates every axis and ends nothing. -/
theorem freshened_spec (old : RecordState) (q : Quantity) (r : State) :
    let w := freshened old q r
    FreshnessFrame r w ∧ w.angleRef = r.angleRef ∧ (q ≠ .angle → q ≠ .torque → w.stallTimer = r.stallTimer) ∧
    w.sequencer = r.sequencer ∧ w.sequenceTimer = r.sequenceTimer ∧ w.aborts = r.aborts ∧
    (old ≠ .fresh → (∀ a, EvaluatedIn r r w a) ∧ w.reports = reportsAfter r .sensorFresh q.code old.code) := by
  intro w
  by_cases was : old = .fresh
  · have same : w = r := by
      unfold w
      rw [was, freshened_of_fresh]
    rw [same]
    exact ⟨freshnessMade_frame r r.angleRef r.stallTimer r.choices, rfl, fun _ _ => rfl, rfl, rfl, rfl, fun other => absurd was other⟩
  · have wIs : w = handOnFreshness (report r .sensorFresh q.code old.code) q old := if_neg was
    have kept : endsSequence (report r .sensorFresh q.code old.code) q old = false := by
      unfold endsSequence
      cases old
      · simp
      · exact absurd rfl was
      · simp
    obtain ⟨axes, sequencer, timer, aborts, reports⟩ := handOnFreshness_of_kept kept
    have frame := (report_beside r .sensorFresh q.code old.code)
    have freshFrame := (report_frame r .sensorFresh q.code old.code).toSameTracking.freshness
    have angle := handOnFreshness_angleRef (report r .sensorFresh q.code old.code) q old
    rw [if_neg fun lost => was lost.2.1] at angle
    rw [wIs]
    exact ⟨freshFrame.trans (handOnFreshness_freshness _ q old), angle, fun angle torque =>
      handOnFreshness_stallTimer_of_other angle torque _ old, sequencer, timer, aborts,
      fun _ => ⟨fun a => (axes a).of_beside (evaluated_of_same frame.envelope frame.drive a) frame, reports⟩⟩

theorem stallTest_timer (s : State) : (stallTest s).stallTimer =
    if stallStands (stallTest s) = true then s.stallTimer.or (some (Rig.stallTime s.tables.rig)) else none := by
  have same : stallStands (stallTest s) = stallStands s := rfl
  rw [same]
  cases stands : stallStands s with
  | true => rw [stallTest_of_stands stands, if_pos rfl]
  | false => rw [stallTest_of_unmet stands, if_neg (by decide)]

/-- A stall timer that was idle stays idle or takes the stall time at the change to FRESH. -/
theorem freshened_stallTimer {old : RecordState} {q : Quantity} {r : State} (load : q = .angle ∨ q = .torque)
    (idle : r.stallTimer = none) : (freshened old q r).stallTimer = none ∨
    (freshened old q r).stallTimer = some (Rig.stallTime r.tables.rig) := by
  by_cases was : old = .fresh
  · rw [was, freshened_of_fresh]
    exact .inl idle
  · have wIs : freshened old q r = stallTest (freshnessToAxes (freshnessToKelly (report r .sensorFresh q.code old.code) q old) q old) :=
      (if_neg was).trans (freshnessToStall_of_load load _)
    have frame := (report_frame r .sensorFresh q.code old.code).toSameTracking.freshness.trans
      ((freshnessToKelly_freshness _ q old).trans (freshnessToAxes_freshness _ q old))
    have stall : (freshnessToAxes (freshnessToKelly (report r .sensorFresh q.code old.code) q old) q old).stallTimer = none := by
      rw [(freshnessToAxes_trackers _ q old).2, freshnessToKelly_eq]
      exact idle
    rw [wIs, stallTest_timer, stall, frame.tables]
    split
    · exact .inr rfl
    · exact .inl rfl

theorem timer_or_of_idle {w : Timer} {d : Nat} (idle : w = none ∨ w = some d) : w.or (some d) = some d := by
  rcases idle with rfl | rfl <;> rfl

/-- The stall test that ends the hand-off of ANGLE and TORQUE, on the timer that the change to FRESH left. -/
theorem stallTest_tested {old : RecordState} {q : Quantity} {r v : State} (load : q = .angle ∨ q = .torque)
    (stall : v.stallTimer = (freshened old q r).stallTimer) (tables : v.tables = r.tables)
    (before : old = .fresh ∨ r.stallTimer = none) : (stallTest v).stallTimer =
    if stallStands (stallTest v) = true then r.stallTimer.or (some (Rig.stallTime r.tables.rig)) else none := by
  rw [stallTest_timer, tables, stall]
  refine if_congr Iff.rfl ?_ rfl
  rcases before with rfl | idle
  · rw [freshened_of_fresh]
  · rw [timer_or_of_idle (freshened_stallTimer load idle), idle]
    rfl

theorem AxisState.outOfService.not_inService {x : AxisState} (out : x.outOfService) : ¬x.inService := by
  rcases out with rfl | rfl <;> rintro (h | h | h) <;> cases h

theorem evaluateInService_at (s : State) (a : Axis) : let t := evaluateInService s a
    (∀ b, b ≠ a → SameAt b s t) ∧ ((s.axis a).state.inService → EvaluatedIn s s t a) ∧
    ((s.axis a).state.outOfService → SameAt a s t) := by
  intro t
  rcases AxisState.service_cases (s.axis a).state with service | out
  · have tIs : t = evaluateNow s a := evaluateInService_of_inService service
    rw [tIs]
    exact ⟨fun b other => evaluateNow_same_at s other, fun _ => evaluateNow_evaluatedIn s a,
      fun out => absurd service out.not_inService⟩
  · have tIs : t = s := evaluateInService_of_outOfService out
    rw [tIs]
    exact ⟨fun b _ => .refl b s, fun service => absurd service out.not_inService, fun _ => .refl a s⟩

/-- The hand-offs of TORQUE, FORCE and ROPE: the measured axis evaluated where it is in service, after the change to FRESH. -/
theorem measured_handed {q : Quantity} {old : RecordState} {r t : State} {m : Axis} (measures : ∀ a, Axis.measured a = q ↔ a = m)
    (axes : t.axes = (evaluateInService (freshened old q r) m).axes)
    (deliveries : t.deliveries = (evaluateInService (freshened old q r) m).deliveries) :
    (∀ a, t.axis a = { r.axis a with
      governed := (t.axis a).governed, cause := (t.axis a).cause, lastEval := (t.axis a).lastEval }) ∧
    (old = .fresh → ∀ a, Axis.measured a = q ∧ (r.axis a).state.inService → EvaluatedIn r r t a) ∧
    (old = .fresh → ∀ a, ¬(Axis.measured a = q ∧ (r.axis a).state.inService) →
      t.axis a = r.axis a ∧ t.delivery a = r.delivery a) ∧
    (old ≠ .fresh → ∀ a, ¬(Axis.measured a = q ∧ (r.axis a).state.inService) → EvaluatedIn r r t a) := by
  obtain ⟨frame, -, -, -, -, -, changed⟩ := freshened_spec old q r
  have asFresh (was : old = .fresh) : freshened old q r = r := by rw [was, freshened_of_fresh]
  revert axes deliveries asFresh
  generalize freshened old q r = w at *
  intro axes deliveries asFresh
  obtain ⟨others, evaluates, rests⟩ := evaluateInService_at w m
  generalize evaluateInService w m = v at *
  have axis (a : Axis) : t.axis a = v.axis a := congrArg (fun y => y.get a) axes
  have delivery (a : Axis) : t.delivery a = v.delivery a := congrArg (fun y => y.get a) deliveries
  have onto {a : Axis} {z y : State} (h : EvaluatedIn z y v a) : EvaluatedIn z y t a :=
    ⟨(axis a).trans h.1, (delivery a).trans h.2⟩
  have state (a : Axis) : (w.axis a).state = (r.axis a).state := by
    by_cases was : old = .fresh
    · rw [asFresh was]
    · rw [((changed was).1 a).1]
  have still {a : Axis} (idle : ¬(Axis.measured a = q ∧ (r.axis a).state.inService)) : SameAt a w v := by
    by_cases here : a = m
    · have out := (AxisState.service_cases (r.axis a).state).resolve_left fun service => idle ⟨(measures a).mpr here, service⟩
      subst here
      exact rests (by rw [state]; exact out)
    · exact others a here
  refine ⟨fun a => ?_, fun was a both => ?_, fun was a idle => ?_, fun was a idle => onto (((changed was).1 a).then_same (still idle))⟩
  · have fromW : w.axis a = { r.axis a with
        governed := (w.axis a).governed, cause := (w.axis a).cause, lastEval := (w.axis a).lastEval } := by
      by_cases was : old = .fresh
      · rw [asFresh was]
      · rw [((changed was).1 a).1]
    have fromV : v.axis a = { w.axis a with
        governed := (v.axis a).governed, cause := (v.axis a).cause, lastEval := (v.axis a).lastEval } := by
      by_cases idle : ¬(Axis.measured a = q ∧ (r.axis a).state.inService)
      · rw [(still idle).axis]
      · obtain ⟨measured, service⟩ := not_not.mp idle
        have here := (measures a).mp measured
        subst here
        rw [(evaluates (by rw [state]; exact service)).1]
    rw [axis, fromV, fromW]
  · rw [asFresh was] at evaluates
    have here := (measures a).mp both.1
    subst here
    exact onto (evaluates both.2)
  · obtain ⟨sameAxis, sameDelivery, -⟩ := still idle
    rw [asFresh was] at sameAxis sameDelivery
    exact ⟨(axis a).trans sameAxis, (delivery a).trans sameDelivery⟩

/-- The hand-off of a quantity before its stall test. -/
def handOnUntested (s : State) (q : Quantity) : State :=
  match q with
  | .payout => handOnPayout s
  | .head => allocateIfTracking s
  | .angle => kellyAngle s
  | .torque => evaluateInService s .rotary
  | .force => evaluateInService s .crowd
  | .rope => evaluateInService s .hoist

/-- The stall test is last, after ANGLE and TORQUE alone (R114, R115). -/
theorem handOnSample_untested (s : State) (q : Quantity) : handOnSample s q =
    if q = .angle ∨ q = .torque then stallTest (handOnUntested s q) else handOnUntested s q := by
  cases q <;> rfl

theorem stallTest_fields (s : State) : ∃ timer, stallTest s = { s with stallTimer := timer } := ⟨_, rfl⟩

theorem handOnSample_stall (s : State) (q : Quantity) : ∃ timer,
    handOnSample s q = { handOnUntested s q with stallTimer := timer } := by
  rw [handOnSample_untested]
  split
  · exact stallTest_fields _
  · exact ⟨(handOnUntested s q).stallTimer, rfl⟩

/-- What the hand-off of each quantity leaves of the tracking blocks (R43). -/
theorem handOnUntested_moved (s : State) (q : Quantity) : let t := handOnUntested s q
    MovedFrame s t ∧ (q ≠ .angle → t.angleRef = s.angleRef) ∧
    (q ≠ .payout → t.band = s.band ∧ t.depthHeld = s.depthHeld) ∧
    (q ≠ .payout → q ≠ .head → t.mismatch = s.mismatch ∧ t.barFault = s.barFault) := by
  have evaluation (a : Axis) : let t := evaluateInService s a
      MovedFrame s t ∧ (q ≠ .angle → t.angleRef = s.angleRef) ∧
      (q ≠ .payout → t.band = s.band ∧ t.depthHeld = s.depthHeld) ∧
      (q ≠ .payout → q ≠ .head → t.mismatch = s.mismatch ∧ t.barFault = s.barFault) :=
    have same := (evaluateInService_frame s a).toSameTracking
    ⟨same.moved, fun _ => same.angleRef, fun _ => ⟨same.band, same.depthHeld⟩, fun _ _ => ⟨same.mismatch, same.barFault⟩⟩
  cases q with
  | payout => exact ⟨(handOnPayout_moved s).1, fun _ => (handOnPayout_moved s).2, fun no => absurd rfl no, fun no => absurd rfl no⟩
  | head =>
    have same := allocateIfTracking_kelly s
    exact ⟨same.moved, fun _ => same.angleRef, fun _ => ⟨same.band, same.depthHeld⟩, fun _ no => absurd rfl no⟩
  | angle =>
    have same := kellyAngle_turn s
    exact ⟨same.toMovedFrame, fun no => absurd rfl no, fun _ => ⟨same.band, same.depthHeld⟩, fun _ _ => ⟨same.mismatch, same.barFault⟩⟩
  | torque => exact evaluation .rotary
  | force => exact evaluation .crowd
  | rope => exact evaluation .hoist

theorem handOnUntested_measured {q : Quantity} (load : q = .torque ∨ q = .force ∨ q = .rope) : ∃ m : Axis,
    (∀ a, Axis.measured a = q ↔ a = m) ∧ ∀ s, handOnUntested s q = evaluateInService s m := by
  rcases load with rfl | rfl | rfl
  · exact ⟨.rotary, by intro a; cases a <;> decide, fun _ => rfl⟩
  · exact ⟨.crowd, by intro a; cases a <;> decide, fun _ => rfl⟩
  · exact ⟨.hoist, by intro a; cases a <;> decide, fun _ => rfl⟩

theorem handedOn_handed (old : RecordState) (q : Quantity) (r : State) : SampleHanded q old r (handedOn old q r) := by
  obtain ⟨frame, angle, stall, sequencer, timer, aborts, changed⟩ := freshened_spec old q r
  obtain ⟨moved, angleRef, bandKept, mismatchKept⟩ := handOnUntested_moved (freshened old q r) q
  have kept : Kept r (handedOn old q r) := frame.toKept.trans (handOnSample_frame (freshened old q r) q)
  have evals (now : old ≠ .fresh) (a : Axis) : ((handedOn old q r).axis a).lastEval = some r.millis := by
    rw [handedOn_eq, ← frame.millis]
    exact (handOnSample_evals (freshened old q r) q).allNow (fun b => by rw [((changed now).1 b).1, frame.millis]) a
  obtain ⟨stallTimer, tIs⟩ := handOnSample_stall (freshened old q r) q
  have tested := handOnSample_untested (freshened old q r) q
  rw [handedOn_eq, tIs] at kept evals ⊢
  rw [tIs] at tested
  refine ⟨?_, moved.sensors.trans frame.sensors, evals, moved.backoff.trans frame.backoff,
    moved.recoveryTimer.trans frame.recoveryTimer, moved.machineFault.trans frame.machineFault,
    fun other => (angleRef other).trans angle, fun noAngle noTorque => ?_, fun load before => ?_, fun other => ?_,
    fun payout head => ?_, fun load => ?_⟩
  · rw [kept.ports]
    exact kept
  · rw [tested, if_neg (not_or.mpr ⟨noAngle, noTorque⟩)]
    exact moved.stallTimer.trans (stall noAngle noTorque)
  · rw [tested, if_pos load]
    exact stallTest_tested load moved.stallTimer (moved.tables.trans frame.tables) before
  · obtain ⟨band, depth⟩ := bandKept other
    exact ⟨band.trans frame.band, depth.trans frame.depthHeld⟩
  · obtain ⟨mismatch, fault⟩ := mismatchKept payout head
    exact ⟨mismatch.trans frame.mismatch, fault.trans frame.barFault⟩
  · obtain ⟨m, measures, evaluation⟩ := handOnUntested_measured load
    have same := evaluateInService_frame (freshened old q r) m
    rw [evaluation]
    exact ⟨same.joints.trans frame.joints, same.extension.trans frame.extension, same.keyTravel.trans frame.keyTravel,
      same.sequencer.trans sequencer, same.sequenceTimer.trans timer, same.aborts.trans aborts, measured_handed measures rfl rfl⟩

/-! ## What stands beside the hand-offs -/

theorem SampleFrame.kept_ports {s t : State} (h : SampleFrame s t) (ports : PerPort PortRecord) :
    Kept { s with ports := ports } { t with ports := ports } :=
  ⟨⟨h.grows, h.bound⟩, h.pending, h.resetLow, h.bitRate, h.millis, rfl, h.channel, h.governor, h.quiet, h.earlierMap, h.tables,
    h.selection, h.loadFlags, h.buffer, h.flight, h.replies, h.restarting, h.statusSlot, h.statusTimer⟩

theorem stallStands_of_beside {s t : State} (b : Beside s t) : stallStands t = stallStands s := by
  have governed : t.axes.rotary.governed = s.axes.rotary.governed := by rw [b.drive.axes]
  have envelope := b.envelope
  refine Bool.eq_iff_iff.mpr ?_
  rw [stallStands_iff, stallStands_iff, governed, b.frame.tables, b.sensor, b.sensor, envelope.bandInForce, envelope.limitOf]

/-- The hand-offs, and then a copy beside them. -/
theorem SampleHanded.after {q : Quantity} {old : RecordState} {r t v : State} (h : SampleHanded q old r t) (b : Beside t v) :
    SampleHanded q old r v := by
  have axis (a : Axis) : v.axis a = t.axis a := congrArg (fun y => y.get a) b.drive.axes
  have delivery (a : Axis) : v.delivery a = t.delivery a := congrArg (fun y => y.get a) b.drive.deliveries
  refine ⟨?_, b.sensors.trans h.sensors, fun was a => ?_, b.frame.backoff.trans h.backoff,
    b.frame.recoveryTimer.trans h.recoveryTimer, b.frame.machineFault.trans h.machineFault,
    fun other => b.angleRef.trans (h.angleRef other), fun angle torque => b.stallTimer.trans (h.stallKept angle torque),
    fun load before => ?_, fun other => ?_, fun payout head => ?_, fun load => ?_⟩
  · have moved := h.kept
    exact (⟨⟨moved.grows, moved.bound⟩, moved.pending, moved.resetLow, moved.bitRate, moved.millis, rfl, moved.channel,
      moved.governor, moved.quiet, moved.earlierMap, moved.tables, moved.selection, moved.loadFlags, moved.buffer, moved.flight,
      moved.replies, moved.restarting, moved.statusSlot, moved.statusTimer⟩ :
      Kept { r with ports := v.ports } { t with ports := v.ports }).trans (b.frame.kept_ports v.ports)
  · rw [axis]
    exact h.evaluated was a
  · rw [b.stallTimer, stallStands_of_beside b]
    exact h.stallTested load before
  · rw [b.frame.band, b.frame.depthHeld]
    exact h.bandKept other
  · rw [b.frame.mismatch, b.frame.barFault]
    exact h.mismatchKept payout head
  · obtain ⟨joints, extension, keyTravel, sequencer, timer, aborts, axes, again, rests, changed⟩ := h.measured load
    refine ⟨b.frame.joints.trans joints, b.frame.extension.trans extension, b.frame.keyTravel.trans keyTravel,
      b.drive.sequencer.trans sequencer, b.drive.sequenceTimer.trans timer, b.drive.aborts.trans aborts, fun a => ?_,
      fun was a both => (again was a both).then_beside b, fun was a idle => ?_, fun was a idle => (changed was a idle).then_beside b⟩
    · rw [axis]
      exact axes a
    · rw [axis, delivery]
      exact rests was a idle

/-- The record that an accepted sample leaves (R39). -/
def sampled (s : State) (q : Quantity) (payload : List Byte) : SensorRecord :=
  { state := .fresh, value := some (s32At payload 0)
    secondary := if q = .angle then some (s16At payload 4) else (s.sensor q).secondary
    lastAlive := some (u8At payload 6 % 16), stamp := some s.millis, timer := some (Rig.freshness s.tables.rig q) }

theorem countQuantity_beside (s : State) (q : Quantity) (g : QuantityCounters → QuantityCounters) : Beside s (s.countQuantity q g) :=
  ⟨(s.countQuantity_frame q g).toSameTracking.freshness.sample, ⟨rfl, rfl, rfl, rfl, rfl⟩, rfl, rfl, rfl, rfl⟩

theorem Beside.recorded {s x : State} (b : Beside s x) (q : Quantity) (payload : List Byte) :
    ∃ y, Beside s y ∧ recordSample x q payload = y.setSensor q (sampled s q payload) :=
  ⟨_, b.trans (countQuantity_beside x q _), recordSample_eq payload (b.sensor q) b.frame.millis b.frame.tables⟩

/-- An accepted sample: recorded in `r`, beside which `u` stands, and handed on to `t` (R39, R43). -/
structure SampleTaken (q : Quantity) (payload : List Byte) (s u r t : State) : Prop where
  recorded : ∃ x, Beside s x ∧ r = x.setSensor q (sampled s q payload)
  beside   : Beside r u
  handed   : SampleHanded q (s.sensor q).state r t
  ports    : t.ports = u.ports
  counts   : SameCounts u t

theorem handedOn_counts (old : RecordState) (q : Quantity) (r : State) : SameCounts r (handedOn old q r) := by
  rw [handedOn_eq]
  refine SameCounts.trans ?_ (handOnSample_counts _ q)
  unfold freshened
  split
  · exact .refl r
  · exact (report_counts r _ _ _).trans (handOnFreshness_counts _ q old)

theorem handedOn_reports {old : RecordState} (changed : old ≠ .fresh) (q : Quantity) (r : State) :
    reportsAfter r .sensorFresh q.code old.code <+: (handedOn old q r).reports := by
  obtain ⟨-, -, -, -, -, -, change⟩ := freshened_spec old q r
  obtain ⟨-, reports⟩ := change changed
  rw [handedOn_eq, ← reports]
  exact (handOnSample_frame (freshened old q r) q).grows

theorem SampleAccepted.taken {s : State} {ch : Channel} {payload : List Byte} {early : Bool} {q : Quantity}
    (ok : SampleAccepted s ch payload early q) : ∃ r t, exec (.sensorSample ch payload early) s = .next t ∧
      SampleTaken q payload s (accepted s ch payload q) r t ∧
      ((s.sensor q).state ≠ .fresh → (s.port .operator).queue.length < 32 →
        reportsAfter s .sensorFresh q.code (s.sensor q).state.code <+: t.reports) := by
  have ports (r : State) : (handedOn (s.sensor q).state q r).ports = r.ports := (handOnSample_frame _ q).ports.trans
    (freshened_spec (s.sensor q).state q r).1.ports
  rcases ok.cases with after | ⟨full, copy, first⟩
  · have recorded := (copied_beside s (ownFrame 4 ch.toNat payload)).recorded q payload
    rw [recordSample_copied ok.long] at recorded
    refine ⟨_, _, after, ⟨recorded, .refl _, handedOn_handed _ q _, ports _, handedOn_counts _ q _⟩, fun changed room => ?_⟩
    have told : reportsAfter (accepted s ch payload q) .sensorFresh q.code (s.sensor q).state.code =
        reportsAfter s .sensorFresh q.code (s.sensor q).state.code := by
      have b := copied_beside s (ownFrame 4 ch.toNat payload)
      rw [← recordSample_copied ok.long]
      exact reportsAfter_congr b.frame.tables (copied_reports_of_room room _) b.frame.channel b.frame.millis _ _ _
    rw [← told]
    exact handedOn_reports changed q _
  · have b := (heard_beside s).trans (madeChoices_beside (heard s .machine) 1)
    rw [copy]
    exact ⟨_, _, first, ⟨b.recorded q payload, forwardFrame_beside _ _, (handedOn_handed _ q _).after (forwardFrame_beside _ _),
      forwardFrame_ports_congr (ports _) .machine _, forwardFrame_counts_congr (ports _) (handedOn_counts _ q _) .machine _⟩,
      fun _ room => absurd room (not_lt.mpr full)⟩

/-- Settles O22: what is recorded, and what the hand-offs may change after it. -/
theorem acceptedSampleMakesItsRecordFresh : Obligations.AcceptedSampleMakesItsRecordFresh := by
  intro s ch payload early q takes mapped long sound new healthy inRange u old again
  obtain ⟨r, t, run, ⟨⟨x, b, rIs⟩, beside, handed, ports, counts⟩, told⟩ :=
    SampleAccepted.taken ⟨takes, mapped, long, sound, new, healthy, inRange⟩
  have axis (a : Axis) : r.axis a = s.axis a := by
    rw [rIs]
    exact congrArg (fun y => y.get a) b.drive.axes
  have delivery (a : Axis) : r.delivery a = s.delivery a := by
    rw [rIs]
    exact congrArg (fun y => y.get a) b.drive.deliveries
  have value := evaluated_of_same beside.envelope beside.drive
  have evaluation {a : Axis} (h : EvaluatedIn r r t a) : EvaluatedIn u s t a := by
    rw [rIs] at h
    exact (h.of_same (s := x) (by rw [← rIs]; exact (value a).symm) ⟨rfl, rfl, rfl⟩ rfl rfl).of_beside rfl b
  have sensors : t.sensors = s.sensors.set q (sampled s q payload) := by
    rw [handed.sensors, rIs]
    show x.sensors.set q _ = _
    rw [b.sensors]
  have kept : Kept { s with ports := u.ports } t := by
    rw [← ports]
    refine (b.frame.kept_ports t.ports).trans ?_
    have moved := handed.kept
    rw [rIs] at moved
    exact (State.setSensor_frame { x with ports := t.ports } q (sampled s q payload)).trans moved
  have frame : SampleFrame s r := by
    rw [rIs]
    exact b.frame.trans (.made x x.ports _ x.counters x.choices)
  have angleRef : r.angleRef = s.angleRef := by
    rw [rIs]
    exact b.angleRef
  have stallTimer : r.stallTimer = s.stallTimer := by
    rw [rIs]
    exact b.stallTimer
  have drive : r.sequencer = s.sequencer ∧ r.sequenceTimer = s.sequenceTimer ∧ r.aborts = s.aborts := by
    rw [rIs]
    exact ⟨b.drive.sequencer, b.drive.sequenceTimer, b.drive.aborts⟩
  refine ⟨t, run, ?_, fun other apart => ?_, kept, counts, ?_, told, handed.backoff.trans frame.backoff,
    handed.recoveryTimer.trans frame.recoveryTimer, handed.machineFault.trans frame.machineFault,
    fun apart => (handed.angleRef apart).trans angleRef, fun angle torque => (handed.stallKept angle torque).trans stallTimer,
    ?_, ?_, ?_, fun load => ?_⟩
  · show t.sensors.get q = _
    rw [sensors]
    exact State.sensor_setSensor_same s q _
  · show t.sensors.get other = _
    rw [sensors]
    exact State.sensor_setSensor_other s q other _ apart
  · rw [← frame.millis]
    exact handed.evaluated
  · rw [← stallTimer, ← frame.tables]
    exact handed.stallTested
  · rw [← frame.band, ← frame.depthHeld]
    exact handed.bandKept
  · rw [← frame.mismatch, ← frame.barFault]
    exact handed.mismatchKept
  · obtain ⟨joints, extension, keyTravel, sequencer, timer, aborts, axes, evaluates, rests, changed⟩ := handed.measured load
    simp only [axis, delivery] at axes evaluates rests changed
    exact ⟨joints.trans frame.joints, extension.trans frame.extension, keyTravel.trans frame.keyTravel, sequencer.trans drive.1,
      timer.trans drive.2.1, aborts.trans drive.2.2, axes, fun was a both => evaluation (evaluates was a both), rests,
      fun was a idle => evaluation (changed was a idle)⟩

end Sys2Proof.Machine
end

section
/-! The completion of a commit: refusals, and what a commit that passes applies and leads to (R162, R167 to R169). -/

namespace Sys2Proof.Machine

open Sys2Proof

theorem exec_commitCompletion (s : State) : exec .commitCompletion s = .next (commitCompletion s) := rfl

theorem exec_commitCompletion_refused {s : State} {f : Flight} {why : CommitFault} (flying : s.flight = some f)
    (refused : commitFault s (takenRows s f) = some why) : exec .commitCompletion s = .next (refuseCommit s f why) := by
  rw [exec_commitCompletion, commitCompletion, flying]
  dsimp only
  rw [refused]

theorem exec_commitCompletion_passed {s : State} {f : Flight} (flying : s.flight = some f)
    (passes : commitFault s (takenRows s f) = none) : exec .commitCompletion s = .next (passCommit s f) := by
  rw [exec_commitCompletion, commitCompletion, flying]
  dsimp only
  rw [passes]

theorem mayChangeBar_iff (s : State) : mayChangeBar s = true ↔ s.governor = .hold ∨
    (geometry s = .tracking ∧ s.extension ≤ Rig.retractTolerance s.tables.rig ∧ s.sequencer = .idle) := by
  simp [mayChangeBar, barClosed, and_assoc]

/-- Settles O33: structural faults go before state faults, and BAR_EXTENDED before IN_SERVICE. -/
theorem refusedCommitChangesNoTable : Obligations.RefusedCommitChangesNoTable := by
  intro s f flying es refused
  have answered {w : CommitFault} (fault : commitFault s (takenRows s f) = some w) : exec .commitCompletion s = .next (refused w) :=
    exec_commitCompletion_refused flying fault
  have byState (passes : structuralFault (touches es) (s.tables.layAll es) = none) {w : CommitFault}
      (fault : stateFault s es = some w) : commitFault s (takenRows s f) = some w := by
    show (structuralFault (touches es) (s.tables.layAll es)).or (stateFault s es) = some w
    rw [passes, fault]
    rfl
  have away (out : s.governor ≠ .hold) : (s.governor != .hold) = true := bne_iff_ne.mpr out
  refine ⟨fun w fault => answered ?_, fun passes out bar extended => answered (byState passes ?_),
    fun passes out two three map => answered (byState passes ?_), fun passes out bar map tracking closed idle =>
    answered (byState passes ?_)⟩
  · show (structuralFault (touches es) (s.tables.layAll es)).or (stateFault s es) = some w
    rw [fault]
    rfl
  · have barred : mayChangeBar s = false := by
      rw [← Bool.not_eq_true, mayChangeBar_iff]
      exact fun may => may.elim out extended
    unfold stateFault
    rw [barred, if_pos (by simpa using bar)]
    rfl
  · unfold stateFault
    rw [two, three, if_neg (by simp), map, away out]
    rfl
  · have may : mayChangeBar s = true := (mayChangeBar_iff s).mpr (.inr ⟨tracking, closed, idle⟩)
    unfold stateFault
    rw [may, if_neg (by simp), map, away out]
    rfl

end Sys2Proof.Machine
end

section
/-! A commit that passes, stage by stage (R169): the registers of R119, R147 and R176, and the answer (R168). -/

namespace Sys2Proof.Machine

open Sys2Proof

/-! ## When a commit passes -/

theorem commitFault_none_of {s : State} {f : Flight}
    (sound : structuralFault (touches (takenRows s f)) (s.tables.layAll (takenRows s f)) = none)
    (state : s.governor = .hold ∨ (touchesRow (takenRows s f) 1 1 = false ∧
      (touches (takenRows s f) 2 = true ∨ touches (takenRows s f) 3 = true →
        geometry s = .tracking ∧ s.extension ≤ Rig.retractTolerance s.tables.rig ∧ s.sequencer = .idle))) :
    commitFault s (takenRows s f) = none := by
  have passes : stateFault s (takenRows s f) = none := by
    unfold stateFault
    rcases state with hold | ⟨map, bar⟩
    · have may : mayChangeBar s = true := (mayChangeBar_iff s).mpr (.inl hold)
      rw [may, hold, if_neg (by simp), if_neg (by simp)]
    · rw [map, if_neg, if_neg (by simp)]
      intro barred
      rw [Bool.and_eq_true, Bool.or_eq_true, Bool.not_eq_true'] at barred
      have may : mayChangeBar s = true := (mayChangeBar_iff s).mpr (.inr (bar barred.1))
      rw [may] at barred
      cases barred.2
  unfold commitFault
  rw [sound, passes]
  rfl

/-! ## The stages between the tables and the registers -/

@[refl] theorem MovedFrame.refl (s : State) : MovedFrame s s := ⟨.refl s, rfl, rfl, rfl, rfl, rfl⟩

theorem divideHeld_fields (s : State) : ∃ js e, divideHeld s = { s with joints := js, extension := e } := ⟨_, _, rfl⟩

theorem kellyTableChange_held_fields {s : State} {b : Bool} (held : geometry s = .held) :
    ∃ js e, kellyTableChange s b = { s with joints := js, extension := e, keyTravel := 0 } := by
  obtain ⟨js, e, fields⟩ := divideHeld_fields (rebuiltState s b)
  exact ⟨js, e, (kellyTableChange_of_held held).trans fields⟩

/-- A table change leaves sensors, band, backoff and the machine-side record. -/
theorem kellyTableChange_moved (s : State) (b : Bool) : MovedFrame s (kellyTableChange s b) ∧
    (kellyTableChange s b).angleRef = s.angleRef := by
  have moved (js : List Joint) : MovedFrame s { s with joints := js, keyTravel := 0 } :=
    movedFrame_mk s js s.extension s.mismatch s.depthHeld 0 s.angleRef s.band
  cases status : geometry s with
  | none =>
    rw [kellyTableChange_of_none status]
    exact ⟨moved s.joints, rfl⟩
  | tracking =>
    rw [kellyTableChange_of_tracking status]
    have allocated := allocate_kelly (rebuiltState s b)
    exact ⟨(moved _).trans allocated.moved, allocated.angleRef⟩
  | held =>
    obtain ⟨js, e, fields⟩ := kellyTableChange_held_fields (b := b) status
    rw [fields]
    exact ⟨movedFrame_mk s js e s.mismatch s.depthHeld 0 s.angleRef s.band, rfl⟩

theorem kellyTableChange_evals (s : State) (b : Bool) : EvalsKept s (kellyTableChange s b) := by
  cases status : geometry s with
  | none =>
    rw [kellyTableChange_of_none status]
    exact .of_axes rfl rfl
  | tracking =>
    rw [kellyTableChange_of_tracking status]
    exact EvalsKept.trans (t := rebuiltState s b) (.of_axes rfl rfl) (allocate_evals _)
  | held =>
    obtain ⟨js, e, fields⟩ := kellyTableChange_held_fields (b := b) status
    rw [fields]
    exact .of_axes rfl rfl

theorem bandCommit_moved (s : State) (es : List BufferEntry) : MovedFrame s (bandCommit s es) ∧
    (bandCommit s es).angleRef = s.angleRef := by
  unfold bandCommit
  split
  · exact changeBand_moved s _
  · exact ⟨MovedFrame.refl s, rfl⟩

theorem bandCommit_evals (s : State) (es : List BufferEntry) : EvalsKept s (bandCommit s es) := by
  unfold bandCommit
  split
  · exact changeBand_evals s _
  · rfl

/-- The backoff reset (R119). -/
theorem backoffReset_tracking (s : State) :
    SameSequence { s with backoff := 1000, stallTimer := none, recoveryTimer := none } (backoffReset s) ∧
    (backoffReset s).axes = s.axes ∧ (backoffReset s).deliveries = s.deliveries := by
  unfold backoffReset
  dsimp only
  split
  · exact ⟨report_frame _ _ _ _, rfl, rfl⟩
  · exact ⟨.refl _, rfl, rfl⟩

/-- What rejoining and banding leave. -/
theorem rebandedState_moved (s : State) (f : Flight) : MovedFrame (remappedState s f) (rebandedState s f) ∧
    (rebandedState s f).angleRef = (remappedState s f).angleRef ∧ EvalsKept (remappedState s f) (rebandedState s f) := by
  have joined : MovedFrame (remappedState s f) (rejointedState s f) ∧
      (rejointedState s f).angleRef = (remappedState s f).angleRef ∧ EvalsKept (remappedState s f) (rejointedState s f) := by
    unfold rejointedState
    split
    · obtain ⟨moved, angle⟩ := kellyTableChange_moved (remappedState s f) s.tables.bar.valid
      exact ⟨moved, angle, kellyTableChange_evals _ _⟩
    · exact ⟨MovedFrame.refl _, rfl, .refl _⟩
  have banded : MovedFrame (rejointedState s f) (rebandedState s f) ∧
      (rebandedState s f).angleRef = (rejointedState s f).angleRef ∧ EvalsKept (rejointedState s f) (rebandedState s f) := by
    unfold rebandedState whenTouched
    split
    · obtain ⟨moved, angle⟩ := bandCommit_moved (rejointedState s f) (takenRows s f)
      exact ⟨moved, angle, bandCommit_evals _ _⟩
    · exact ⟨MovedFrame.refl _, rfl, .refl _⟩
  exact ⟨joined.1.trans banded.1, banded.2.1.trans joined.2.1, joined.2.2.trans banded.2.2⟩

theorem rebackedState_untouched {s : State} {f : Flight} (rig : touches (takenRows s f) 1 = false) :
    rebackedState s f = rebandedState s f := whenTouched_false rig _ _

theorem rebackedState_touched {s : State} {f : Flight} (rig : touches (takenRows s f) 1 = true) :
    rebackedState s f = backoffReset (rebandedState s f) := whenTouched_true rig _ _

theorem rebackedState_frame (s : State) (f : Flight) : Kept (appliedState s f) (rebackedState s f) := by
  refine ((remappedState_frame s f).trans (rebandedState_moved s f).1.toKept).trans ?_
  unfold rebackedState whenTouched
  split
  · exact backoffReset_frame _
  · rfl

theorem whenTouched_counts (es : List BufferEntry) (n : Nat) {effect : State → State} (s : State) (counts : SameCounts s (effect s)) :
    SameCounts s (whenTouched es n effect s) := by
  unfold whenTouched
  split
  · exact counts
  · exact .refl s

theorem rebackedState_counts (s : State) (f : Flight) : SameCounts (appliedState s f) (rebackedState s f) := by
  have remapped : SameCounts (appliedState s f) (remappedState s f) :=
    whenTouched_counts _ _ _ (remapSensors_counts _ _)
  have rejoined : SameCounts (remappedState s f) (rejointedState s f) := by
    unfold rejointedState
    split
    · exact kellyTableChange_counts _ _
    · exact .refl _
  have rebanded : SameCounts (rejointedState s f) (rebandedState s f) :=
    whenTouched_counts _ _ _ (bandCommit_counts _ _)
  have rebacked : SameCounts (rebandedState s f) (rebackedState s f) :=
    whenTouched_counts _ _ _ (backoffReset_counts _)
  exact ((remapped.trans rejoined).trans rebanded).trans rebacked

/-- What the timers and the channel take, after the backoff (R147, R163, R176). -/
theorem committedState_eq (s : State) (f : Flight) : let w := rebackedState s f
    committedState s f = { w with
      deliveries := if touches (takenRows s f) 1 = true ∧ s.tables.rig.valid = false then (loadRefresh w).deliveries
        else w.deliveries
      statusTimer := if touches (takenRows s f) 1 = true then statusAfterCommit w s.tables.rig else w.statusTimer
      channel := if touches (takenRows s f) 1 = true then channelOf w.tables else w.channel } := by
  unfold committedState retimedState
  generalize rebackedState s f = w
  cases touched : touches (takenRows s f) 1 with
  | false =>
    rw [whenTouched_false touched, whenTouched_false touched]
    simp only [Bool.false_eq_true, false_and, if_false]
  | true =>
    rw [whenTouched_true touched, whenTouched_true touched]
    unfold rigTimers
    cases s.tables.rig.valid with
    | false =>
      simp only [Bool.false_eq_true, if_false, if_true, and_self]
      rfl
    | true => simp only [if_true, reduceCtorEq, and_false, if_false]

end Sys2Proof.Machine
end

section
/-! The remapping of sensors at a commit (R46). -/

namespace Sys2Proof.Machine

open Sys2Proof

/-! ## One change of freshness -/

theorem handOnFreshness_now (s : State) (q : Quantity) (old : RecordState) (a : Axis) :
    ((handOnFreshness s q old).axis a).lastEval = some s.millis := by
  cases ends : endsSequence s q old with
  | false =>
    obtain ⟨axes, -⟩ := handOnFreshness_of_kept ends
    rw [(axes a).1]
  | true =>
    have ended := handOnFreshness_of_ends ends
    by_cases here : a = .rotary
    · subst here
      show (handOnFreshness s q old).axes.rotary.lastEval = _
      cases operator : s.axes.rotary.freshness with
      | none => rw [ended.neutral operator]
      | some n => rw [ended.active (by rw [operator]; rfl)]
    · rw [ended.others a here]

/-- What remapping leaves where the channels of some quantities change (R44, R46, R73). -/
structure Remapped (changed : Quantity → Prop) (s t : State) : Prop where
  frame     : SampleFrame s t
  absent    : ∀ q, changed q → t.sensor q = SensorRecord.initial
  others    : ∀ q, ¬changed q → t.sensor q = s.sensor q
  evals     : EvalsKept s t
  now       : ∀ q a, changed q → (s.sensor q).state ≠ .absent → (t.axis a).lastEval = some s.millis
  angleLost : changed .angle → (s.sensor .angle).state = .fresh → t.angleRef = none
  angleKept : ¬(changed .angle ∧ (s.sensor .angle).state = .fresh) → t.angleRef = s.angleRef
  untold    : (∀ q, changed q → (s.sensor q).state ≠ .fresh) → t.reports = s.reports
  told      : ∀ q, changed q → (s.sensor q).state = .fresh →
    (∀ r, r ≠ q → changed r → (s.sensor r).state ≠ .fresh) → reportsAfter s .sensorStale q.code 2 <+: t.reports

theorem Remapped.none (s : State) : Remapped (fun _ => False) s s where
  frame := .made s s.ports s.sensors s.counters s.choices
  absent := fun _ no => no.elim
  others := fun _ _ => rfl
  evals := .refl s
  now := fun _ _ no => no.elim
  angleLost := fun no => no.elim
  angleKept := fun _ => rfl
  untold := fun _ => rfl
  told := fun _ no => no.elim

theorem Remapped.trans {c d : Quantity → Prop} {s t u : State} (h : Remapped c s t) (k : Remapped d t u)
    (apart : ∀ q, c q → ¬d q) : Remapped (fun q => c q ∨ d q) s u where
  frame := h.frame.trans k.frame
  absent := fun q changed => by
    by_cases later : d q
    · exact k.absent q later
    · rw [k.others q later]
      exact h.absent q (changed.resolve_right later)
  others := fun q kept => by rw [k.others q fun no => kept (.inr no), h.others q fun no => kept (.inl no)]
  evals := h.evals.trans k.evals
  now := fun q a changed present => by
    rw [← h.frame.millis]
    rcases changed with first | later
    · exact k.evals.allNow (fun b => by rw [h.now q b first present, h.frame.millis]) a
    · exact k.now q a later (by rw [h.others q fun first => apart q first later]; exact present)
  angleLost := fun changed fresh => by
    by_cases later : d .angle
    · exact k.angleLost later (by rw [h.others _ fun first => apart _ first later]; exact fresh)
    · rw [k.angleKept fun no => later no.1]
      exact h.angleLost (changed.resolve_right later) fresh
  angleKept := fun kept => by
    rw [k.angleKept ?_, h.angleKept fun no => kept ⟨.inl no.1, no.2⟩]
    rintro ⟨later, fresh⟩
    rw [h.others _ fun first => apart _ first later] at fresh
    exact kept ⟨.inr later, fresh⟩
  untold := fun stale => by
    rw [k.untold fun q later => ?_, h.untold fun q first => stale q (.inl first)]
    rw [h.others q fun first => apart q first later]
    exact stale q (.inr later)
  told := fun q changed fresh alone => by
    rcases changed with first | later
    · exact (h.told q first fresh fun r other one => alone r other (.inl one)).trans k.frame.grows
    · have reports := h.untold fun r one => alone r (fun same => apart q (same ▸ one) later) (.inl one)
      rw [← reportsAfter_congr h.frame.tables reports h.frame.channel h.frame.millis]
      refine k.told q later (by rw [h.others q fun first => apart q first later]; exact fresh) fun r other one => ?_
      rw [h.others r fun first => apart r first one]
      exact alone r other (.inr one)

theorem Remapped.congr {c d : Quantity → Prop} {s t : State} (h : Remapped c s t) (same : ∀ q, c q ↔ d q) : Remapped d s t := by
  rwa [show d = c from funext fun q => propext (same q).symm]

theorem not_ends_of_not_fresh {s : State} {q : Quantity} {old : RecordState} (other : old ≠ .fresh) :
    endsSequence s q old = false := by
  unfold endsSequence
  cases old
  · simp
  · exact absurd rfl other
  · simp

/-- A change of freshness handed on from a state that differs in the record of `q` alone. -/
theorem remapped_of_handOn {s w : State} {q : Quantity} (frame : SampleFrame s w) (sensors : w.sensors = (s.setSensor q .initial).sensors)
    (angleRef : w.angleRef = s.angleRef) (old : (s.sensor q).state ≠ .absent)
    (reports : w.reports = if (s.sensor q).state = .fresh then reportsAfter s .sensorStale q.code 2 else s.reports) :
    Remapped (fun r => r = q) s (handOnFreshness w q (s.sensor q).state) := by
  have on := handOnFreshness_freshness w q (s.sensor q).state
  have sensor (r : Quantity) : (handOnFreshness w q (s.sensor q).state).sensor r = (s.setSensor q .initial).sensor r :=
    congrArg (fun y => y.get r) (on.sensors.trans sensors)
  have lost : isFresh w q = false := by
    unfold isFresh
    rw [show w.sensor q = (s.setSensor q .initial).sensor q from congrArg (fun y => y.get q) sensors, State.sensor_setSensor_same]
    rfl
  have angle := handOnFreshness_angleRef w q (s.sensor q).state
  have all (a : Axis) : ((handOnFreshness w q (s.sensor q).state).axis a).lastEval = some s.millis := by
    rw [handOnFreshness_now, frame.millis]
  exact {
    frame := frame.trans on.sample
    absent := fun r same => by rw [sensor, same, State.sensor_setSensor_same]
    others := fun r other => by rw [sensor, State.sensor_setSensor_other _ _ _ _ other]
    evals := ⟨(frame.trans on.sample).millis, fun a => .inr (all a)⟩
    now := fun _ a _ _ => all a
    angleLost := fun isQ fresh => by
      rw [angle, if_pos ⟨isQ.symm, isQ ▸ fresh, lost⟩]
    angleKept := fun kept => by
      have away : ¬(q = .angle ∧ (s.sensor q).state = .fresh ∧ isFresh w q = false) := by
        rintro ⟨isQ, fresh, -⟩
        exact kept ⟨isQ.symm, isQ ▸ fresh⟩
      rw [angle, if_neg away, angleRef]
    untold := fun stale => by
      have notFresh := stale q rfl
      rw [if_neg notFresh] at reports
      obtain ⟨-, -, -, -, same⟩ := handOnFreshness_of_kept (s := w) (q := q) (not_ends_of_not_fresh notFresh)
      rw [same, reports]
    told := fun r same fresh _ => by
      subst same
      rw [if_pos fresh] at reports
      rw [← reports]
      exact on.grows }

theorem remapQuantity_remapped (s : State) (q : Quantity) : Remapped (fun r => r = q) s (remapQuantity s q) := by
  unfold remapQuantity
  cases old : (s.sensor q).state with
  | absent =>
    exact {
      frame := .made s s.ports (s.setSensor q .initial).sensors s.counters s.choices
      absent := fun r same => by rw [same, State.sensor_setSensor_same]
      others := fun r other => State.sensor_setSensor_other _ _ _ _ other
      evals := .of_axes rfl rfl
      now := fun r a same present => absurd (same ▸ old) present
      angleLost := fun isQ fresh => absurd (isQ ▸ fresh) (by rw [old]; decide)
      angleKept := fun _ => rfl
      untold := fun _ => rfl
      told := fun r same fresh _ => absurd (same ▸ fresh) (by rw [old]; decide) }
  | stale =>
    have handed := remapped_of_handOn (s := s) (w := s.setSensor q .initial) (q := q)
      (.made s s.ports (s.setSensor q .initial).sensors s.counters s.choices) rfl rfl (by rw [old]; decide)
      (by rw [old, if_neg (by decide)]; rfl)
    rw [old] at handed
    exact handed
  | fresh =>
    have told := report_frame (s.setSensor q .initial) .sensorStale q.code StaleCause.remapped.code
    have handed := remapped_of_handOn (s := s) (w := report (s.setSensor q .initial) .sensorStale q.code StaleCause.remapped.code)
      (q := q) ((SampleFrame.made s s.ports (s.setSensor q .initial).sensors s.counters s.choices).trans
        told.toSameTracking.freshness.sample) told.sensors told.angleRef (by rw [old]; decide)
      (by rw [old, if_pos rfl]; rfl)
    rw [old] at handed
    exact handed

theorem foldl_remapped {l : List Quantity} (nodup : l.Nodup) (s : State) : Remapped (fun q => q ∈ l) s (l.foldl remapQuantity s) := by
  induction l generalizing s with
  | nil => exact (Remapped.none s).congr fun q => by simp
  | cons q l ih =>
    obtain ⟨fresh, nodup⟩ := List.nodup_cons.mp nodup
    exact ((remapQuantity_remapped s q).trans (ih nodup _) fun r same later => fresh (same ▸ later)).congr fun r => by simp

/-- The quantities whose channels the new map changes (R46). -/
theorem remapSensors_remapped (s : State) (old : Option (List Nat)) :
    Remapped (fun q => ∃ m, old = some m ∧ m.getD q.code 128 ≠ (Rig.sensorMap s.tables.rig).getD q.code 128) s (remapSensors s old) := by
  unfold remapSensors
  cases old with
  | none => exact (Remapped.none s).congr fun q => by simp
  | some m =>
    refine (foldl_remapped ?_ s).congr fun q => ?_
    · exact List.Nodup.filter _ (by decide)
    · have every : q ∈ allQuantities := by cases q <;> decide
      simp [every]

end Sys2Proof.Machine
end

section
/-! What a passed commit leaves (R119, R147, R163, R168, R169, R176). -/

namespace Sys2Proof.Machine

open Sys2Proof

theorem remappedState_remapped (s : State) (f : Flight) : Remapped (fun q => touches (takenRows s f) 1 = true ∧
      s.tables.rig.valid = true ∧ (Rig.sensorMap s.tables.rig).getD q.code 128 ≠
        (Rig.sensorMap (s.tables.layAll (takenRows s f)).rig).getD q.code 128)
    (appliedState s f) (remappedState s f) := by
  unfold remappedState
  cases touched : touches (takenRows s f) 1 with
  | false =>
    rw [whenTouched_false touched]
    exact (Remapped.none _).congr fun q => by simp
  | true =>
    rw [whenTouched_true touched]
    refine (remapSensors_remapped _ _).congr fun q => ?_
    unfold sensorMapInForce
    cases s.tables.rig.valid
    · simp
    · simp
      rfl

/-- The fields that the registers and the answer of a passed commit come to. -/
theorem passCommit_fields (s : State) (f : Flight) : let w := rebackedState s f
    passCommit s f = { w with
      deliveries := if touches (takenRows s f) 1 = true ∧ s.tables.rig.valid = false then (loadRefresh w).deliveries
        else w.deliveries
      statusTimer := if touches (takenRows s f) 1 = true then statusAfterCommit w s.tables.rig else w.statusTimer
      channel := if touches (takenRows s f) 1 = true then channelOf w.tables else w.channel
      replies := w.replies ++ [statusReply (passCommit s f) 3 (if takenAdjusted s f then .adjusted else .ok) .none noneByte noneByte
        f.taken] } := by
  intro w
  have channel : (passCommit s f).channel = (committedState s f).channel := rfl
  have answer : statusReply (passCommit s f) 3 (if takenAdjusted s f then .adjusted else .ok) .none noneByte noneByte f.taken =
      statusReply (committedState s f) 3 (if takenAdjusted s f then .adjusted else .ok) .none noneByte noneByte f.taken := by
    unfold statusReply replyFrame
    rw [channel]
  rw [answer, passCommit_eq]
  unfold reply
  rw [committedState_eq]

theorem statusAfterCommit_eq {w : State} {old : Table} {timer : Timer} (kept : w.statusTimer = timer) :
    statusAfterCommit w old = if Rig.statusPeriod w.tables.rig = 0 then none
      else if old.valid = false ∨ Rig.statusPeriod old = 0 then some (Rig.statusPeriod w.tables.rig) else timer := by
  unfold statusAfterCommit statusReload
  rw [kept]
  by_cases loads : old.valid = false ∨ Rig.statusPeriod old = 0
  · rw [if_pos (by simpa using loads), if_pos loads]
  · rw [if_neg (by simpa using loads), if_neg loads]

theorem rebackedState_machineFault (s : State) (f : Flight) : (rebackedState s f).machineFault = s.machineFault := by
  obtain ⟨moved, -, -⟩ := rebandedState_moved s f
  refine Eq.trans ?_ (moved.machineFault.trans (remappedState_remapped s f).frame.machineFault)
  unfold rebackedState whenTouched
  split
  · exact (backoffReset_tracking _).1.machineFault
  · rfl

/-- With the sensor map and the tables of joints and bands left alone, only the backoff follows. -/
theorem rebandedState_of_untouched {s : State} {f : Flight} (bar : touches (takenRows s f) 2 = false)
    (pocket : touches (takenRows s f) 3 = false) (bore : touches (takenRows s f) 4 = false)
    (map : touchesRow (takenRows s f) 1 1 = false) : rebandedState s f = appliedState s f := by
  have joined : rejointedState s f = remappedState s f := if_neg (by rw [bar, pocket]; decide)
  have banded : rebandedState s f = rejointedState s f := whenTouched_false bore _ _
  rw [banded, joined, remappedState_of_untouched map]

theorem rebackedState_of_untouched {s : State} {f : Flight} (bar : touches (takenRows s f) 2 = false)
    (pocket : touches (takenRows s f) 3 = false) (bore : touches (takenRows s f) 4 = false)
    (map : touchesRow (takenRows s f) 1 1 = false) : let w := rebackedState s f
    w.joints = s.joints ∧ w.extension = s.extension ∧ w.band = s.band ∧ w.axes = s.axes ∧ w.sequencer = s.sequencer ∧
    w.keyTravel = s.keyTravel ∧ w.barFault = s.barFault := by
  intro w
  have wIs : w = rebackedState s f := rfl
  clear_value w
  have rebanded := rebandedState_of_untouched bar pocket bore map
  cases isRig : touches (takenRows s f) 1 with
  | false =>
    rw [wIs, rebackedState_untouched isRig, rebanded]
    exact ⟨rfl, rfl, rfl, rfl, rfl, rfl, rfl⟩
  | true =>
    obtain ⟨reset, axes, -⟩ := backoffReset_tracking (rebandedState s f)
    rw [wIs, rebackedState_touched isRig, reset.joints, reset.extension, reset.band, axes, reset.sequencer, reset.keyTravel,
      reset.barFault, rebanded]
    exact ⟨rfl, rfl, rfl, rfl, rfl, rfl, rfl⟩

/-- Outside the drive and tracking blocks a passed commit changes tables, Load Unit, channel and status timer (R163, R169, R176). -/
theorem passCommit_kept (s : State) (f : Flight) : let t := passCommit s f
    let es := takenRows s f
    Kept { s with
      tables := s.tables.layAll es, buffer := s.buffer.drop f.taken, flight := none, earlierMap := t.earlierMap
      channel := if touches es 1 then channelOf t.tables else s.channel
      replies := s.replies ++ [statusReply t 3 (if takenAdjusted s f then .adjusted else .ok) .none 255 255 f.taken]
      statusTimer := if touches es 1 = false then s.statusTimer
        else if Rig.statusPeriod t.tables.rig = 0 then none
        else if s.tables.rig.valid = false ∨ Rig.statusPeriod s.tables.rig = 0 then some (Rig.statusPeriod t.tables.rig)
        else s.statusTimer } t := by
  intro t es
  have kept := rebackedState_frame s f
  have fields := passCommit_fields s f
  have tIs : passCommit s f = t := rfl
  rw [tIs] at fields
  clear_value t
  generalize rebackedState s f = w at *
  dsimp only at fields
  have tables : t.tables = s.tables.layAll es := (congrArg State.tables fields).trans kept.tables
  have replies : t.replies = s.replies ++ [statusReply t 3 (if takenAdjusted s f then .adjusted else .ok) .none 255 255 f.taken] := by
    refine (congrArg State.replies fields).trans ?_
    show w.replies ++ _ = _
    rw [kept.replies]
    rfl
  have channel : t.channel = if touches es 1 then channelOf t.tables else s.channel := by
    refine (congrArg State.channel fields).trans ?_
    show (if touches es 1 = true then channelOf w.tables else w.channel) = _
    rw [tables, kept.tables, kept.channel]
    rfl
  have timer : t.statusTimer = if touches es 1 = false then s.statusTimer
      else if Rig.statusPeriod t.tables.rig = 0 then none
      else if s.tables.rig.valid = false ∨ Rig.statusPeriod s.tables.rig = 0 then some (Rig.statusPeriod t.tables.rig)
      else s.statusTimer := by
    refine (congrArg State.statusTimer fields).trans ?_
    show (if touches es 1 = true then statusAfterCommit w s.tables.rig else w.statusTimer) = _
    rw [statusAfterCommit_eq kept.statusTimer, kept.tables, tables]
    cases touches es 1
    · exact kept.statusTimer
    · rfl
  have reports : t.reports = w.reports := (congrArg State.reports fields).trans rfl
  exact ⟨⟨by rw [reports]; exact kept.grows, by rw [reports]; exact kept.bound⟩, (congrArg State.pending fields).trans kept.pending,
    (congrArg State.resetLow fields).trans kept.resetLow, (congrArg State.bitRate fields).trans kept.bitRate,
    (congrArg State.millis fields).trans kept.millis, (congrArg State.ports fields).trans kept.ports, channel,
    (congrArg State.governor fields).trans kept.governor, (congrArg State.quiet fields).trans kept.quiet, rfl, tables,
    (congrArg State.selection fields).trans kept.selection, (congrArg State.loadFlags fields).trans kept.loadFlags,
    (congrArg State.buffer fields).trans kept.buffer, (congrArg State.flight fields).trans kept.flight, replies,
    (congrArg State.restarting fields).trans kept.restarting, (congrArg State.statusSlot fields).trans kept.statusSlot, timer⟩

/-- Settles O34: the stages of a passed commit, and the registers and the answer after them. -/
theorem passedCommitAppliesItsRows : Obligations.PassedCommitAppliesItsRows := by
  intro s f flying taken es sound state
  have kept := passCommit_kept s f
  have fields := passCommit_fields s f
  have counts := rebackedState_counts s f
  have fault := rebackedState_machineFault s f
  obtain ⟨moved, -, -⟩ := rebandedState_moved s f
  have touched (rig : touches es 1 = true) : rebackedState s f = backoffReset (rebandedState s f) := rebackedState_touched rig
  have untouched (rig : touches es 1 = false) : rebackedState s f = rebandedState s f ∧ remappedState s f = appliedState s f :=
    ⟨rebackedState_untouched rig, whenTouched_false rig _ _⟩
  have still (bar : touches es 2 = false) := rebackedState_of_untouched (s := s) (f := f) bar
  have tables := (rebackedState_frame s f).tables
  refine ⟨passCommit s f, exec_commitCompletion_passed flying (commitFault_none_of sound state), ?_⟩
  generalize passCommit s f = t at *
  generalize rebackedState s f = w at *
  dsimp only at fields
  intro rig period
  refine ⟨kept, ?_, (congrArg State.machineFault fields).trans fault, fun isRig => ?_, fun isRig first a => ?_, fun noRig => ?_,
    fun bar pocket bore map => ?_⟩
  · have counted : t.counters = w.counters := (congrArg State.counters fields).trans rfl
    exact (SameCounts.same rfl : SameCounts s (appliedState s f)).trans (counts.trans (.same counted))
  · have reset := (backoffReset_tracking (rebandedState s f)).1
    rw [← touched isRig] at reset
    exact ⟨(congrArg State.backoff fields).trans reset.backoff, (congrArg State.stallTimer fields).trans reset.stallTimer,
      (congrArg State.recoveryTimer fields).trans reset.recoveryTimer⟩
  · have loaded : t.deliveries = (loadRefresh w).deliveries := (congrArg State.deliveries fields).trans (if_pos ⟨isRig, first⟩)
    have table : rig = w.tables.rig := (congrArg (fun x => x.tables.rig) fields).trans rfl
    show (t.deliveries.get a).refresh = _
    rw [loaded, table]
    cases a <;> rfl
  · obtain ⟨wIs, unmapped⟩ := untouched noRig
    rw [unmapped, ← wIs] at moved
    exact ⟨(congrArg State.backoff fields).trans moved.backoff, (congrArg State.stallTimer fields).trans moved.stallTimer,
      (congrArg State.recoveryTimer fields).trans moved.recoveryTimer, (congrArg State.sensors fields).trans moved.sensors⟩
  · obtain ⟨joints, extension, band, axes, sequencer, travel, barFault⟩ := still bar pocket bore map
    exact ⟨(congrArg State.joints fields).trans joints, (congrArg State.extension fields).trans extension,
      (congrArg State.band fields).trans band, (congrArg State.axes fields).trans axes,
      (congrArg State.sequencer fields).trans sequencer, (congrArg State.keyTravel fields).trans travel,
      (congrArg State.barFault fields).trans barFault⟩

end Sys2Proof.Machine
end

section
/-! What sensors, joints and band take from new tables (R46, R69, R85, R96, R97, R169). -/

namespace Sys2Proof.Machine

open Sys2Proof

/-! ## The joints in HELD (R69) -/

/-- The numbers beyond one of them. -/
theorem drop_numbers (n i : Nat) : ((List.range n).map (· + 1)).drop (i + 1) =
    ((List.range n).map (· + 1)).filter (fun k => i + 1 < k) := by
  induction n with
  | zero => rfl
  | succ n ih =>
    rw [List.range_succ, List.map_append, List.filter_append, ← ih]
    simp only [List.map_cons, List.map_nil]
    by_cases inside : i + 1 ≤ n
    · rw [List.drop_append_of_le_length (by simpa using inside), List.filter_cons_of_pos (by simp; omega)]
      rfl
    · have short : ((List.range n).map (· + 1)).length ≤ i + 1 := by
        rw [List.length_map, List.length_range]
        omega
      rw [List.drop_eq_nil_of_le short, List.filter_cons_of_neg (by simp; omega), List.drop_eq_nil_of_le (by simp; omega)]
      rfl

theorem numbered_map_fst (js : List Joint) : (numbered js).map Prod.fst = (List.range js.length).map (· + 1) := by
  unfold numbered
  exact List.map_fst_zip (by simp)

/-- With no joint LOCKED, what the joints further in can be given is their strokes. -/
theorem beyondStroke_of_open (bar : Table) {js : List Joint} (unlocked : ∀ r ∈ js, r.lock ≠ .locked) (i : Nat) :
    beyondStroke bar js i =
      ((((List.range js.length).map (· + 1)).filter (fun k => i + 1 < k)).map (Bar.stroke bar)).sum := by
  have each (p : Nat × Joint) (member : p ∈ (numbered js).drop (i + 1)) : openStroke bar p = Bar.stroke bar p.1 := by
    obtain ⟨k, found, -⟩ := (mem_numbered js p).mp (List.mem_of_mem_drop member)
    exact if_neg (unlocked p.2 (List.mem_of_getElem? found))
  unfold beyondStroke
  rw [← drop_numbers, ← numbered_map_fst, ← List.map_drop, List.map_map]
  exact congrArg List.sum (List.map_congr_left each)

/-- The division of R69 in HELD: every joint takes, within its stroke, what the joints further in leave of the extension. -/
theorem divideHeld_rebuilt (s : State) (b : Bool) (lock : invalidatedLock s b = .unknown) :
    let used := Bar.joints s.tables.bar
    let e := clamp 0 ((used.map (Bar.stroke s.tables.bar)).sum) s.extension
    (divideHeld (rebuiltState s b)).joints = used.map (fun j =>
      let outer := ((used.filter (fun k => j < k)).map (Bar.stroke s.tables.bar)).sum
      let offset := clamp 0 (Bar.stroke s.tables.bar j) (e - outer)
      ({ offset := offset, lock := .unknown, lockedRow := none, nearest := nearestRow s.tables j offset
         aligned := isAligned s.tables j offset } : Joint)) := by
  intro used e
  have length : (rebuiltState s b).joints.length = used.length := List.length_map _
  have size : used.length = min (Bar.sections s.tables.bar - 1) 4 := (List.length_map _).trans List.length_range
  have unlocked : ∀ r ∈ (rebuiltState s b).joints, r.lock ≠ .locked := fun r member =>
    (rebuiltJoints_open _ _ (invalidatedLock_open s b) r member).1
  have nonneg : 0 ≤ e := (clamp_bounds (List.sum_nonneg fun _ member => by
    obtain ⟨j, -, rfl⟩ := List.mem_map.mp member
    exact stroke_nonneg _ j) s.extension).1
  have divided : (divideHeld (rebuiltState s b)).joints = (realign { rebuiltState s b with
      extension := e, joints := divideExtension s.tables.bar e (rebuiltState s b).joints }).joints := rfl
  rw [divided]
  refine List.ext_getElem? fun i => ?_
  rw [realign_joint]
  show ((divideExtension s.tables.bar e (rebuiltState s b).joints)[i]?).map _ = _
  rw [divideExtension_getElem? _ nonneg, beyondStroke_of_open _ unlocked, length, size, Option.map_map]
  show ((used.map _)[i]?).map _ = _
  rw [List.getElem?_map, List.getElem?_map, Option.map_map]
  rcases found : used[i]? with _ | j
  · rfl
  · have number : i + 1 = j := by
      have at_ := found
      rw [show used = (List.range (min (Bar.sections s.tables.bar - 1) 4)).map (· + 1) from rfl, List.getElem?_map,
        Option.map_eq_some_iff] at at_
      obtain ⟨k, inRange, rfl⟩ := at_
      obtain ⟨-, rfl⟩ := List.getElem?_eq_some_iff.mp inRange
      rw [List.getElem_range]
    subst number
    have given (left : Int) (r : Joint) (open_ : r.lock = .unknown) (noRow : r.lockedRow = none) :
        (Joint.given s.tables.bar left (i + 1, r)).realigned s.tables (i + 1) =
          { offset := clamp 0 (Bar.stroke s.tables.bar (i + 1)) left, lock := .unknown, lockedRow := none
            nearest := nearestRow s.tables (i + 1) (clamp 0 (Bar.stroke s.tables.bar (i + 1)) left)
            aligned := isAligned s.tables (i + 1) (clamp 0 (Bar.stroke s.tables.bar (i + 1)) left) } := by
      unfold Joint.given
      rw [if_neg (by rw [open_]; decide)]
      simp only [Joint.realigned, open_, noRow]
    exact congrArg some (given _ _ lock rfl)

theorem divideHeld_eq (s : State) : divideHeld s = { s with
    joints := (divideHeld s).joints, extension := clamp 0 (totalStroke s.tables.bar) s.extension } := by
  unfold divideHeld realign
  rfl

theorem divideHeld_rebuilt_fields (s : State) (b : Bool) : divideHeld (rebuiltState s b) = { s with
    joints := (divideHeld (rebuiltState s b)).joints
    extension := clamp 0 (((Bar.joints s.tables.bar).map (Bar.stroke s.tables.bar)).sum) s.extension
    keyTravel := 0 } := divideHeld_eq (rebuiltState s b)

/-- A table change in HELD (R69). -/
theorem kellyTableChange_held {s : State} {b : Bool} (held : geometry s = .held) (lock : invalidatedLock s b = .unknown) :
    let used := Bar.joints s.tables.bar
    let e := clamp 0 ((used.map (Bar.stroke s.tables.bar)).sum) s.extension
    kellyTableChange s b = { s with
      joints := used.map (fun j =>
        let outer := ((used.filter (fun k => j < k)).map (Bar.stroke s.tables.bar)).sum
        let offset := clamp 0 (Bar.stroke s.tables.bar j) (e - outer)
        ({ offset := offset, lock := .unknown, lockedRow := none, nearest := nearestRow s.tables j offset
           aligned := isAligned s.tables j offset } : Joint))
      extension := e, keyTravel := 0 } := by
  rw [kellyTableChange_of_held held, divideHeld_rebuilt_fields, divideHeld_rebuilt s b lock]

theorem invalidatedLock_eq (s : State) (b : Bool) : invalidatedLock s b =
    if b = true ∧ geometry s = .tracking ∧ s.extension ≤ Rig.retractTolerance s.tables.rig then .free else .unknown :=
  if_congr (by simp [and_assoc]) rfl rfl

theorem rebuiltJoints_eq (bar : Table) (old : List Joint) (l : LockState) : rebuiltJoints bar old l =
    (Bar.joints bar).map (fun j => match old[j - 1]? with
      | some r => { r with lock := l, lockedRow := none }
      | none => { offset := 0, lock := l, lockedRow := none, nearest := 0, aligned := false }) := by
  refine List.map_congr_left fun j _ => ?_
  rw [List.getD_eq_getElem?_getD]
  cases old[j - 1]? <;> rfl

/-! ## Commits that leave the rig profile alone -/

theorem appliedState_of_noRig {s : State} {f : Flight} (rig : touches (takenRows s f) 1 = false) : appliedState s f =
    { s with tables := s.tables.layAll (takenRows s f), buffer := s.buffer.drop f.taken, flight := none } := by
  unfold appliedState applyRows leaveBuffer
  rw [rig]
  rfl

theorem statusReply_congr {s u : State} (channel : u.channel = s.channel) (k : Nat) (c : StatusCode) (w : ReplyCause) (t r d : Nat) :
    statusReply u k c w t r d = statusReply s k c w t r d := by
  unfold statusReply replyFrame
  rw [channel]

theorem reply_of_kept {s u : State} (replies : u.replies = s.replies) (channel : u.channel = s.channel) (k : Nat) (c : StatusCode)
    (w : ReplyCause) (t r d : Nat) : reply u k c w t r d = { u with replies := s.replies ++ [statusReply s k c w t r d] } := by
  unfold reply
  rw [replies, statusReply_congr channel]

/-- With the rig profile left alone, only joints and band follow, and the answer. -/
theorem passCommit_of_noRig {s : State} {f : Flight} (rig : touches (takenRows s f) 1 = false) : passCommit s f =
    { rebandedState s f with replies := s.replies ++ [statusReply s 3 (if takenAdjusted s f then .adjusted else .ok) .none noneByte
      noneByte f.taken] } := by
  have committed : committedState s f = rebandedState s f := by
    unfold committedState retimedState rebackedState
    rw [whenTouched_false rig, whenTouched_false rig, whenTouched_false rig]
  have frame := rebackedState_frame s f
  rw [rebackedState_untouched rig] at frame
  rw [passCommit_eq, committed, reply_of_kept frame.replies frame.channel]
  rfl

theorem touchesRow_of_untouched {es : List BufferEntry} {n : Nat} (untouched : touches es n = false) (r : Nat) :
    touchesRow es n r = false := by
  refine List.any_eq_false.mpr fun e member => ?_
  simp [not_touched untouched e member]

/-- What follows on the remapping leaves the sensors and what it made of the angle reference, the axes and the reports. -/
theorem passCommit_afterMap (s : State) (f : Flight) : let r := remappedState s f
    let t := passCommit s f
    t.sensors = r.sensors ∧ t.angleRef = r.angleRef ∧ EvalsKept r t ∧ r.reports <+: t.reports := by
  intro r t
  obtain ⟨moved, angle, evals⟩ := rebandedState_moved s f
  have rebacked : (rebackedState s f).sensors = r.sensors ∧ (rebackedState s f).angleRef = r.angleRef ∧
      EvalsKept r (rebackedState s f) ∧ r.reports <+: (rebackedState s f).reports := by
    unfold rebackedState whenTouched
    split
    · obtain ⟨reset, axes, -⟩ := backoffReset_tracking (rebandedState s f)
      exact ⟨reset.sensors.trans moved.sensors, reset.angleRef.trans angle, evals.trans (.of_axes axes reset.millis),
        moved.grows.trans reset.grows⟩
    · exact ⟨moved.sensors, angle, evals, moved.grows⟩
  have fields := passCommit_fields s f
  have tIs : passCommit s f = t := rfl
  rw [tIs] at fields
  clear_value t
  generalize rebackedState s f = w at *
  dsimp only at fields
  obtain ⟨sensors, angle, evals, reports⟩ := rebacked
  refine ⟨(congrArg State.sensors fields).trans sensors, (congrArg State.angleRef fields).trans angle,
    evals.trans (.of_axes ((congrArg State.axes fields).trans rfl) ((congrArg State.millis fields).trans rfl)), ?_⟩
  rw [congrArg State.reports fields]
  exact reports

theorem sensorMap_getD (rig : Table) (q : Quantity) : (Rig.sensorMap rig).getD q.code 128 = u8At (rig.row 1) q.code := by
  cases q <;> rfl

/-- Settles O35: the stages of a commit from new tables. -/
theorem tableChangesFollowOn : Obligations.TableChangesFollowOn := by
  intro s f flying taken es u sound
  have esIs : takenRows s f = es := rfl
  refine ⟨fun hold isRig => ?rig, ?others⟩
  case rig =>
    have remapped := remappedState_remapped s f
    simp only [esIs, isRig, sensorMap_getD, true_and] at remapped
    obtain ⟨sensors, angleRef, evals, reports⟩ := passCommit_afterMap s f
    refine ⟨passCommit s f, exec_commitCompletion_passed flying (commitFault_none_of sound (.inl hold)), ?_⟩
    generalize passCommit s f = t at *
    generalize remappedState s f = r at *
    have sensor (q : Quantity) : t.sensor q = r.sensor q := congrArg (fun y => y.get q) sensors
    intro changed
    refine ⟨fun q is => (sensor q).trans (remapped.absent q is), fun q not => (sensor q).trans (remapped.others q not),
      fun q a is present => ?_, fun is fresh => angleRef.trans (remapped.angleLost is fresh),
      fun kept => angleRef.trans (remapped.angleKept kept), fun q is fresh alone => ?_⟩
    · have now := evals.allNow (fun b => (remapped.now q b is present).trans (congrArg some remapped.frame.millis.symm)) a
      exact now.trans (congrArg some remapped.frame.millis)
    · exact (remapped.told q is fresh alone).trans reports
  case others =>
    intro answer closed bar used noRig
    have run (state : s.governor = .hold ∨ (touchesRow es 1 1 = false ∧ (touches es 2 = true ∨ touches es 3 = true → closed))) :
        exec .commitCompletion s = .next { rebandedState s f with replies := answer } := by
      rw [exec_commitCompletion_passed flying (commitFault_none_of sound state), passCommit_of_noRig noRig]
      rfl
    have applied : remappedState s f = u := (whenTouched_false noRig _ _).trans (appliedState_of_noRig noRig)
    have map : touchesRow es 1 1 = false := touchesRow_of_untouched noRig 1
    refine ⟨fun joined bore state => ?_, fun two three bore => ?_⟩
    · have after : rebandedState s f = kellyTableChange u s.tables.bar.valid := by
        have rejoined : rejointedState s f = kellyTableChange u s.tables.bar.valid := by
          rw [← applied]
          exact if_pos ((Bool.or_eq_true _ _).mpr joined)
        exact (whenTouched_false bore _ _).trans rejoined
      rw [after] at run
      have passed := run (state.imp id fun shut => ⟨map, fun _ => shut⟩)
      have rigSame : u.tables.rig = s.tables.rig := layAll_rig_untouched noRig s.tables
      intro lock rebuilt e divided
      have lockIs : invalidatedLock u s.tables.bar.valid = lock := by
        rw [invalidatedLock_eq, rigSame]
      rw [passed]
      refine ⟨fun tracking => ?_, fun held => ?_, fun noBar => ?_⟩
      · rw [kellyTableChange_of_tracking tracking]
        unfold rebuiltState
        rw [rebuiltJoints_eq, lockIs]
        rfl
      · have unlocked : invalidatedLock u s.tables.bar.valid = .unknown := by
          rw [lockIs]
          exact if_neg fun both => absurd (held.symm.trans both.2.1) (by decide)
        rw [kellyTableChange_held held unlocked]
        rfl
      · rw [kellyTableChange_of_none noBar]
    · have after : rebandedState s f = bandCommit u es := by
        have rejoined : rejointedState s f = u := by
          rw [← applied]
          exact if_neg (by rw [esIs, two, three]; decide)
        refine (whenTouched_true bore _ _).trans ?_
        rw [rejoined, esIs]
      rw [run (.inr ⟨map, fun joined => ?_⟩), after]
      rw [two, three] at joined
      exact joined.elim (fun no => nomatch no) (fun no => nomatch no)

end Sys2Proof.Machine
end

section
/-! Management frames served: COMMIT, the load controls, and the rows of SELECT and SEGMENT (R165 to R167, R171, R179). -/

namespace Sys2Proof.Machine

open Sys2Proof

/-! ## Requests -/

theorem exec_served {s : State} {c : Instr} {payload : List Byte} {r : Request} (serves : servesManagement s)
    (management : managementPayload c = some payload) (nonempty : payload ≠ []) (request : requestOf payload = r) :
    exec c s = .next (serve (heard s .operator) r) := by
  rw [exec_of_managementPayload management, manage_served s payload serves nonempty, request]

theorem exec_select {s : State} (table row check : Byte) (serves : servesManagement s) :
    exec (.select table row check) s = .next (loadSelect (heard s .operator) table.toNat row.toNat check) :=
  exec_served (payload := [1, table, row, check]) (r := .select table.toNat row.toNat check) serves rfl (List.cons_ne_nil _ _) rfl

theorem exec_segment {s : State} (body : List Byte) (serves : servesManagement s) :
    exec (.segment body) s = .next (loadSegment (heard s .operator) body) :=
  exec_served (payload := 2 :: body) (r := .segment body) serves rfl (List.cons_ne_nil _ _) rfl

theorem exec_commit {s : State} (serves : servesManagement s) : exec .commit s = .next (loadCommit (heard s .operator)) :=
  exec_served (payload := [3]) (r := .commit) serves rfl (List.cons_ne_nil _ _) rfl

theorem exec_read {s : State} (table row view : Byte) (serves : servesManagement s) :
    exec (.read table row view) s = .next (loadRead (heard s .operator) table.toNat row.toNat view.toNat) :=
  exec_served (payload := [4, table, row, view]) (r := .read table.toNat row.toNat view.toNat) serves rfl (List.cons_ne_nil _ _) rfl

theorem exec_control {s : State} {c : Instr} {code : Byte} {control : Control} (serves : servesManagement s)
    (management : managementPayload c = some [5, code]) (request : controlOf code.toNat = some control) :
    exec c s = .next (loadControl (heard s .operator) control) := by
  have asked : requestOf [5, code] = .control control := by
    show (match controlOf code.toNat with
      | some c => Request.control c
      | none => .unknown 5) = _
    rw [request]
  exact exec_served serves management (List.cons_ne_nil _ _) asked

/-! ## COMMIT and the load controls (R167, R171, R179) -/

theorem reply_of_empty {s : State} (empty : s.replies = []) (k : Nat) (c : StatusCode) (w : ReplyCause) (t r d : Nat) :
    reply s k c w t r d = { s with replies := [statusReply s k c w t r d] } := by
  unfold reply
  rw [empty]
  rfl

theorem loadingHalted_iff (s : State) : loadingHalted s = true ↔ s.loadFlags ≠ 0 := by
  unfold loadingHalted
  exact bne_iff_ne

theorem loadCommit_of_flight {s : State} (empty : s.replies = []) (flies : s.flight.isSome = true) :
    loadCommit s = { s with replies := [statusReply s 3 .busy .none 255 255 0] } := by
  rw [loadCommit, if_pos flies, reply_of_empty empty]
  rfl

theorem loadCommit_of_flags {s : State} (empty : s.replies = []) (rests : s.flight = none) (halted : s.loadFlags ≠ 0) :
    loadCommit s = { s with replies := [statusReply s 3 .loadingHalted .none 255 255 s.loadFlags.toNat] } := by
  rw [loadCommit, if_neg (by simp [rests]), if_pos ((loadingHalted_iff s).mpr halted), replyHalted, reply_of_empty empty]
  rfl

theorem loadCommit_of_open {s : State} (empty : s.replies = []) (rests : s.flight = none) (whole : s.loadFlags = 0) :
    loadCommit s = if s.buffer = [] then { s with replies := [statusReply s 3 .ok .none 255 255 0] }
      else { s with flight := some { taken := s.buffer.length, left := 25 } } := by
  have going : ¬loadingHalted s = true := fun halted => (loadingHalted_iff s).mp halted whole
  rw [loadCommit, if_neg (by simp [rests]), if_neg going, reply_of_empty empty]
  rfl

/-- Settles O30: COMMIT by its tests in order, and each control. -/
theorem commitAndLoadControlsAct : Obligations.CommitAndLoadControlsAct := by
  intro s serves u ok
  have empty : u.replies = [] := serves.2
  have commit := exec_commit serves
  have control {c : Instr} {code : Byte} {request : Control} (management : managementPayload c = some [5, code])
      (asked : controlOf code.toNat = some request) : exec c s = .next (loadControl u request) := exec_control serves management asked
  refine ⟨fun flies => ?_, fun rests halted => ?_, fun rests whole nothing => ?_, fun rests whole rows => ?_, ?_, fun flies => ?_,
    fun rests => ?_, ?_, ?_⟩
  · rw [commit, loadCommit_of_flight empty flies]
    rfl
  · rw [commit, loadCommit_of_flags empty rests halted]
    rfl
  · rw [commit, loadCommit_of_open empty rests whole, if_pos (show u.buffer = [] from nothing)]
    rfl
  · rw [commit, loadCommit_of_open empty rests whole, if_neg (show ¬u.buffer = [] from rows)]
    rfl
  · rw [control (code := 5) (request := .clearLoadErrors) rfl rfl]
    exact congrArg _ (replyControl_of_empty (s := s) (u := { u with loadFlags := 0 }) .ok .none empty rfl rfl)
  · rw [control (code := 6) (request := .discardPending) rfl rfl]
    have busy : controlDiscardPending u = replyControl u .busy .none := if_pos flies
    exact congrArg _ (busy.trans (replyControl_of_empty (s := s) .busy .none empty rfl rfl))
  · rw [control (code := 6) (request := .discardPending) rfl rfl]
    have idle : ¬u.flight.isSome = true := by
      rw [show u.flight = none from rests]
      decide
    have cleared : controlDiscardPending u = replyControl { u with buffer := [] } .ok .none := if_neg idle
    exact congrArg _ (cleared.trans (replyControl_of_empty (s := s) (u := { u with buffer := [] }) .ok .none empty rfl rfl))
  · rw [control (code := 7) (request := .clearCounters) rfl rfl]
    exact congrArg _ (replyControl_of_empty (s := s) (u := { u with counters := Counters.zero }) .ok .none empty rfl rfl)
  · rw [control (code := 8) (request := .restart) rfl rfl]
    exact congrArg _ (replyControl_of_empty (s := s) (u := { u with flight := none, restarting := true }) .ok .none empty rfl rfl)

end Sys2Proof.Machine
end

section
/-! Rows loaded by SELECT and SEGMENT (R165, R166), and READ (R170). -/

namespace Sys2Proof.Machine

open Sys2Proof

/-! ## SELECT (R165) -/

theorem midRow_iff (s : State) : midRow s = true ↔ ∃ x, s.selection = some x ∧ x.next ≠ 0 := by
  unfold midRow
  cases s.selection with
  | none => simp
  | some x => simp

theorem rowExists_iff (table row : Nat) : rowExists table row = true ↔ row < rowCount table := decide_eq_true_iff

/-- A selection with no segment yet. -/
def freshSelection (table row : Nat) (check : Byte) : Selection :=
  { table := table, row := row, check := check, next := 0, bytes := [] }

section
variable {s : State} (empty : s.replies = []) (table row : Nat) (check : Byte)
include empty

theorem loadSelect_of_halted (halted : s.loadFlags ≠ 0) : loadSelect s table row check =
    { s with selection := none, replies := [statusReply s 1 .loadingHalted .none table row s.loadFlags.toNat] } := by
  rw [loadSelect, if_pos ((loadingHalted_iff s).mpr halted)]
  exact reply_of_empty (s := deselect s) empty 1 .loadingHalted .none table row s.loadFlags.toNat

theorem loadSelect_of_midRow (whole : s.loadFlags = 0) (mid : ∃ x, s.selection = some x ∧ x.next ≠ 0) :
    loadSelect s table row check = { s with
      selection := none
      replies := [statusReply s 1 .loadingHalted .none table row 2]
      loadFlags := 2#3 } := by
  have going : ¬loadingHalted s = true := fun halted => (loadingHalted_iff s).mp halted whole
  have flagged : deselect (raiseFlag s .format) = { s with selection := none, loadFlags := 2#3 } := by
    unfold deselect raiseFlag addFlag
    rw [whole]
    rfl
  rw [loadSelect, if_neg going, if_pos ((midRow_iff s).mpr mid), flagged]
  exact reply_of_empty (s := { s with selection := none, loadFlags := 2#3 }) empty 1 .loadingHalted .none table row 2

theorem loadSelect_of_badRow (whole : s.loadFlags = 0) (between : ¬∃ x, s.selection = some x ∧ x.next ≠ 0)
    (beyond : rowCount table ≤ row) : loadSelect s table row check =
    { s with selection := none, replies := [statusReply s 1 .badRow .none table row 0] } := by
  have going : ¬loadingHalted s = true := fun halted => (loadingHalted_iff s).mp halted whole
  have missing : (!rowExists table row) = true := by
    rw [Bool.not_eq_true', ← Bool.not_eq_true, rowExists_iff]
    exact not_lt.mpr beyond
  rw [loadSelect, if_neg going, if_neg (fun mid => between ((midRow_iff s).mp mid)), if_pos missing]
  exact reply_of_empty (s := deselect s) empty 1 .badRow .none table row 0

end

theorem loadSelect_of_row {s : State} (table row : Nat) (check : Byte) (whole : s.loadFlags = 0)
    (between : ¬∃ x, s.selection = some x ∧ x.next ≠ 0) (exists_ : row < rowCount table) :
    loadSelect s table row check = { s with selection := some (freshSelection table row check) } := by
  have going : ¬loadingHalted s = true := fun halted => (loadingHalted_iff s).mp halted whole
  have found : ¬(!rowExists table row) = true := by
    rw [Bool.not_eq_true', (rowExists_iff table row).mpr exists_]
    decide
  rw [loadSelect, if_neg going, if_neg (fun mid => between ((midRow_iff s).mp mid)), if_neg found]
  rfl

/-- A selection with the bytes of `n` segments. -/
def partSelection (table row : Nat) (check : Byte) (n : Nat) (bytes : Row) : Selection :=
  { table := table, row := row, check := check, next := n, bytes := bytes }

/-! ## SEGMENT (R165, R166) -/

/-- A segment of the length and index that the selection expects. -/
def FitsSelection (x : Selection) (body : List Byte) : Prop :=
  body.length = (if x.next = 2 then 5 else 7) ∧ u8At body 0 = x.next

theorem segmentFits_iff (x : Selection) (body : List Byte) : segmentFits x body = true ↔ FitsSelection x body := by
  unfold segmentFits segmentLength FitsSelection
  simp only [Bool.and_eq_true, decide_eq_true_iff, beq_iff_eq]
  constructor
  · rintro ⟨⟨-, index⟩, length⟩
    exact ⟨length, index⟩
  · rintro ⟨length, index⟩
    exact ⟨⟨by split at length <;> omega, index⟩, length⟩

theorem discardRow_of_empty {s : State} (empty : s.replies = []) (x : Selection) (f : LoadFlag) {flags : BitVec 3}
    (raised : addFlag s.loadFlags f = flags) : discardRow s x f = { s with
      loadFlags := flags, selection := none
      replies := [statusReply s 2 .loadError .none x.table x.row flags.toNat] } := by
  subst raised
  exact reply_of_empty (s := deselect (raiseFlag s f)) empty 2 .loadError .none x.table x.row (addFlag s.loadFlags f).toNat

theorem loadSegment_of_none {s : State} (body : List Byte) (unselected : s.selection = none) :
    loadSegment s body = s.countPart (fun c => { c with skippedSegments := bump c.skippedSegments }) := by
  rw [loadSegment, unselected]

section
variable {s : State} {x : Selection} {body : List Byte} (selected : s.selection = some x)
include selected

theorem loadSegment_of_misfit (misfit : ¬FitsSelection x body) : loadSegment s body = discardRow s x .format := by
  rw [loadSegment, selected]
  exact if_pos (by rw [Bool.not_eq_true', ← Bool.not_eq_true, segmentFits_iff]; exact misfit)

theorem loadSegment_of_fit (fits : FitsSelection x body) : loadSegment s body =
    if x.next = 2 then completeRow s x (x.bytes ++ body.tail)
    else { s with selection := some { x with next := x.next + 1, bytes := x.bytes ++ body.tail } } := by
  rw [loadSegment, selected]
  exact if_neg (by rw [(segmentFits_iff x body).mpr fits]; decide)

end

theorem completeRow_of_check {s : State} {x : Selection} {row : Row} (fails : x.check + byteSum row ≠ 0) :
    completeRow s x row = discardRow s x .check := if_pos (bne_iff_ne.mpr fails)

theorem completeRow_of_sound {s : State} {x : Selection} {row : Row} (sound : x.check + byteSum row = 0) :
    completeRow s x row = if 16 ≤ s.buffer.length then discardRow s x .overrun
      else { s with selection := none, buffer := s.buffer ++ [{ table := x.table, row := x.row, bytes := row }] } :=
  if_neg fun fails => bne_iff_ne.mp fails sound

/-! ## Four frames load a row -/

/-- A management frame heard, with these commands left and this selection. -/
def heardWith (s : State) (pending : List Instr) (selection : Option Selection) : State :=
  { heard s .operator with pending := pending, selection := selection }

theorem heardWith_serves {s : State} (serves : servesManagement s) (pending : List Instr) (selection : Option Selection) :
    servesManagement (heardWith s pending selection) := by
  obtain ⟨takes, empty⟩ := serves
  refine ⟨?_, empty⟩
  unfold takesPart at takes ⊢
  rw [← takes, ← heard_busOff s .operator .operator]
  rfl

/-- The frames of a row: heard, and the selection brought on. -/
theorem step_select {s : State} {table row check : Byte} {rest : List Instr} (serves : servesManagement s)
    (waits : s.pending = .select table row check :: rest) (whole : s.loadFlags = 0)
    (between : ¬∃ x, s.selection = some x ∧ x.next ≠ 0) (exists_ : row.toNat < rowCount table.toNat) :
    step s = .next (heardWith s rest (some (freshSelection table.toNat row.toNat check))) := by
  rw [step_of_pending waits, exec_select (s := { s with pending := rest }) table row check serves,
    loadSelect_of_row table.toNat row.toNat check (s := heard { s with pending := rest } .operator) whole between exists_]
  rfl

theorem step_segment {s : State} {x : Selection} {body : List Byte} {rest : List Instr} (serves : servesManagement s)
    (waits : s.pending = .segment body :: rest) (selected : s.selection = some x) (fits : FitsSelection x body)
    (before : x.next ≠ 2) : step s =
      .next (heardWith s rest (some { x with next := x.next + 1, bytes := x.bytes ++ body.tail })) := by
  rw [step_of_pending waits, exec_segment (s := { s with pending := rest }) body serves,
    loadSegment_of_fit (s := heard { s with pending := rest } .operator) selected fits, if_neg before]
  rfl

theorem step_lastSegment {s : State} {x : Selection} {body : List Byte} {rest : List Instr} (serves : servesManagement s)
    (waits : s.pending = .segment body :: rest) (selected : s.selection = some x) (fits : FitsSelection x body)
    (last : x.next = 2) (sound : x.check + byteSum (x.bytes ++ body.tail) = 0) (room : s.buffer.length < 16) :
    step s = .next { heardWith s rest none with
      buffer := s.buffer ++ [{ table := x.table, row := x.row, bytes := x.bytes ++ body.tail }] } := by
  have free : ¬16 ≤ (heard { s with pending := rest } .operator).buffer.length := not_le.mpr room
  rw [step_of_pending waits, exec_segment (s := { s with pending := rest }) body serves,
    loadSegment_of_fit (s := heard { s with pending := rest } .operator) selected fits, if_pos last,
    completeRow_of_sound sound, if_neg free]
  rfl

theorem run_succ {n : Nat} {s t : State} (stepped : step s = .next t) :
    Host.Core.run Sys2Proof.core (n + 1) s = Host.Core.run Sys2Proof.core n t := by
  have one : Sys2Proof.core.step s = .next t := stepped
  simp only [Host.Core.run, one]

/-- Settles O29: SELECT and SEGMENT by their tests in order, and the run of the four frames of a row. -/
theorem framesLoadARow : Obligations.FramesLoadARow := by
  refine ⟨fun s table row check serves => ?select, fun s body serves => ?segment,
    fun s table row check bytes rest serves whole between exists_ long sound room waits => ?four⟩
  case select =>
    intro u midRow
    have empty : (heard s .operator).replies = [] := serves.2
    rw [exec_select table row check serves]
    refine ⟨fun halted => ?_, fun whole mid => ?_, fun whole between beyond => ?_, fun whole between exists_ => ?_⟩
    · rw [loadSelect_of_halted empty table.toNat row.toNat check halted]
      rfl
    · rw [loadSelect_of_midRow empty table.toNat row.toNat check whole mid]
      rfl
    · rw [loadSelect_of_badRow empty table.toNat row.toNat check whole between beyond]
      rfl
    · rw [loadSelect_of_row table.toNat row.toNat check (s := heard s .operator) whole between exists_]
      rfl
  case segment =>
    intro u
    have empty : u.replies = [] := serves.2
    rw [exec_segment body serves]
    refine ⟨fun unselected => ?_, fun x selected => ?_⟩
    · rw [loadSegment_of_none body (s := heard s .operator) unselected]
    · intro fits row discarded
      have discard (f : LoadFlag) : discardRow u x f = discarded (addFlag s.loadFlags f) := discardRow_of_empty empty x f rfl
      have fit (is : fits) := loadSegment_of_fit (s := u) selected is
      refine ⟨fun misfit => ?_, fun is before => ?_, fun is last fails => ?_, fun is last sums full => ?_,
        fun is last sums room => ?_⟩
      · exact congrArg _ ((loadSegment_of_misfit (s := u) selected misfit).trans (discard .format))
      · exact congrArg _ ((fit is).trans (if_neg before))
      · exact congrArg _ (((fit is).trans (if_pos last)).trans ((completeRow_of_check fails).trans (discard .check)))
      · exact congrArg _ (((fit is).trans (if_pos last)).trans (((completeRow_of_sound (s := u) sums).trans (if_pos full)).trans
          (discard .overrun)))
      · exact congrArg _ (((fit is).trans (if_pos last)).trans ((completeRow_of_sound sums).trans (if_neg (not_le.mpr room))))
  case four =>
    have joined : bytes.take 6 ++ (bytes.drop 6).take 6 ++ bytes.drop 12 = bytes := by
      rw [List.append_assoc]
      have inner : (bytes.drop 6).take 6 ++ bytes.drop 12 = bytes.drop 6 := by
        rw [show bytes.drop 12 = (bytes.drop 6).drop 6 by rw [List.drop_drop]]
        exact List.take_append_drop 6 _
      rw [inner, List.take_append_drop]
    have none_ : ¬∃ x, s.selection = some x ∧ x.next ≠ 0 := fun ⟨x, selected, other⟩ => other (between x selected)
    have fits (n : Nat) (body held : Row) (first : n < 3) (length : body.length + 1 = if n = 2 then 5 else 7) :
        FitsSelection (partSelection table.toNat row.toNat check n held) (BitVec.ofNat 8 n :: body) := by
      refine ⟨length, ?_⟩
      show (BitVec.ofNat 8 n).toNat = n
      rw [BitVec.toNat_ofNat]
      omega
    have fits0 := fits 0 (bytes.take 6) [] (by decide) (by simp [long])
    have fits1 := fits 1 ((bytes.drop 6).take 6) (bytes.take 6) (by decide) (by simp [long])
    have fits2 := fits 2 (bytes.drop 12) (bytes.take 6 ++ (bytes.drop 6).take 6) (by decide) (by simp [long])
    have whole3 : check + byteSum (bytes.take 6 ++ (bytes.drop 6).take 6 ++ bytes.drop 12) = 0 := by rw [joined]; exact sound
    have serves1 := heardWith_serves serves (.segment (0 :: bytes.take 6) :: .segment (1 :: (bytes.drop 6).take 6) ::
      .segment (2 :: bytes.drop 12) :: rest) (some (partSelection table.toNat row.toNat check 0 []))
    have serves2 := heardWith_serves serves1 (.segment (1 :: (bytes.drop 6).take 6) :: .segment (2 :: bytes.drop 12) :: rest)
      (some (partSelection table.toNat row.toNat check 1 (bytes.take 6)))
    have serves3 := heardWith_serves serves2 (.segment (2 :: bytes.drop 12) :: rest)
      (some (partSelection table.toNat row.toNat check 2 (bytes.take 6 ++ (bytes.drop 6).take 6)))
    have selected := run_succ (n := 3) (step_select serves waits whole none_ exists_)
    have one := run_succ (n := 2) (step_segment serves1 rfl rfl fits0 (by simp [partSelection]))
    have two := run_succ (n := 1) (step_segment serves2 rfl rfl fits1 (by simp [partSelection]))
    have three := run_succ (n := 0) (step_lastSegment serves3 rfl rfl fits2 rfl whole3 room)
    refine (selected.trans (one.trans (two.trans three))).trans ?_
    simp only [List.tail_cons, partSelection, joined]
    rfl

end Sys2Proof.Machine
end

section
/-! READ (R170). -/

namespace Sys2Proof.Machine

open Sys2Proof

/-- A data reply, its bytes by kind and part. -/
theorem replyFrame_data (s : State) (part : Int) (bytes : Row) : replyFrame s (byte1 4 ++ byte1 part ++ bytes) =
    ⟨false, false, 9 * 128 + s.channel.toNat, 1 + (BitVec.ofInt 8 part :: bytes).length, 4 :: BitVec.ofInt 8 part :: bytes⟩ := by
  have length : (byte1 4 ++ byte1 part ++ bytes).length = 1 + (BitVec.ofInt 8 part :: bytes).length := by
    simp [byte1, leBytes]
    omega
  unfold replyFrame ownFrame
  rw [length]
  rfl

theorem replyRow_of_empty {s : State} (empty : s.replies = []) (bytes : Row) (table row detail : Nat) :
    replyRow s table row bytes detail = { s with
      replies := dataReplies s bytes ++ [statusReply s 4 .ok .none table row detail] } := by
  unfold replyRow reply
  rw [empty]
  rfl

/-- The newest row of the buffer for a place. -/
theorem newestPending_of_split {before after : List BufferEntry} {e : BufferEntry} {table row : Nat}
    (here : e.table = table ∧ e.row = row) (later : ∀ x ∈ after, ¬(x.table = table ∧ x.row = row)) :
    newestPending (before ++ e :: after) table row = some e := by
  unfold newestPending
  rw [List.reverse_append, List.reverse_cons, List.append_assoc, List.find?_append, List.find?_eq_none.mpr, Option.none_or]
  · simp [here]
  · intro x member
    simpa using later x (List.mem_reverse.mp member)

theorem newestPending_none {buffer : List BufferEntry} {table row : Nat}
    (absent : ∀ e ∈ buffer, ¬(e.table = table ∧ e.row = row)) : newestPending buffer table row = none := by
  refine List.find?_eq_none.mpr fun x member => ?_
  simpa using absent x (List.mem_reverse.mp member)

/-- Settles O36: READ by its row, its view and the newest row pending. -/
theorem readShowsTheWholeRow : Obligations.ReadShowsTheWholeRow := by
  intro s table row view serves u active place data shows_ refuses
  have empty : u.replies = [] := serves.2
  have read := exec_read table row view serves
  have shown {bytes : Row} {detail : Nat} (long : bytes.length = 16)
      (is : loadRead u table.toNat row.toNat view.toNat = replyRow u table.toNat row.toNat bytes detail) : shows_ bytes detail := by
    refine ⟨long, ?_⟩
    have tail : (bytes.drop 12).take 4 = bytes.drop 12 := List.take_of_length_le (by simp [long])
    rw [read, is, replyRow_of_empty empty]
    unfold dataReplies
    rw [tail, replyFrame_data, replyFrame_data, replyFrame_data]
    rfl
  have refused {c : StatusCode} {w : ReplyCause} (is : loadRead u table.toNat row.toNat view.toNat =
      reply u 4 c w table.toNat row.toNat 0) : refuses c w := by
    show exec _ s = _
    rw [read, is, reply_of_empty empty]
    rfl
  have listed (r : Row) : (listedRow table.toNat row.toNat r).length = 16 := listedRow_length _ _ _
  have asZero (is : view = 0) : view.toNat = 0 := by rw [is]; rfl
  have asOne (is : view = 1) : view.toNat = 1 := by rw [is]; rfl
  have notZero (other : view ≠ 0) : view.toNat ≠ 0 := fun zero => other (BitVec.eq_of_toNat_eq zero)
  have notOne (other : view ≠ 1) : view.toNat ≠ 1 := fun one => other (BitVec.eq_of_toNat_eq one)
  refine ⟨fun inTable => ?_, fun noTable inState => ?_, fun noTable noState => ?_⟩
  · have ofTable : loadRead u table.toNat row.toNat view.toNat = readTable u table.toNat row.toNat view.toNat :=
      if_pos ((rowExists_iff _ _).mpr inTable)
    refine ⟨fun zero => shown (listed _) ?_, fun one before e after split here later => shown (listed _) ?_,
      fun one absent => shown (listed _) ?_, fun other other' => refused ?_⟩
    · rw [ofTable, readTable, if_pos (asZero zero)]
      rfl
    · have newest : newestPending u.buffer table.toNat row.toNat = some e := by
        rw [show u.buffer = before ++ e :: after from split]
        exact newestPending_of_split here later
      rw [ofTable, readTable, asOne one, if_neg (by decide), if_pos rfl, newest]
    · have none_ : newestPending u.buffer table.toNat row.toNat = none := newestPending_none absent
      rw [ofTable, readTable, asOne one, if_neg (by decide), if_pos rfl, none_]
      rfl
    · rw [ofTable, readTable, if_neg (notZero other), if_neg (notOne other')]
  · have ofState : loadRead u table.toNat row.toNat view.toNat = readState u table.toNat row.toNat view.toNat := by
      unfold loadRead
      rw [if_neg (fun is => absurd ((rowExists_iff _ _).mp is) (not_lt.mpr noTable)), if_pos inState]
    refine ⟨fun zero => shown (padTo_length _ _) ?_, fun one => refused ?_, fun other other' => refused ?_⟩
    · rw [ofState, readState, if_pos (asZero zero)]
    · rw [ofState, readState, asOne one, if_neg (by decide), if_pos rfl]
    · rw [ofState, readState, if_neg (notZero other), if_neg (notOne other')]
  · refine refused ?_
    unfold loadRead
    rw [if_neg (fun is => absurd ((rowExists_iff _ _).mp is) (not_lt.mpr noTable)), if_neg (not_lt.mpr noState)]

end Sys2Proof.Machine
end

section
/-! The rows of the state tables, field by field (R173). -/

namespace Sys2Proof.Machine

open Sys2Proof

/-! ## Fields laid end to end -/

/-- Fields of given widths, one behind the other. -/
def layout (l : List (Nat × Int)) : List Byte := l.flatMap (fun f => leBytes f.1 f.2)

theorem layout_single (w : Nat) (v : Int) : layout [(w, v)] = leBytes w v := by simp [layout]

/-- How many bytes fields take. -/
def layoutWidth (l : List (Nat × Int)) : Nat := (l.map Prod.fst).sum

/-- Fields with the byte each begins at, the first at `o`. -/
def placed (o : Nat) : List (Nat × Int) → List (Nat × Nat × Int)
  | [] => []
  | f :: l => (o, f) :: placed (o + f.1) l

theorem layout_length (l : List (Nat × Int)) : (layout l).length = layoutWidth l := by
  simp only [layout, layoutWidth, List.length_flatMap, leBytes_length]

/-- A row of 16 bytes carries the fields named, and 0 from byte `long` on. -/
structure Carries (row : Row) (long : Nat) (fields : List (Nat × Nat × Int)) : Prop where
  length : row.length = 16
  fields : ∀ f ∈ fields, (row.drop f.1).take f.2.1 = leBytes f.2.1 f.2.2
  beyond : ∀ i, long ≤ i → u8At row i = 0

theorem Carries.mono {row : Row} {long : Nat} {l l' : List (Nat × Nat × Int)} (h : Carries row long l) (sub : l' ⊆ l) :
    Carries row long l' := ⟨h.length, fun f member => h.fields f (sub member), h.beyond⟩

theorem placed_read {l : List (Nat × Int)} (before after : List Byte) {o : Nat} (length : before.length = o) :
    ∀ f ∈ placed o l, ((before ++ (layout l ++ after)).drop f.1).take f.2.1 = leBytes f.2.1 f.2.2 := by
  induction l generalizing before o with
  | nil => exact fun _ member => absurd member List.not_mem_nil
  | cons head l ih =>
    intro f member
    have split : before ++ (layout (head :: l) ++ after) = before ++ leBytes head.1 head.2 ++ (layout l ++ after) := by
      simp [layout]
    rcases List.mem_cons.mp member with rfl | later
    · rw [split, List.append_assoc]
      show ((before ++ (leBytes head.1 head.2 ++ _)).drop o).take head.1 = leBytes head.1 head.2
      rw [← length, List.drop_left, List.take_left' (leBytes_length _ _)]
    · rw [split]
      exact ih _ (by rw [List.length_append, leBytes_length, length]) f later

/-- A row of fields end to end, filled with zeros. -/
theorem padTo_layout_carries {l : List (Nat × Int)} (fits : layoutWidth l ≤ 16) :
    Carries (padTo 16 (layout l)) (layoutWidth l) (placed 0 l) where
  length := padTo_length _ _
  fields := by
    have read := placed_read (l := l) [] (List.replicate (16 - (layout l).length) 0) (o := 0) rfl
    unfold padTo
    rw [List.take_of_length_le (by rw [layout_length]; exact fits)]
    exact read
  beyond := fun i beyond => by
    rw [u8At_padTo _ (by rw [layout_length]; exact fits)]
    unfold u8At
    rw [List.getD_eq_getElem?_getD, List.getElem?_eq_none (by rw [layout_length]; exact beyond)]
    rfl

theorem stateRow_carries {s : State} {table row long : Nat} (l : List (Nat × Int)) {fields : List (Nat × Nat × Int)}
    (bytes : stateBytes s table row = layout l) (width : layoutWidth l = long) (fits : long ≤ 16) (sub : fields ⊆ placed 0 l) :
    Carries (stateRow s table row) long fields := by
  subst width
  unfold stateRow
  rw [bytes]
  exact (padTo_layout_carries fits).mono sub

/-! ## Values -/

/-- The number of a list of bits, bit 0 first. -/
theorem bitsOf_eq (l : List Bool) : bitsOf l = l.foldr (fun b n => (if b then 1 else 0) + 2 * n) 0 := by
  induction l with
  | nil => rfl
  | cons b l ih =>
    rw [bitsOf, ih]
    rfl

theorem status_code (s : State) (p : Port) : ((s.port p).status.code : Int) = if 255 < (s.port p).txErrors then 2
    else if 127 < (s.port p).txErrors ∨ 127 < (s.port p).rxErrors then 1 else 0 := by
  unfold PortRecord.status
  split
  · rfl
  · split <;> rfl

theorem flag_cast (b : Bool) : (if b then ((1 : Nat) : Int) else 0) = flag b := by cases b <;> rfl

/-! ## The rows -/

/-- A row whose fields are named in their order. -/
theorem stateRow_carries_all {s : State} {table row long : Nat} (l : List (Nat × Int))
    (bytes : stateBytes s table row = layout l) (width : layoutWidth l = long) (fits : long ≤ 16) :
    Carries (stateRow s table row) long (placed 0 l) := stateRow_carries l bytes width fits fun _ member => member

theorem min_cast (n : Nat) : min (n : Int) 255 = ((min n 255 : Nat) : Int) := by simp

theorem governorRow_layout (s : State) : stateBytes s 0x10 0 = layout [(1, s.governor.code), (2, s.quiet.left),
    (1, s.channel.toNat),
    (1, if 255 < (s.port .operator).txErrors then 2
      else if 127 < (s.port .operator).txErrors ∨ 127 < (s.port .operator).rxErrors then 1 else 0),
    (1, min ((s.port .operator).txErrors : Int) 255), (1, min ((s.port .operator).rxErrors : Int) 255),
    (1, if 255 < (s.port .machine).txErrors then 2
      else if 127 < (s.port .machine).txErrors ∨ 127 < (s.port .machine).rxErrors then 1 else 0),
    (1, min ((s.port .machine).txErrors : Int) 255), (1, min ((s.port .machine).rxErrors : Int) 255), (1, s.sequencer.code),
    (2, s.sequenceTimer.left), (2, s.aborts.toNat)] := by
  rw [← status_code, ← status_code, min_cast, min_cast, min_cast, min_cast]
  rfl

theorem axisRow_layout (s : State) (a : Axis) : let r := s.axis a
    stateBytes s 0x10 (1 + a.code) = layout [(1, r.state.code), (2, r.demand.getD (-0x8000)), (1, (r.lastAlive.getD 255 : Nat)),
      (2, r.governed), (1, r.cause.code), (2, r.freshness.left), (2, r.ramp.left), (1, r.exits.toNat),
      (2, match r.lastEval with | some t => (t.toNat : Int) | none => 0xFFFF)] := by
  have time (t : Option Millis) : (t.map (fun t => (t.toNat : Int))).getD 0xFFFF =
      match t with | some t => (t.toNat : Int) | none => 0xFFFF := by cases t <;> rfl
  intro r
  rw [← time]
  cases a <;> rfl

theorem deliveryRow_layout (s : State) (a : Axis) : let d := s.delivery a
    stateBytes s 0x10 (4 + a.code) = layout [(1, d.state.code), (1, d.sequence), (2, d.value), (1, d.mode.code), (1, d.retry),
      (1, d.missStreak), (2, d.lastDelivered), (1, ((d.lastEcho.map (fun e => e.1.code)).getD 255 : Nat)),
      (2, (d.lastEcho.map Prod.snd).getD (-0x8000)), (1, d.echo.left), (1, d.refresh.left)] := by
  cases a <;> rfl

theorem sensorRow_layout (s : State) (q : Quantity) : let r := s.sensor q
    stateBytes s 0x11 q.code = layout [(1, r.state.code), (4, r.value.getD 0),
      (2, if r.value = none then 0 else if q = .angle then r.secondary.getD (-0x8000) else -0x8000),
      (1, (r.lastAlive.getD 255 : Nat)), (2, (r.stamp.getD 0).toNat), (2, r.timer.left)] := by
  intro r
  have second : (if r.value.isNone then byte2 0 else signedOr (if q = .angle then r.secondary else none)) =
      byte2 (if r.value = none then 0 else if q = .angle then r.secondary.getD (-0x8000) else -0x8000) := by
    cases r.value
    · rfl
    · by_cases angle : q = .angle
      · simp [signedOr, angle]
      · simp [signedOr, angle]
  have number : quantityNumbered q.code = q := by cases q <;> rfl
  have bytes : stateBytes s 0x11 q.code = sensorRow q r := by
    show sensorRow (quantityNumbered q.code) (s.sensor (quantityNumbered q.code)) = _
    rw [number]
  rw [bytes, sensorRow, second]
  rfl

theorem geometryRow_layout (s : State) : stateBytes s 0x12 0 = layout [(1, (geometry s).code), (1, if s.mismatch then ((1 : Nat) : Int) else 0),
    (4, s.extension), (4, remainingStroke s), (2, s.keyTravel), (2, s.angleRef.getD 0xFFFF), (1, bitsOf (alignedSet s))] := by
  rw [flag_cast]
  rfl

theorem jointRow_layout (s : State) {i : Nat} (inside : i < 4) : stateBytes s 0x12 (i + 1) =
    layout (match s.joints[i]? with
      | some j => [(2, j.offset), (1, j.lock.code), (1, (j.lockedRow.getD 255 : Nat)), (1, j.nearest), (1, if j.aligned then ((1 : Nat) : Int) else 0)]
      | none => [(2, 0xFFFF), (1, 255), (1, 255), (1, 255), (1, 255)]) := by
  have bytes : stateBytes s 0x12 (i + 1) = jointRow s.joints[i]? := if_pos (by omega)
  rw [bytes]
  simp only [flag_cast]
  cases s.joints[i]? <;> rfl

theorem depthRow_layout (s : State) : stateBytes s 0x12 5 = layout [(4, s.depthHeld.getD 0), (1, if s.depthHeld.isSome then ((1 : Nat) : Int) else 0)] := by
  rw [flag_cast]
  rfl

theorem limitRow_layout (s : State) (a : Axis) (up : Bool) : limitRow s a up = layout ((match limitOf s a up with
      | some l => [(2, l.value), (2, (l.value * Rig.knee s.tables.rig a).tdiv 1000), (1, (l.term.code : Int))]
      | none => [(2, 0xFFFF), (2, 0xFFFF), (1, 0)]) ++
    [(2, (leastCap (capsOf s a up)).2), (1, (leastCap (capsOf s a up)).1.code)]) := by
  unfold limitRow
  cases limitOf s a up <;> rfl

theorem backoffRow_layout (s : State) : stateBytes s 0x13 6 = layout [(2, s.backoff), (1, if s.stallTimer.isSome then ((1 : Nat) : Int) else 0),
    (2, s.stallTimer.left), (2, s.recoveryTimer.left), (1, (s.band.getD 255 : Nat)), (1, (bandInForce s).ground)] := by
  rw [flag_cast]
  show backoffRow s = _
  unfold backoffRow detector
  cases s.stallTimer <;> rfl

/-- Counters with the byte each begins at. -/
theorem counters_layout (l : List Nat) : counterBytes l = layout (l.map (fun n : Nat => (2, (n : Int)))) := by
  unfold counterBytes layout
  rw [bind_pure_comp, List.map_eq_map, List.flatMap_map, List.flatMap_map]
  rfl

theorem faultRow_layout (r : Option FaultRecord) : faultRow r = layout (match r with
    | some r => [(1, 1), (1, r.kind.code), (1, r.subject), (4, r.depth.getD (-0x80000000)), (4, r.extension),
      (2, r.stamp.toNat), (1, r.lost)]
    | none => [(1, 0), (1, 255), (1, 255), (4, -0x80000000), (4, 0), (2, 0xFFFF), (1, 0)]) := by
  cases r <;> rfl

theorem loadRow_layout (s : State) : stateBytes s 0x16 0 = layout [(1, if s.selection.isSome then ((1 : Nat) : Int) else 0),
    (1, ((s.selection.map Selection.table).getD 255 : Nat)), (1, ((s.selection.map Selection.row).getD 255 : Nat)),
    (1, ((s.selection.map (fun x => x.check.toNat)).getD 255 : Nat)), (1, ((s.selection.map Selection.next).getD 255 : Nat)),
    (1, s.loadFlags.toNat), (1, s.buffer.length), (1, if s.flight.isSome then ((1 : Nat) : Int) else 0), (1, ((s.flight.map Flight.taken).getD 0 : Nat)),
    (1, validBits s.tables)] := by
  rw [flag_cast, flag_cast]
  unfold stateBytes loadRow
  cases s.flight <;> rfl

theorem presentRow_layout (s : State) : stateBytes s 0x16 3 = layout [(6, (bitsOf ((List.range 10).map s.tables.rig.present ++
    (List.range 5).map s.tables.bar.present ++ (List.range 8).map s.tables.pocket.present ++
    (List.range 25).map s.tables.bore.present) : Nat))] := by
  rw [layout_single]
  rfl

theorem placed_counters (l : List Nat) (k : Nat) : placed (2 * k) (l.map (fun n : Nat => (2, (n : Int)))) =
    (l.zipIdx k).map (fun p => (2 * p.2, 2, (p.1 : Int))) := by
  induction l generalizing k with
  | nil => rfl
  | cons n l ih =>
    rw [List.map_cons, placed, List.zipIdx_cons, List.map_cons, ← ih (k + 1)]
    rfl

theorem counters_carries {s : State} {table row long : Nat} (l : List Nat) (bytes : stateBytes s table row = counterBytes l)
    (width : layoutWidth (l.map (fun n : Nat => (2, (n : Int)))) = long) (fits : long ≤ 16) :
    Carries (stateRow s table row) long (l.zipIdx.map (fun p => (2 * p.2, 2, (p.1 : Int)))) := by
  rw [← placed_counters l 0]
  exact stateRow_carries_all _ (bytes.trans (counters_layout l)) width fits

theorem limit_carries {s : State} {row : Nat} (a : Axis) (up : Bool) (bytes : stateBytes s 0x13 row = limitRow s a up) :
    Carries (stateRow s 0x13 row) 8 ([(5, 2, (leastCap (capsOf s a up)).2), (7, 1, ((leastCap (capsOf s a up)).1.code : Int))] ++
      match limitOf s a up with
      | some l => [(0, 2, l.value), (2, 2, (l.value * Rig.knee s.tables.rig a).tdiv 1000), (4, 1, (l.term.code : Int))]
      | none => [(0, 2, 0xFFFF), (2, 2, 0xFFFF), (4, 1, 0)]) := by
  rw [limitRow_layout] at bytes
  cases found : limitOf s a up with
  | none =>
    rw [found] at bytes
    exact stateRow_carries _ bytes rfl (by decide) (by simp [placed])
  | some l =>
    rw [found] at bytes
    exact stateRow_carries _ bytes rfl (by decide) (by simp [placed])

/-- The fields that a fault record shows (R177). -/
def shownFault : Option FaultRecord → List (Nat × Nat × Int)
  | some r => [(0, 1, 1), (1, 1, r.kind.code), (2, 1, r.subject), (3, 4, r.depth.getD (-0x80000000)), (7, 4, r.extension),
      (11, 2, r.stamp.toNat), (13, 1, r.lost)]
  | none => [(0, 1, 0), (1, 1, 255), (2, 1, 255), (3, 4, -0x80000000), (7, 4, 0), (11, 2, 0xFFFF), (13, 1, 0)]

theorem fault_carries {s : State} {row : Nat} (r : Option FaultRecord) (bytes : stateBytes s 0x15 row = faultRow r) :
    Carries (stateRow s 0x15 row) 14 (shownFault r) := by
  rw [faultRow_layout] at bytes
  cases r with
  | none => exact stateRow_carries_all _ bytes rfl (by decide)
  | some r => exact stateRow_carries_all _ bytes rfl (by decide)

theorem joint_carries (s : State) {i : Nat} (inside : i < 4) : Carries (stateRow s 0x12 (i + 1)) 6 (match s.joints[i]? with
    | some j => [(0, 2, j.offset), (2, 1, (j.lock.code : Int)), (3, 1, ((j.lockedRow.getD 255 : Nat) : Int)), (4, 1, (j.nearest : Int)),
      (5, 1, if j.aligned then ((1 : Nat) : Int) else 0)]
    | none => [(0, 2, 0xFFFF), (2, 1, 255), (3, 1, 255), (4, 1, 255), (5, 1, 255)]) := by
  have bytes := jointRow_layout s inside
  cases found : s.joints[i]? with
  | none =>
    rw [found] at bytes
    exact stateRow_carries_all _ bytes rfl (by decide)
  | some j =>
    rw [found] at bytes
    exact stateRow_carries_all _ bytes rfl (by decide)

/-- A buffer entry shown, table then row. -/
def shownEntry (buffer : List BufferEntry) (i : Nat) : List (Nat × Int) :=
  [(1, ((buffer[i]?.map BufferEntry.table).getD 255 : Nat)), (1, ((buffer[i]?.map BufferEntry.row).getD 255 : Nat))]

theorem bufferRow_layout (buffer : List BufferEntry) (first : Nat) :
    bufferRow buffer first = layout ((List.range 8).flatMap (fun i => shownEntry buffer (first + i))) := by
  unfold bufferRow layout
  rw [List.flatMap_assoc]
  rfl

theorem buffer_carries {s : State} {row : Nat} (first : Nat) (bytes : stateBytes s 0x16 row = bufferRow s.buffer first) {i : Nat}
    (inside : i < 8) : Carries (stateRow s 0x16 row) 16
      [(2 * i, 1, (((s.buffer[first + i]?.map BufferEntry.table).getD 255 : Nat) : Int)),
        (2 * i + 1, 1, (((s.buffer[first + i]?.map BufferEntry.row).getD 255 : Nat) : Int))] := by
  refine stateRow_carries _ (bytes.trans (bufferRow_layout s.buffer first)) (by simp [layoutWidth, List.range_succ, shownEntry]) (by decide)
    fun f member => ?_
  refine List.mem_of_mem_drop (i := 2 * i) (List.mem_of_mem_take (i := 2) ?_)
  interval_cases i <;> exact member

/-- Settles O37: each row's fields end to end, from the row's own layout. -/
theorem stateRowsShowTheirBytes : Obligations.StateRowsShowTheirBytes := by
  intro s carries left byteOf bit bits status entry limits counters record c
  have is {table row long : Nat} {fields : List (Nat × Nat × Int)} (h : Carries (stateRow s table row) long fields) :
      carries table row long fields := ⟨h.length, h.fields, h.beyond⟩
  have whole {table row long : Nat} {l : List (Nat × Int)} (bytes : stateBytes s table row = layout l) (width : layoutWidth l = long)
      (fits : long ≤ 16) : carries table row long (placed 0 l) := is (stateRow_carries_all l bytes width fits)
  have geometry_ := geometryRow_layout s
  have load_ := loadRow_layout s
  have present_ := presentRow_layout s
  rw [bitsOf_eq] at geometry_ present_
  rw [validBits, bitsOf_eq] at load_
  refine ⟨whole (governorRow_layout s) rfl (by decide), fun a => whole (axisRow_layout s a) rfl (by decide),
    fun a => whole (deliveryRow_layout s a) rfl (by decide), fun q => whole (sensorRow_layout s q) rfl (by decide),
    whole geometry_ rfl (by decide), fun i inside => is (joint_carries s inside), whole (depthRow_layout s) rfl (by decide),
    fun p member => is ?limit, whole (backoffRow_layout s) rfl (by decide), is (counters_carries _ rfl rfl (by decide)),
    is (counters_carries _ rfl rfl (by decide)), fun a => ⟨is (counters_carries _ ?_ rfl (by decide)),
      is (counters_carries _ ?_ rfl (by decide))⟩, fun q => is (counters_carries _ ?_ rfl (by decide)),
    is (fault_carries s.machineFault rfl), is (fault_carries s.barFault rfl), whole load_ rfl (by decide), fun i inside => ⟨is ?first, is ?second⟩,
    whole present_ rfl (by decide)⟩
  case limit =>
    simp only [List.mem_cons, List.not_mem_nil, or_false] at member
    rcases member with rfl | rfl | rfl | rfl | rfl | rfl <;> exact limit_carries _ _ rfl
  case first =>
    have carried := buffer_carries (s := s) (row := 1) 0 rfl inside
    rw [Nat.zero_add] at carried
    show Carries _ _ [(2 * (i % 8), 1, _), (2 * (i % 8) + 1, 1, _)]
    rw [Nat.mod_eq_of_lt inside]
    exact carried
  case second =>
    have place : (8 + i) % 8 = i := by omega
    show Carries _ _ [(2 * ((8 + i) % 8), 1, _), (2 * ((8 + i) % 8) + 1, 1, _)]
    rw [place]
    exact buffer_carries (s := s) (row := 2) 8 rfl inside
  · cases a <;> rfl
  · cases a <;> rfl
  · cases q <;> rfl

end Sys2Proof.Machine
end

section
/-! The status pages, byte by byte (R173, R176). -/

namespace Sys2Proof.Machine

open Sys2Proof

theorem toNat_byte (n : Nat) : (BitVec.ofInt 8 (n : Int)).toNat = n % 256 := by
  rw [BitVec.ofInt_natCast, BitVec.toNat_ofNat]

/-- A signed 24-bit number in its range reads back. -/
theorem s24At_leBytes {v : Int} (low : -8388608 ≤ v) (high : v < 8388608) : s24At (leBytes 3 v) 0 = v := by
  have number := numberAt_leBytes 3 v
  rw [numberAt_three] at number
  unfold s24At signExtend
  split <;> omega

theorem u16At_byte2 (v : Int) : (u16At (byte2 v) 0 : Int) = v % 65536 := by
  have number := numberAt_leBytes 2 v
  rw [numberAt_two] at number
  exact number

/-- The bits of a number given bit by bit. -/
theorem testBit_bitsOf (l : List Bool) (i : Nat) : (bitsOf l).testBit i = l[i]?.getD false := by
  induction l generalizing i with
  | nil => simp [bitsOf]
  | cons b l ih =>
    have half : (flag b + 2 * bitsOf l) / 2 = bitsOf l := by
      unfold flag
      split <;> omega
    cases i with
    | zero => cases b <;> simp [bitsOf, flag, Nat.testBit_zero]
    | succ i =>
      rw [bitsOf, Nat.testBit_succ, half, ih]
      rfl

theorem axisState_code_le (x : AxisState) : x.code ≤ 4 := by cases x <;> decide

theorem limitCause_code_le (x : LimitCause) : x.code ≤ 11 := by cases x <;> decide

/-! ## The pages -/

theorem pageA_bytes (s : State) : let a := pageA s
    a.length = 8 ∧ u8At a 0 = 1 ∧ u8At a 1 = s.governor.code ∧
    (∀ x : Axis, u8At a (2 + x.code) = (s.axis x).state.code + 8 * (s.axis x).cause.code) ∧
    u8At a 5 = s.band.getD 255 % 256 ∧ u8At a 6 = (bandInForce s).ground % 256 ∧ u8At a 7 = 0 := by
  intro a
  have axis (r : AxisRecord) : (BitVec.ofInt 8 ((r.state.code + 8 * r.cause.code : Nat) : Int)).toNat =
      r.state.code + 8 * r.cause.code := by
    have state := axisState_code_le r.state
    have cause := limitCause_code_le r.cause
    rw [toNat_byte]
    omega
  refine ⟨rfl, rfl, ?_, fun x => ?_, toNat_byte _, toNat_byte _, rfl⟩
  · show (BitVec.ofInt 8 (s.governor.code : Int)).toNat = _
    cases s.governor <;> rfl
  · cases x
    · exact axis s.axes.rotary
    · exact axis s.axes.crowd
    · exact axis s.axes.hoist

theorem pageB_bytes (s : State) : let b := pageB s
    let bit (b : Bool) (n : Nat) : Nat := if b then n else 0
    b.length = 8 ∧ u8At b 0 = 2 + bit s.depthHeld.isNone 16 + bit (!s.tables.bar.valid) 32 ∧
    (∀ z, s.depthHeld = some z → -8388608 ≤ z → z < 8388608 → s24At b 1 = z) ∧
    (s.depthHeld = none → s24At b 1 = 0) ∧
    (-8388608 ≤ s.extension → s.extension < 8388608 → s24At b 4 = s.extension) ∧
    (∀ i < 8, (u8At b 7).testBit i = (s.joints[i]?).any (fun j => j.aligned && j.lock != .locked)) := by
  intro b bit
  have depth : s24At b 1 = s24At (leBytes 3 (s.depthHeld.getD 0)) 0 := rfl
  have extension : s24At b 4 = s24At (leBytes 3 s.extension) 0 := rfl
  refine ⟨rfl, ?_, fun z held low high => ?_, fun empty => ?_, fun low high => ?_, fun i inside => ?_⟩
  · show (BitVec.ofInt 8 ((2 + 16 * flag s.depthHeld.isNone + 32 * flag (!s.tables.bar.valid) : Nat) : Int)).toNat = _
    cases s.depthHeld.isNone <;> cases s.tables.bar.valid <;> rfl
  · rw [depth, held]
    exact s24At_leBytes low high
  · rw [depth, empty]
    rfl
  · rw [extension, s24At_leBytes low high]
  · show (BitVec.ofInt 8 (bitsOf (alignedSet s) : Int)).toNat.testBit i = _
    rw [toNat_byte, show 256 = 2 ^ 8 from rfl, Nat.testBit_mod_two_pow, decide_eq_true inside, Bool.true_and, testBit_bitsOf, alignedSet,
      List.getElem?_map]
    cases s.joints[i]? <;> rfl

/-- The number that a joint shows in page C (R72). -/
def jointCode : Option Joint → Nat
  | none => 0
  | some j => j.lock.code + 4 * j.lockedRow.getD 0

theorem pageJoint_eq (r : Option Joint) : pageJoint r = [BitVec.ofInt 8 (jointCode r : Int)] := by cases r <;> rfl

theorem pageC_eq (s : State) : pageC s = 3 :: BitVec.ofInt 8 (jointCode s.joints[0]? : Int) ::
    BitVec.ofInt 8 (jointCode s.joints[1]? : Int) :: BitVec.ofInt 8 (jointCode s.joints[2]? : Int) ::
    BitVec.ofInt 8 (jointCode s.joints[3]? : Int) :: (byte2 s.backoff ++
    byte1 ((geometry s).code + 4 * flag s.mismatch + 8 * flag s.flight.isSome + 16 * flag (loadingHalted s) +
      32 * s.sequencer.code : Nat)) := by
  unfold pageC
  rw [pageJoint_eq, pageJoint_eq, pageJoint_eq, pageJoint_eq]
  rfl

theorem pageC_bytes (s : State) : let c := pageC s
    let bit (b : Bool) (n : Nat) : Nat := if b then n else 0
    c.length = 8 ∧ u8At c 0 = 3 ∧
    (∀ i < 4, (s.joints[i]? = none → u8At c (i + 1) = 0) ∧
      ∀ j, s.joints[i]? = some j → u8At c (i + 1) = (j.lock.code + 4 * j.lockedRow.getD 0) % 256) ∧
    (u16At c 5 : Int) = s.backoff % 65536 ∧
    u8At c 7 = (geometry s).code + bit s.mismatch 4 + bit s.flight.isSome 8 + bit (s.loadFlags != 0) 16 +
      32 * s.sequencer.code := by
  intro c bit
  have joint {i : Nat} (inside : i < 4) : u8At c (i + 1) = jointCode s.joints[i]? % 256 := by
    rw [← toNat_byte]
    show u8At (pageC s) (i + 1) = _
    rw [pageC_eq]
    interval_cases i <;> rfl
  have backoff : u16At c 5 = u16At (byte2 s.backoff) 0 := by
    show u16At (pageC s) 5 = _
    rw [pageC_eq]
    rfl
  have last : u8At c 7 = ((geometry s).code + 4 * flag s.mismatch + 8 * flag s.flight.isSome + 16 * flag (loadingHalted s) +
      32 * s.sequencer.code) % 256 := by
    rw [← toNat_byte]
    show u8At (pageC s) 7 = _
    rw [pageC_eq]
    rfl
  refine ⟨?_, ?_, fun i inside => ⟨fun unused => ?_, fun j used => ?_⟩, ?_, ?_⟩
  · show (pageC s).length = 8
    rw [pageC_eq]
    rfl
  · show u8At (pageC s) 0 = 3
    rw [pageC_eq]
    rfl
  · rw [joint inside, unused]
    rfl
  · rw [joint inside, used]
    rfl
  · rw [backoff, u16At_byte2]
  · have flagged (b : Bool) (n : Nat) : n * flag b = bit b n := by cases b <;> simp [flag, bit]
    have small (b : Bool) (n : Nat) : bit b n ≤ n := by cases b <;> simp [bit]
    have status : (geometry s).code ≤ 2 := by cases geometry s <;> decide
    have runs : s.sequencer.code ≤ 2 := by cases s.sequencer <;> decide
    have mismatch := small s.mismatch 4
    have flight := small s.flight.isSome 8
    have halted := small (loadingHalted s) 16
    rw [last, flagged, flagged, flagged, Nat.mod_eq_of_lt (by omega)]
    rfl

theorem statusFrame_eq (s : State) {data : List Byte} (long : data.length = 8) :
    statusFrame s data = ⟨false, false, 10 * 128 + s.channel.toNat, 8, data⟩ := by
  unfold statusFrame ownFrame
  rw [long]

/-- Settles O39: the pages by their bytes. -/
theorem statusExpiryComposesThePages : Obligations.StatusExpiryComposesThePages := by
  intro s high due page bit
  obtain ⟨longA, kindA, governor, axes, band, ground, spare⟩ := pageA_bytes s
  obtain ⟨longB, kindB, depth, noDepth, extension, aligned⟩ := pageB_bytes s
  obtain ⟨longC, kindC, joints, backoff, states⟩ := pageC_bytes s
  have run : exec .statusTimerExpiry s = .next (statusExpiry s) := congrArg _ (onExpiry_due s _ _ high due)
  refine ⟨pageA s, pageB s, pageC s, ?_, longA, longB, longC, kindA, governor, axes, band, ground, spare, kindB, depth, noDepth,
    extension, aligned, kindC, joints, backoff, states⟩
  rw [run, statusExpiry, statusPages, statusFrame_eq s longA, statusFrame_eq s longB, statusFrame_eq s longC]
  rfl

end Sys2Proof.Machine
end
